-- ==== Sys2Proof/Word.lean ====
section
/-! DEFINITION. The words of the Dormik 4160: the byte of the link and of the exchange memory, and the
two bit blocks of a top-up code (R97). Everything the reference counts, prices or compares is a `Nat`
or an `Int`, as the reference's own arithmetic is exact (00_scope, Conventions). -/

namespace Sys2Proof

/-- One byte of the link and of the exchange memory (R1, R2). -/
abbrev Byte := BitVec 8

/-- A key value (R93). -/
abbrev KeyValue := BitVec 64

/-- A block of a top-up code, before or after the transform (R97). -/
abbrev Block := BitVec 72

/-- A retention write number, counted modulo 2^32 (R179). -/
abbrev WriteNumber := BitVec 32

end Sys2Proof
end

