-- ==== Sys2Proof/Syntax.lean ====
section
/-! DEFINITION. The commands: one constructor of `Instr` for each row of spec/opcode_table.json, in the table's
order. A row is a whole step of the part: a frame of the host, an event of the supply, the clock or a pin,
or a step that follows another one at once. The operands of a frame are its bytes; the operands of an
event are what the part measures or samples at that event. -/

namespace Sys2Proof

/-- One quantity for each phase L1, L2, L3. -/
structure Phases (α : Type) where
  l1 : α
  l2 : α
  l3 : α
deriving DecidableEq, Repr

/-- The three sense inputs of the tamper monitor (section 9.3). -/
inductive SenseInput where
  | caseIn
  | coverIn
  | magIn
deriving DecidableEq, Repr

/-- The three conditions that the metering engine qualifies for the tamper monitor (R34). -/
inductive Condition where
  | reverse
  | voltage
  | bypass
deriving DecidableEq, Repr

/-- What the front end measured over a full interval (R22). The quantities are the measurements before the
ranges of R22 are applied: the close of the interval delivers each at the nearer end of its range. -/
structure Measurement where
  /-- Signed active energy of each phase over the interval, in µWh. -/
  energy : Phases Int
  /-- Supply-side phase voltage, in units of 0.1 V. -/
  voltage : Phases Nat
  /-- Phase current, in mA. -/
  current : Phases Nat
  /-- Measured neutral current, in mA. -/
  neutral : Nat
  /-- Residual current, in mA. -/
  residual : Nat
  /-- Supply frequency, in mHz. -/
  frequency : Nat
  /-- LV1 to LV3 at the end of the interval: present above 80 V. -/
  loadSide : Phases Bool
  /-- VBAT as the supply monitor samples it at the close, in mV (R187). -/
  vbat : Nat
deriving DecidableEq, Repr

/-- What the front end measured over the elapsed part of an interval that HOLDUP entry closes early (R32). -/
structure PartMeasurement where
  /-- Elapsed length in whole milliseconds, 0 to 1000. -/
  elapsed : Nat
  energy : Phases Int
  current : Phases Nat
deriving DecidableEq, Repr

/-- The levels of the case, cover and magnet pins; `true` is High. -/
structure SensePins where
  caseHigh : Bool
  coverHigh : Bool
  magHigh : Bool
deriving DecidableEq, Repr

/-- The copies of the retention image that have been damaged since they were written (R179): bit n of a set
names section n, in the order of the failed-section mask (R184); the two bits of `slots` name the
completion slots. -/
structure Damage where
  setA : BitVec 8
  setB : BitVec 8
  slots : BitVec 2
deriving DecidableEq, Repr

/-- What the part finds at a start. -/
structure StartInputs where
  /-- How many of steps 1 to 5 of the start sequence end before the next command (R185): 5 is the whole of it. -/
  steps : Nat
  /-- The sense pins, sampled at step 2 (R170, R171). -/
  pins : SensePins
  /-- LV1 to LV3, sampled at step 4 (R156). -/
  loadSide : Phases Bool
  /-- Whether the crystal runs, which a POWER_ON start looks at (R42). -/
  crystalRuns : Bool
  /-- VBAT at step 5, in mV (R187). -/
  vbat : Nat
  /-- The image copies found damaged. -/
  damage : Damage
deriving DecidableEq, Repr

/-- What an entry to BATTERY cuts off and samples (R178, R169). -/
structure BatteryInputs where
  /-- How many of the eight sections the retention write in progress had written to their end. -/
  written : Nat
  caseHigh : Bool
  coverHigh : Bool
deriving DecidableEq, Repr

/-- A memory frame, or a piece of one: its complete bytes behind the command byte, or further ones of a frame held open. With
`more` LSEL_N stays Low behind them, and the next piece of its kind carries the frame on: what comes about between two bytes
of a frame stands between two such commands (R2, R6). -/
structure FramePiece where
  bytes : List Byte
  more : Bool
deriving DecidableEq, Repr

/-- The commands of the block, one constructor for each row of spec/opcode_table.json. -/
inductive Instr where
  /-- READ_MEMORY: address high, address low, then one byte for each data byte clocked (R2). -/
  | readMemory (piece : FramePiece)
  /-- WRITE_MEMORY: address high, address low, data (R3). -/
  | writeMemory (piece : FramePiece)
  /-- READ_REGISTER: the complete bytes after the command byte: register number, then one byte for each data
  byte clocked (R4). -/
  | readRegister (bytes : List Byte)
  /-- WRITE_REGISTER to register 1: the complete data bytes after the register number (R18). -/
  | writeAttention (data : List Byte)
  /-- WRITE_REGISTER to register 2: the complete data bytes after the register number (R19). -/
  | writeAttentionMask (data : List Byte)
  /-- WRITE_REGISTER to register 0 or 3 to 255, or cut off before its register number: the complete bytes
  after the command byte (R4). -/
  | writeRegisterIgnored (bytes : List Byte)
  /-- A frame with another command byte, or cut off before its command byte: all its complete bytes (R1). -/
  | unknownCommandFrame (bytes : List Byte)
  /-- The taken TOKEN entry is given pre-checks 1 to 6 (R99). -/
  | token
  /-- The bad-code count reaches 5 (R113). -/
  | keypadLockoutStart
  /-- The end of a decode whose plaintext is a TEST token (R104). -/
  | test
  /-- The end of a decode whose plaintext is a CREDIT token (R105). -/
  | credit
  /-- The end of a decode whose plaintext is a DEBT_ADD token (R69). -/
  | debtAdd
  /-- The end of a decode whose plaintext is a CLEAR token (R70). -/
  | clear
  /-- The end of a decode whose plaintext is a SETTING token (R106). -/
  | setting
  /-- The end of a decode whose plaintext is a WINDOW_OPEN token (R119). -/
  | windowOpen
  /-- The end of a decode whose plaintext is a TAMPER_CLEAR token (R168). -/
  | tamperClear
  /-- The end of a decode whose plaintext is a KEY_CHANGE token (R111). -/
  | keyChange
  /-- The end of a decode whose plaintext is a REMOTE_OPEN token (R109). -/
  | remoteOpen
  /-- The end of a decode whose plaintext is a REMOTE_CLOSE token (R109). -/
  | remoteClose
  /-- The taken RECONNECT entry is decided (R148). -/
  | reconnect
  /-- The taken EMERGENCY entry is decided (R81). -/
  | emergency
  /-- The taken TIME_SET entry is applied (R45). -/
  | timeSet
  /-- The taken CALENDAR_SUBMIT entry begins its wait for the apply (R51). -/
  | calendarSubmit
  /-- The apply of the CALENDAR_SUBMIT entry in work (R52). -/
  | calendarSubmitApply
  /-- The taken WINDOW_CLOSE entry has action 0 (R125). -/
  | windowCloseDiscard
  /-- The taken WINDOW_CLOSE entry has action 1 (R126). -/
  | windowCloseCommit
  /-- The taken FLAG_CLEAR entry is decided (R72). -/
  | flagClear
  /-- The taken entry has an unknown kind byte (R11). -/
  | kindUnknown
  /-- The publication in progress ends (R14, R17). -/
  | publicationEnd
  /-- The retention write in progress completes (R180). -/
  | retentionWriteComplete
  /-- The periodic count reaches 3600 (R181). -/
  | periodicWriteDue
  /-- A full metering interval ends (R31). -/
  | intervalClose (m : Measurement)
  /-- A run counter reaches 10 (R34). -/
  | conditionQualified (c : Condition)
  /-- The weld counter reaches 3 (R38, R144). -/
  | weldObservation
  /-- The over-count reaches LOAD_TRIP_DELAY_S (R150). -/
  | loadTrip
  /-- The LOAD retry timer reaches 0 (R151). -/
  | loadRetryExpiry
  /-- The clean-run count reaches 1800 (R152). -/
  | cleanRunComplete
  /-- The STUCK retry timer reaches 0 (R145). -/
  | stuckRetry
  /-- The coil pulse in progress ends (R139). -/
  | coilPulseEnd
  /-- The confirmation wait in progress ends (R140). -/
  | confirmationWaitEnd
  /-- The lockout's remaining seconds reach 0 (R113). -/
  | keypadLockoutEnd
  /-- The window's remaining seconds reach 0 (R121). -/
  | windowExpiry
  /-- One second of the time base ends (R40); in BATTERY the case and cover pins are sampled (R169). -/
  | meterSecond (pins : SensePins)
  /-- The crystal stops (R42). -/
  | crystalStop
  /-- The crystal returns (R43). -/
  | crystalReturn
  /-- The 10 ms samples of one sense pin, in order; `true` is High (R162). -/
  | inputQualified (input : SenseInput) (samples : List Bool)
  /-- VS falls below 4.40 V (R176). -/
  | holdupEntry (p : PartMeasurement)
  /-- RESET_N has been Low for 1 ms (R182). -/
  | resetNLow (p : PartMeasurement)
  /-- VS rises: to 4.60 V or above in a hold-up (R177); in START and in a reset hold-up, to 4.40 V or above, which is all that
  is looked at there (R186). -/
  | holdupReturn
  /-- VS falls below 3.10 V (R178). -/
  | batteryEntry (b : BatteryInputs)
  /-- VS rises to 4.70 V or above (R183). -/
  | startEntry (i : StartInputs)
  /-- The reset write has completed and RESET_N is High (R182). -/
  | resetStart (i : StartInputs)
  /-- The start write completes and the last step of the start sequence is made (R185). -/
  | startReady
  /-- VBAT can no longer hold the battery domain while VS is absent (R175). -/
  | batteryDomainLoss
  /-- The end of a decode whose plaintext fails its check field or names class 10 to 15 (R100). -/
  | tokenDecodeEnd
  /-- The taken WINDOW_CLOSE entry has an action byte that is neither 0 nor 1 (R124). -/
  | windowClosePayloadRange
deriving DecidableEq, Repr

end Sys2Proof
end

