-- ==== Sys2Proof/Decode.lean ====
section
/-! DEFINITION. The commands that frames spell, by the command byte and the register number (section 1.1), and those that words
spell: none, as the opcode table of this block gives no row any bits. -/

namespace Sys2Proof

/-- The command that a whole frame stands for, from its complete bytes (R1, R4): its command byte names the frame type, and the
register number of a WRITE_REGISTER frame the register. A frame with another command byte, or without a complete one,
is ignored, and so is a write to a register that cannot be written or to none. -/
def frameCommand (frame : List Byte) : Instr :=
  match frame with
  | [] => .unknownCommandFrame []
  | c :: bytes =>
    if c = 0x61 then .readMemory ⟨bytes, false⟩
    else if c = 0x62 then .writeMemory ⟨bytes, false⟩
    else if c = 0x71 then .readRegister bytes
    else if c = 0x72 then
      match bytes with
      | [] => .writeRegisterIgnored []
      | r :: data =>
        if r = 1 then .writeAttention data
        else if r = 2 then .writeAttentionMask data
        else .writeRegisterIgnored bytes
    else .unknownCommandFrame frame

/-- The command that a word spells by the table's bits: none, as no row of the table has bits. -/
def decodeTableWord (_nbits _w : Nat) : Option Instr := none

end Sys2Proof
end

