-- ==== Sys2Proof/Config.lean ====
section
/-! DEFINITION. What the reference leaves to the part without giving a value: the keyed transform of top-up codes, the factory
key (R97, R93), and where other arrivals fall between the day ends of a catch-up (R66). All are opaque: nothing in Lean can
evaluate them, so a statement holds for every part there may be. Beside them stand the fixed limits of the reference. -/

namespace Sys2Proof.Config

/-- The keyed permutation T_K of 72-bit blocks, one for each key value (R97).
Its construction is not given in the reference; its type says all that R97 says of it: for each key value a
fixed one-to-one map of the blocks, whose inverse is fixed by the same key value. (Assumption 1.) -/
opaque transform : KeyValue → Equiv.Perm Block

/-- The factory key value of slot 0, kept in the read-only factory store (R93, R97).
Not given in the reference. (Assumption 1.) -/
opaque factoryKey : KeyValue

/-- How many day ends of a catch-up follow one another before the next arrival is taken, at each point in turn at which the
reference lets another arrival fall between two of them (R56, R66). (Assumption 32.) -/
opaque dayEndsTogether : Nat → Nat

/-- The largest balance, and minus the smallest one, in cu (R60). -/
abbrev balanceLimit : Int := 9999999999

/-- The largest debt, in cu (R60). -/
abbrev debtLimit : Nat := 9999999999

/-- The unit of the residue: 10^9 residues make one cu (R60, R62). -/
abbrev residueUnit : Nat := 1000000000

/-- The last second of meter time, at which the count stops (R40). -/
abbrev meterTimeEnd : Nat := 4294967295

/-- Addresses of the exchange memory as the host sees them are 16 bits wide (R2, R3). -/
abbrev addressSpace : Nat := 65536

/-- The largest phase energy of one interval, in µWh (R22, R23). -/
abbrev energyEnd : Int := 16777215

end Sys2Proof.Config
end

