-- ==== Sys2Proof/Machine/State.lean ====
section
/-! DEFINITION. The state of the Dormik 4160, block by block, as plain data, and the machine as it stands before its
first start (`State.reset`). Retained state stands in structures of its own, since a retention write takes
those structures whole (R180) and a start gives them back (R184). -/

namespace Sys2Proof.Machine

/-! ## Names of states, causes and codes -/

/-- The power state (R174). -/
inductive Power where
  | start
  | mains
  | holdup
  | battery
deriving DecidableEq, Repr

/-- The start cause (R183). -/
inductive StartCause where
  | powerOn
  | mainsReturn
  | resetPin
deriving DecidableEq, Repr

/-- The window state (R118). -/
inductive WindowState where
  | closed
  | opened
  | committing
deriving DecidableEq, Repr

/-- How the last service window ended (R118). -/
inductive EndCause where
  | none
  | committed
  | discarded
  | expired
  | holdup
deriving DecidableEq, Repr

/-- The derived emergency credit state (R79). -/
inductive EcState where
  | unavailable
  | offered
  | inUse
  | exhausted
deriving DecidableEq, Repr

/-- The contactor state (R138). -/
inductive Contactor where
  | closed
  | opening
  | opened
  | armed
  | closing
  | stuck
deriving DecidableEq, Repr

/-- The governing reason (R136). -/
inductive Governing where
  | none
  | tamper
  | remote
  | load
  | credit
deriving DecidableEq, Repr

/-- The state of a tamper record (R159). -/
inductive TamperState where
  | clear
  | active
  | latched
deriving DecidableEq, Repr

/-- The oscillator source (R40). -/
inductive Oscillator where
  | crystal
  | backup
deriving DecidableEq, Repr

/-- The winding that an attempt drives (R139). -/
inductive Winding where
  | open
  | close
deriving DecidableEq, Repr

/-- Where an attempt of a switching operation, or a STUCK attempt, stands (R139, R140, R154). -/
inductive Attempt where
  /-- No attempt in progress. -/
  | idle
  /-- The coil pulse is being driven. -/
  | pulse (w : Winding)
  /-- The confirmation wait is running. -/
  | wait (w : Winding)
  /-- The wait has ended; the next measured-power arrival judges. -/
  | judge (w : Winding)
  /-- HOLDUP deferred the pulse: it begins at the return to MAINS. -/
  | deferred (w : Winding)
  /-- HOLDUP took the wait or the judgment away: a wait begins at the return to MAINS. -/
  | rewait (w : Winding)
deriving DecidableEq, Repr

/-- A copy set of the retention image (R179). -/
inductive SetName where
  | a
  | b
deriving DecidableEq, Repr

/-- Which copy sets hold the last completed write (R180). -/
inductive LastSet where
  | a
  | b
  | both
deriving DecidableEq, Repr

/-- What a requester of a retention write waits on (R180): a write that has yet to begin, or the one in progress. -/
inductive Await where
  | next
  | current
deriving DecidableEq, Repr

/-- The reset write of a reset hold-up (R182). -/
inductive ResetWrite where
  | none
  | waiting (a : Await)
  | done
deriving DecidableEq, Repr

/-- The result codes (section 11.7). -/
inductive ResultCode where
  | accepted
  | lockedOut
  | digitInvalid
  | selectorRange
  | keyAbsent
  | bodyRange
  | keyExpired
  | checkFail
  | classUnknown
  | authority
  | serialForm
  | serialOld
  | serialUsed
  | serialAhead
  | payloadRange
  | creditLimit
  | windowRequired
  | windowRank
  | windowBusy
  | settingId
  | keyTarget
  | keyRevision
  | notArmed
  | ecNotOffered
  | timeTolerance
  | windowNotOpen
  | calRank
  | calCount
  | calField
  | calDuplicate
  | calDate
  | kindUnknown
  | powerFail
deriving DecidableEq, Repr

/-! ## Exchange memory and work intake (chapter 1) -/

/-- The exchange memory: the bytes that are not 0x00, by rising address. An unlisted address reads 0x00, as the
start sequence leaves it (R20). -/
abbrev Memory := List Host.Cell

/-- The result of an entry (R12): its code, its item byte and its result body from offset 6. -/
structure Result where
  code : ResultCode
  item : Nat
  body : List Byte
deriving DecidableEq, Repr

/-- How far the entry in work has come. -/
inductive Stage where
  /-- Taken and handed to its owning block, which decides it at once (R10, R11). -/
  | handed
  /-- A TOKEN in its decode (R92). -/
  | decoding
  /-- A CALENDAR_SUBMIT between its taking and its apply (R51). -/
  | calendar
  /-- Waiting for its retention write, at whose completion it completes with `r` (R92, R51, R126). -/
  | waiting (a : Await) (r : Result)
deriving DecidableEq, Repr

/-- The entry in work (R10): its slot number, the snapshot of the slot body from the kind byte on, and its stage. -/
structure Work where
  slot : Nat
  snapshot : List Byte
  stage : Stage
deriving DecidableEq, Repr

/-- The work intake (R9, R10, R16). -/
structure Intake where
  /-- The posted slot numbers, oldest at the head. -/
  list : List Nat
  work : Option Work
  /-- READY of PART_STATUS: the intake is open. -/
  ready : Bool
deriving DecidableEq, Repr

/-- ATTENTION, its mask, and the publication that times its bits (R14, R17, R19). The bits stand at the positions
of R17: SLOT_DONE 0, SWITCH 1, CREDIT 2, TAMPER 3, SUPPLY 4, CALENDAR 5. -/
structure Attn where
  bits : BitVec 6
  mask : BitVec 6
  /-- Bits due: their change has come about, and no publication has begun since. -/
  due : BitVec 6
  /-- Bits that the publication in progress raises at its end. -/
  inFlight : BitVec 6
  /-- A publication is in progress: the generation counter is odd. -/
  busy : Bool
  /-- A further publication was requested while one was in progress. -/
  queued : Bool
deriving DecidableEq, Repr

/-! ## Metering engine (chapter 2) -/

/-- Six numbers, one for each tariff band 0 to 5. -/
structure Bands where
  b0 : Nat
  b1 : Nat
  b2 : Nat
  b3 : Nat
  b4 : Nat
  b5 : Nat
deriving DecidableEq, Repr

/-- The eight energy registers, in µWh (section 2.3). -/
structure Energy where
  total : Nat
  bands : Bands
  exported : Nat
deriving DecidableEq, Repr

/-- The qualification of one condition (R34). -/
structure Qualification where
  /-- The reported state: `true` is PRESENT. -/
  reported : Bool
  run : Nat
deriving DecidableEq, Repr

/-- The metering engine outside its energy registers. -/
structure Meter where
  /-- SUMMATION_LAW as latched when the interval began (R21). -/
  law : Nat
  /-- MAGNET_POWER_W as latched when the interval began (R21). -/
  magnetPower : Nat
  /-- Phase energies of the last full interval after anti-creep, in µWh (R24). -/
  energies : Phases Int
  voltage : Phases Nat
  current : Phases Nat
  neutral : Nat
  residual : Nat
  frequency : Nat
  /-- Per-phase power of the last full interval, in W (R25). -/
  power : Phases Int
  /-- Measured import power of the last full interval, in W (R27). -/
  measured : Nat
  /-- Billed import of the last interval closed, in µWh (R28). -/
  billed : Nat
  /-- Band of the last interval closed. -/
  band : Nat
  /-- Whether the last interval closed was substituted (R28). -/
  substituted : Bool
  supplySide : Phases Bool
  loadSide : Phases Bool
  reverse : Qualification
  voltageTap : Qualification
  bypass : Qualification
  /-- The weld counter (R38). -/
  weld : Nat
deriving DecidableEq, Repr

/-! ## Tariff calendar (chapter 3) -/

/-- Meter time and the state of its oscillators, kept in the battery domain (chapter 3). -/
structure Clock where
  /-- Seconds since 2000-01-01 00:00:00 (R40). -/
  time : Nat
  source : Oscillator
  /-- CERTAIN or UNCERTAIN (R44). -/
  certain : Bool
  /-- The crystal-failure mark (R42). -/
  crystalFailed : Bool
deriving DecidableEq, Repr

/-- A switch point (R47). The bits of a day mask are those of R188: Monday 0 to Sunday 6, holiday 7. -/
structure SwitchPoint where
  mask : Byte
  minute : Nat
  band : Nat
deriving DecidableEq, Repr

/-- A holiday (R47); year 0 matches every year. -/
structure Holiday where
  year : Nat
  month : Nat
  day : Nat
deriving DecidableEq, Repr

/-- A friendly window (R47): the minutes from `start` up to `stop`, `stop` left out. -/
structure FriendlyWindow where
  mask : Byte
  start : Nat
  stop : Nat
deriving DecidableEq, Repr

/-- A calendar (R47). The activation time of an active calendar is 0 (R54). -/
structure Tariff where
  id : Nat
  /-- Local offset in minutes. -/
  offset : Int
  prices : Bands
  defaultBand : Nat
  switchPoints : List SwitchPoint
  holidays : List Holiday
  windows : List FriendlyWindow
  /-- Standing charge in cu per day. -/
  standing : Nat
  activation : Nat
deriving DecidableEq, Repr

/-- The CALENDARS section: both calendars and the last charged local date (R47, R55). -/
structure CalendarBook where
  active : Tariff
  passive : Option Tariff
  lastCharged : Option Nat
deriving DecidableEq, Repr

/-! ## Credit engine (chapters 4 and 5) -/

/-- The CREDIT section: the credit state of R60. -/
structure Account where
  balance : Int
  residue : Nat
  debt : Nat
  /-- The EC grant G. -/
  grant : Nat
  credited : Nat
  recoveredTopup : Nat
  energyCharged : Nat
  standingCharged : Nat
  recoveredDaily : Nat
  unbilled : Nat
  debtAdded : Nat
  debtRecovered : Nat
  balFloor : Bool
  debtLimit : Bool
  energySat : Bool
  supplyLoss : Bool
deriving DecidableEq, Repr

/-- The last interval charge, as shown on the status page (R77). -/
structure LastCharge where
  band : Nat
  price : Nat
  charged : Nat
  unbilled : Nat
deriving DecidableEq, Repr

/-- The last day end, as shown on the status page (R77). -/
structure LastDayEnd where
  standing : Nat
  recovered : Nat
deriving DecidableEq, Repr

/-- The credit engine: its account, what it last derived (R80), and what it shows. -/
structure Credit where
  account : Account
  ecState : EcState
  lowCredit : Bool
  /-- The CREDIT reason as last derived (R86). -/
  reason : Bool
  lastCharge : LastCharge
  lastDayEnd : LastDayEnd
deriving DecidableEq, Repr

/-! ## Code decoder (chapter 6) -/

/-- A key slot with its serial window (R93, R95). -/
structure KeySlot where
  present : Bool
  authority : Nat
  revision : Nat
  key : KeyValue
  /-- The last local date on which the key decodes; 0 is none. -/
  expiry : Nat
  /-- The floor F. -/
  floor : Nat
  /-- The spent set S, in rising order. -/
  spent : List Nat
  lastSerial : Nat
deriving DecidableEq, Repr

/-- The last accepted token (R117). -/
structure LastToken where
  source : Nat
  slot : Nat
  cls : Nat
  serial : Nat
deriving DecidableEq, Repr

/-- The KEYS section: the decoder's whole state but the decode in progress (R116). -/
structure Decoder where
  key0 : KeySlot
  key1 : KeySlot
  key2 : KeySlot
  key3 : KeySlot
  badCount : Nat
  /-- The keypad lockout's remaining seconds, 0 when it is not running (R113). -/
  lockout : Nat
  /-- The REMOTE order (R109). -/
  remoteOrder : Bool
  lastToken : LastToken
deriving DecidableEq, Repr

/-! ## Service window and settings (chapter 7) -/

/-- The settings record (R130), in the order of the ids 1 to 19. -/
structure Settings where
  summationLaw : Nat
  loadLimit : Nat
  loadTripDelay : Nat
  loadRetryDelay : Nat
  loadLockoutTrips : Nat
  ecAmount : Nat
  ecOffer : Nat
  lowCredit : Nat
  friendlyHold : Nat
  creditLevel : Nat
  loadLevel : Nat
  creditAutoClose : Nat
  debtRate : Nat
  debtDaily : Nat
  magnetPower : Nat
  tamperActions : Nat
  caseInput : Nat
  coverInput : Nat
  magnetInput : Nat
deriving DecidableEq, Repr

/-- The service window (R118). -/
structure Window where
  state : WindowState
  rank : Nat
  remaining : Nat
  staged : Option Settings
  cause : EndCause
deriving DecidableEq, Repr

/-! ## Supply switch controller (chapter 8) -/

/-- A set of disconnect reasons (R134). -/
structure Reasons where
  tamper : Bool
  remote : Bool
  load : Bool
  credit : Bool
deriving DecidableEq, Repr

/-- The SWITCH section (R155). -/
structure SwitchKept where
  /-- The commanded position: `true` is CLOSED. -/
  commandedClosed : Bool
  openedBy : Reasons
  loadLatch : Bool
  tripCount : Nat
  manualClose : Bool
deriving DecidableEq, Repr

/-- The supply switch controller. -/
structure Switch where
  kept : SwitchKept
  /-- The reason set: the active reasons. -/
  reasons : Reasons
  /-- The friendly state as last handed by the calendar (R135). -/
  friendly : Bool
  /-- The window contribution as last handed (R122). -/
  windowHold : Nat
  /-- The hold level H of the last evaluation. -/
  hold : Nat
  acting : Reasons
  held : Reasons
  governing : Governing
  contactor : Contactor
  attemptCount : Nat
  attempt : Attempt
  fault : Bool
  stuckTimer : Nat
  overCount : Nat
  retryTimer : Nat
  cleanRun : Nat
  /-- The contactor state at the end of the previous evaluation or operation end (R137, step 4). -/
  seenContactor : Contactor
  /-- The governing reason at the end of the previous evaluation or operation end (R137, step 4). -/
  seenGoverning : Governing
deriving DecidableEq, Repr

/-! ## Tamper monitor (chapter 9) -/

/-- A tamper record (R159). -/
structure TamperRecord where
  state : TamperState
  firstTime : Nat
  firstImport : Nat
  firstBalance : Int
  lastTime : Nat
  lastEnd : Nat
  count : Nat
  /-- The action: `true` is DISCONNECT. -/
  disconnect : Bool
deriving DecidableEq, Repr

/-- The qualification of one sense input (R162). -/
structure InputState where
  /-- The qualified level: `true` is active. -/
  qualified : Bool
  debounce : Nat
  /-- The raw pin level at the last sample; `true` is High (R173). -/
  raw : Bool
deriving DecidableEq, Repr

/-- The tamper monitor. -/
structure Tamper where
  /-- The ten records, by kind number (R158). -/
  records : Vector TamperRecord 10
  caseIn : InputState
  coverIn : InputState
  magIn : InputState
  /-- The TAMPER reason as last derived; after start step 4 also as last handed (R166, R167). -/
  reason : Bool
deriving DecidableEq, Repr

/-- The battery-time detection of one input (R169). -/
structure BatteryWatch where
  count : Nat
  firstTime : Nat
  /-- The previous level: `true` is active. -/
  previous : Bool
  /-- The copy of the input's mode. -/
  mode : Nat
deriving DecidableEq, Repr

/-- The battery domain beside the clock (R169, R175). -/
structure Battery where
  /-- The domain-intact mark. -/
  intact : Bool
  /-- The supply-loss mark. -/
  supplyLoss : Bool
  caseIn : BatteryWatch
  coverIn : BatteryWatch
  /-- The copy of MAGNET's mode, which a settings commit writes beside the two others (R164). -/
  magMode : Nat
deriving DecidableEq, Repr

/-! ## Supply monitor and retention store (chapter 10) -/

/-- Everything that a retention write takes, section by section (R179). -/
structure Sections where
  account : Account
  energy : Energy
  decoder : Decoder
  settings : Settings
  book : CalendarBook
  switch : SwitchKept
  records : Vector TamperRecord 10
  time : Nat
deriving DecidableEq, Repr

/-- One copy of a section: the write number it carries, whether its CRC-32 matches, and what it holds (R179). -/
structure Copy (α : Type) where
  number : WriteNumber
  ok : Bool
  held : α
deriving DecidableEq, Repr

/-- A copy set of the retention image (R179). -/
structure CopySet where
  account : Copy Account
  energy : Copy Energy
  decoder : Copy Decoder
  settings : Copy Settings
  book : Copy CalendarBook
  switch : Copy SwitchKept
  records : Copy (Vector TamperRecord 10)
  time : Copy Nat
deriving DecidableEq, Repr

/-- A completion slot (R179). -/
structure CompletionSlot where
  number : WriteNumber
  ok : Bool
deriving DecidableEq, Repr

/-- One of the two completion slots (R179). -/
inductive SlotName where
  | slot0
  | slot1
deriving DecidableEq, Repr

/-- The nonvolatile retention image (R179). -/
structure Image where
  setA : CopySet
  setB : CopySet
  slot0 : CompletionSlot
  slot1 : CompletionSlot
  /-- The completion slot written last; `none` as it leaves the factory. -/
  lastSlot : Option SlotName
deriving DecidableEq, Repr

/-- A retention write in progress (R180): its number, the set it writes, and the sections it took. -/
structure Write where
  number : WriteNumber
  target : SetName
  sections : Sections
deriving DecidableEq, Repr

/-- The retention store (R180, R181). -/
structure Store where
  image : Image
  writing : Option Write
  /-- A request is pending. -/
  requested : Bool
  lastNumber : WriteNumber
  lastSet : LastSet
  /-- The periodic count (R181). -/
  periodic : Nat
deriving DecidableEq, Repr

/-- The supply monitor (R174, R182, R185, R187). -/
structure Supply where
  power : Power
  /-- The hold-up in progress was entered, or marked, for an external reset. -/
  resetHold : Bool
  resetWrite : ResetWrite
  /-- A RESET_N low remembered in START (R186). -/
  resetRemembered : Bool
  /-- VS is below 4.40 V: from HOLDUP_ENTRY until HOLDUP_RETURN tells that it is no longer. A start whose step 6 is made
  while it holds leads to HOLDUP (R186). (Assumption 11.) -/
  vsLow : Bool
  /-- How many steps of the start sequence have ended, 0 to 5, while the power state is START (R185). -/
  startStep : Nat
  cause : StartCause
  /-- The failed-section mask of the last start (R184). -/
  failed : Byte
  /-- BATTERY_LOW (R187). -/
  batteryLow : Bool
deriving DecidableEq, Repr

/-- The pins that the steps of a start sample (R156, R170, R171, R187). -/
structure Pins where
  sense : SensePins
  loadSide : Phases Bool
  vbat : Nat
deriving DecidableEq, Repr

/-! ## Steps that follow at once -/

/-- A step that is due at once. The named rows of the table stand for themselves; the others are the rest of
the step in progress, which goes on when the row before it has been made. (Assumption 3.) -/
inductive Due where
  /-- Row TOKEN. -/
  | token
  /-- Row RECONNECT. -/
  | reconnect
  /-- Row EMERGENCY. -/
  | emergency
  /-- Row TIME_SET. -/
  | timeSet
  /-- Row CALENDAR_SUBMIT. -/
  | calendarSubmit
  /-- Row WINDOW_CLOSE_DISCARD. -/
  | windowCloseDiscard
  /-- Row WINDOW_CLOSE_COMMIT. -/
  | windowCloseCommit
  /-- Row WINDOW_CLOSE_PAYLOAD_RANGE. -/
  | windowClosePayloadRange
  /-- Row FLAG_CLEAR. -/
  | flagClear
  /-- Row KIND_UNKNOWN. -/
  | kindUnknown
  /-- Row KEYPAD_LOCKOUT_START. -/
  | keypadLockoutStart
  /-- Row KEYPAD_LOCKOUT_END. -/
  | keypadLockoutEnd
  /-- Row WINDOW_EXPIRY. -/
  | windowExpiry
  /-- Row PERIODIC_WRITE_DUE. -/
  | periodicWriteDue
  /-- Row CONDITION_QUALIFIED. -/
  | conditionQualified (c : Condition)
  /-- Row WELD_OBSERVATION. -/
  | weldObservation
  /-- Row LOAD_TRIP. -/
  | loadTrip
  /-- Row LOAD_RETRY_EXPIRY. -/
  | loadRetryExpiry
  /-- Row CLEAN_RUN_COMPLETE. -/
  | cleanRunComplete
  /-- Row STUCK_RETRY. -/
  | stuckRetry
  /-- Row START_READY. -/
  | startReady
  /-- The completion of the entry in work with this result (R12). -/
  | complete (r : Result)
  /-- Step 1 of R149: the judgment of an attempt. -/
  | judge
  /-- Step 2 of R149: the step of the STUCK retry timer. -/
  | stuckTimer
  /-- Step 2 of R149: the close-condition test in STUCK. -/
  | stuckTest
  /-- Step 3 of R149: the step of the LOAD retry timer. -/
  | retryTimer
  /-- Step 4 of R149: the load limiter's count. -/
  | overCount
  /-- Step 5 of R149: the step of the clean-run count. -/
  | cleanRun
  /-- Step 6 of R31: one condition's run counter. -/
  | condition (c : Condition)
  /-- Step 6 of R31: the weld counter. -/
  | weld
  /-- The lockout's countdown at an interval close (R113). -/
  | lockoutCount
  /-- The window's countdown at a full interval close (R120). -/
  | windowCount
  /-- The periodic count at a full interval close (R181). -/
  | periodicCount
  /-- Step 7 of R31: the request for a publication. -/
  | publish
  /-- The day-end catch-up goes on (R56); `fresh` until the step that began it has ended. While day ends are left, other
  arrivals are taken between two of them (R66). (Assumption 32.) -/
  | catchUp (fresh : Bool)
  /-- The friendly evaluation behind a catch-up (R50, R54). -/
  | friendly
deriving DecidableEq, Repr

/-! ## The link port (section 1.1) -/

/-- Where a memory frame in progress stands (R2, R3). -/
inductive FramePlace where
  /-- Behind its command byte. -/
  | start
  /-- Behind its address high byte. -/
  | half (hi : Byte)
  /-- Its next data byte is at this address. -/
  | data (address : Nat)
deriving DecidableEq, Repr

/-- A memory frame in progress: LSEL_N is Low between two of its bytes. -/
structure OpenFrame where
  /-- The frame is a WRITE_MEMORY frame. -/
  write : Bool
  place : FramePlace
deriving DecidableEq, Repr

/-- The link port. -/
structure Link where
  /-- The bytes that LSO has shifted out in the frame in progress, or else in the last one; `none` when it stayed at high
  impedance (R6). -/
  out : Option (List Byte)
  frame : Option OpenFrame
deriving DecidableEq, Repr

/-! ## The day-end catch-up (R56) -/

/-- What the model keeps of the day-end catch-up, beside the agenda (R56, R66). (Assumption 32.) -/
structure CatchUp where
  /-- The day ends that the catch-up in progress, or else the last one, has issued: at most 366. -/
  issued : Nat
  /-- How often `Config.dayEndsTogether` has been read. -/
  choices : Nat
deriving DecidableEq, Repr

/-! ## The machine -/

/-- The state of the 4160. -/
structure State where
  /-- The commands that are waiting, first in, first out. -/
  pending : List Instr
  /-- The steps that are due at once, the next one first. -/
  agenda : List Due
  link : Link
  mem : Memory
  intake : Intake
  attn : Attn
  meter : Meter
  /-- The ENERGY section. -/
  energy : Energy
  clock : Clock
  book : CalendarBook
  credit : Credit
  decoder : Decoder
  /-- The active settings record (R130). -/
  settings : Settings
  window : Window
  switch : Switch
  tamper : Tamper
  battery : Battery
  store : Store
  supply : Supply
  pins : Pins
  catchUp : CatchUp
deriving DecidableEq, Repr

/-- Why the machine stops with a fault. The reference stops at none of its steps, so no constructor stands here:
safe, since no run is cut short. -/
inductive Fault where
deriving DecidableEq, Repr

/-- Why the machine refuses a command. -/
inductive Refusal where
  /-- The command has no meaning yet. Raised by an arm of `exec` only, and by none of them now: safe. -/
  | notModelled (mnemonic : String)
deriving DecidableEq, Repr

/-! ## Factory values and values at a start -/

/-- Six zeros. -/
def Bands.zero : Bands := ⟨0, 0, 0, 0, 0, 0⟩

/-- The factory energy registers (R30). -/
def Energy.factory : Energy := ⟨0, Bands.zero, 0⟩

/-- The factory account: every item 0 or clear (R60). -/
def Account.factory : Account := ⟨0, 0, 0, 0, 0, 0, 0, 0, 0, 0, 0, 0, false, false, false, false⟩

/-- An absent key slot as it leaves the factory (R93). -/
def KeySlot.absent : KeySlot := ⟨false, 1, 0, 0, 0, 0, [], 0⟩

/-- Slot 0 as it leaves the factory (R93). -/
def KeySlot.factory : KeySlot := ⟨true, 4, 0, Config.factoryKey, 0, 0, [], 0⟩

/-- The factory state of the decoder (R93, R116). -/
def Decoder.factory : Decoder :=
  ⟨KeySlot.factory, KeySlot.absent, KeySlot.absent, KeySlot.absent, 0, 0, false, ⟨0, 0, 0, 0⟩⟩

/-- The defaults of R130. The input modes default to 5: active-high, LEVEL, debounce 50 ms (R131). -/
def Settings.factory : Settings :=
  ⟨0, 0, 10, 60, 3, 50000, 20000, 50000, 1, 1, 2, 0, 0, 0, 0, 15, 5, 5, 5⟩

/-- The factory active calendar (R47). -/
def Tariff.factory : Tariff := ⟨0, 0, Bands.zero, 0, [], [], [], 0, 0⟩

/-- The factory calendars and last charged local date (R47, R55). -/
def CalendarBook.factory : CalendarBook := ⟨Tariff.factory, none, none⟩

/-- No reason. -/
def Reasons.empty : Reasons := ⟨false, false, false, false⟩

/-- The factory SWITCH section (R155). -/
def SwitchKept.factory : SwitchKept := ⟨false, Reasons.empty, false, 0, false⟩

/-- A CLEAR tamper record (R159). -/
def TamperRecord.cleared : TamperRecord := ⟨.clear, 0, 0, 0, 0, 0, 0, false⟩

/-- The factory tamper records (R159, R172). -/
def recordsFactory : Vector TamperRecord 10 := Vector.replicate 10 TamperRecord.cleared

/-- Copies of the factory values with write number 0 (R179). -/
def CopySet.factory : CopySet where
  account := ⟨0, true, Account.factory⟩
  energy := ⟨0, true, Energy.factory⟩
  decoder := ⟨0, true, Decoder.factory⟩
  settings := ⟨0, true, Settings.factory⟩
  book := ⟨0, true, CalendarBook.factory⟩
  switch := ⟨0, true, SwitchKept.factory⟩
  records := ⟨0, true, recordsFactory⟩
  time := ⟨0, true, 0⟩

/-- The factory retention image (R179). -/
def Image.factory : Image := ⟨CopySet.factory, CopySet.factory, ⟨0, true⟩, ⟨0, true⟩, none⟩

/-- The intake at START entry: list empty, nothing in work, READY 0 (R20). -/
def Intake.cleared : Intake := ⟨[], none, false⟩

/-- The attention registers at START entry: ATTENTION 0, all six mask bits 1, no publication (R20). -/
def Attn.cleared : Attn := ⟨0, 0x3F, 0, 0, false, false⟩

/-- The metering engine before its first interval after a start (R33). -/
def Meter.cleared : Meter where
  law := 0
  magnetPower := 0
  energies := ⟨0, 0, 0⟩
  voltage := ⟨0, 0, 0⟩
  current := ⟨0, 0, 0⟩
  neutral := 0
  residual := 0
  frequency := 0
  power := ⟨0, 0, 0⟩
  measured := 0
  billed := 0
  band := 0
  substituted := false
  supplySide := ⟨false, false, false⟩
  loadSide := ⟨false, false, false⟩
  reverse := ⟨false, 0⟩
  voltageTap := ⟨false, 0⟩
  bypass := ⟨false, 0⟩
  weld := 0

/-- The window after every start (R118). -/
def Window.cleared : Window := ⟨.closed, 0, 0, none, .none⟩

/-- The switch controller before a start has settled it: its reason set and counters afresh (R155). The contactor
state is set at start step 4 (R156); before that OPEN stands here. (Assumption 6.) No attempt runs on into a start.
(Assumption 42.) -/
def Switch.cleared : Switch where
  kept := SwitchKept.factory
  reasons := Reasons.empty
  friendly := false
  windowHold := 0
  hold := 0
  acting := Reasons.empty
  held := Reasons.empty
  governing := .none
  contactor := .opened
  attemptCount := 0
  attempt := .idle
  fault := false
  stuckTimer := 0
  overCount := 0
  retryTimer := 0
  cleanRun := 0
  seenContactor := .opened
  seenGoverning := .none

/-- The credit engine before its section is restored. -/
def Credit.cleared : Credit := ⟨Account.factory, .unavailable, false, false, ⟨0, 0, 0, 0⟩, ⟨0, 0⟩⟩

/-- The tamper monitor before its section is restored. R171 sets the inputs up at step 2; until then, and in BATTERY, their
qualified levels are inactive, their debounce counts 0 and their raw levels Low, which no rule states. (Assumption 16.) -/
def Tamper.cleared : Tamper :=
  ⟨recordsFactory, ⟨false, 0, false⟩, ⟨false, 0, false⟩, ⟨false, 0, false⟩, false⟩

/-- The clock of a battery domain found lost (R40, R59, R175). -/
def Clock.lost : Clock := ⟨0, .crystal, false, false⟩

/-- The watch of one input in a battery domain found lost (R169). -/
def BatteryWatch.lost : BatteryWatch := ⟨0, 0, false, 5⟩

/-- A battery domain found lost (R169, R175): its supply-loss mark reads as set. MAGNET's mode copy holds the default mode as
the two others do. (Assumption 2.) -/
def Battery.lost : Battery := ⟨false, true, BatteryWatch.lost, BatteryWatch.lost, 5⟩

/-- The retention store of a part that has never made a write (R179, R180). -/
def Store.factory : Store := ⟨Image.factory, none, false, 0, .both, 0⟩

/-- The supply monitor of a part that has neither VS nor VBAT (R174). -/
def Supply.off : Supply := ⟨.battery, false, .none, false, false, 0, .powerOn, 0, false⟩

/-- The part without supply: nothing outside the battery domain (clock and detections) and the image (R178). The model's own
`catchUp` runs on. -/
def State.powered (power : Power) (pending : List Instr) (link : Link) (clock : Clock)
    (battery : Battery) (image : Image) (catchUp : CatchUp) : State where
  pending := pending
  agenda := []
  link := link
  mem := []
  intake := Intake.cleared
  attn := Attn.cleared
  meter := Meter.cleared
  energy := Energy.factory
  clock := clock
  book := CalendarBook.factory
  credit := Credit.cleared
  decoder := Decoder.factory
  settings := Settings.factory
  window := Window.cleared
  switch := Switch.cleared
  tamper := Tamper.cleared
  battery := battery
  store := { Store.factory with image := image }
  supply := { Supply.off with power := power }
  pins := ⟨⟨false, false, false⟩, ⟨false, false, false⟩, 0⟩
  catchUp := catchUp

/-- The machine before its first start: a new part has neither VS nor VBAT, which counts as BATTERY with the battery
domain lost (R174), and its retention image is the factory one (R179). No command waits. (Assumption 2.) -/
def State.reset : State :=
  State.powered .battery [] ⟨none, none⟩ Clock.lost Battery.lost Image.factory ⟨0, 0⟩

end Sys2Proof.Machine
end

