-- ==== Sys2Proof/Machine/Operands.lean ====
section
/-! DEFINITION. How fields are written and read (section 11.1): byte order, packed decimal, the codes of names, masks
and sets, and the fields of an entry's snapshot (section 11.2). -/

namespace Sys2Proof.Machine

/-! ## Numbers as bytes -/

/-- The `n` bytes of a number, least significant first (R188). -/
def le : Nat → Nat → List Byte
  | 0, _ => []
  | n + 1, v => BitVec.ofNat 8 v :: le n (v / 256)

/-- A signed number in `n` bytes, two's complement (R188). -/
def leSigned (n : Nat) (v : Int) : List Byte :=
  le n (v % ((256 ^ n : Nat) : Int)).toNat

/-- The number that bytes hold, least significant first (R188). -/
def ofLe : List Byte → Nat
  | [] => 0
  | b :: bs => b.toNat + 256 * ofLe bs

/-- A number of `bits` bits read as signed (R188, R189). -/
def signedOf (bits v : Nat) : Int :=
  if v < 2 ^ (bits - 1) then v else (v : Int) - 2 ^ bits

/-- A yes-or-no quantity (R188). -/
def flag (b : Bool) : Nat := if b then 1 else 0

/-- The number whose bit n is the n-th of the list (R188). -/
def maskOf : List Bool → Nat
  | [] => 0
  | b :: bs => flag b + 2 * maskOf bs

/-- `n` packed-decimal bytes of a magnitude, two digits a byte, the first digit in the high nibble of the first byte
(section 11.5). -/
def packedDecimal : Nat → Nat → List Byte
  | 0, _ => []
  | n + 1, v => BitVec.ofNat 8 (16 * (v / 10 ^ (2 * n + 1) % 10) + v / 10 ^ (2 * n) % 10) :: packedDecimal n v

/-- The balance display of R78: sign byte and 14 digits. -/
def balanceDisplay (b : Int) : List Byte :=
  (if b < 0 then 1 else 0) :: packedDecimal 7 b.natAbs

/-! ## Codes of names -/

/-- R16. BATTERY is never shown; its code is a value no reader sees. -/
def Power.code : Power → Nat
  | .start => 0
  | .mains => 1
  | .holdup => 2
  | .battery => 3

/-- R183. -/
def StartCause.code : StartCause → Nat
  | .powerOn => 0
  | .mainsReturn => 1
  | .resetPin => 2

/-- R118. -/
def WindowState.code : WindowState → Nat
  | .closed => 0
  | .opened => 1
  | .committing => 2

/-- R118. -/
def EndCause.code : EndCause → Nat
  | .none => 0
  | .committed => 1
  | .discarded => 2
  | .expired => 3
  | .holdup => 4

/-- R79. -/
def EcState.code : EcState → Nat
  | .unavailable => 0
  | .offered => 1
  | .inUse => 2
  | .exhausted => 3

/-- R138. -/
def Contactor.code : Contactor → Nat
  | .closed => 0
  | .opening => 1
  | .opened => 2
  | .armed => 3
  | .closing => 4
  | .stuck => 5

/-- R136. -/
def Governing.code : Governing → Nat
  | .none => 0
  | .tamper => 1
  | .remote => 2
  | .load => 3
  | .credit => 4

/-- R159. -/
def TamperState.code : TamperState → Nat
  | .clear => 0
  | .active => 1
  | .latched => 2

/-- Section 11.3, address 0x009A. -/
def Oscillator.code : Oscillator → Nat
  | .crystal => 0
  | .backup => 1

/-- Section 11.7. -/
def ResultCode.code : ResultCode → Byte
  | .accepted => 0x00
  | .lockedOut => 0x10
  | .digitInvalid => 0x11
  | .selectorRange => 0x12
  | .keyAbsent => 0x13
  | .bodyRange => 0x14
  | .keyExpired => 0x15
  | .checkFail => 0x16
  | .classUnknown => 0x17
  | .authority => 0x18
  | .serialForm => 0x19
  | .serialOld => 0x1A
  | .serialUsed => 0x1B
  | .serialAhead => 0x1C
  | .payloadRange => 0x1D
  | .creditLimit => 0x1E
  | .windowRequired => 0x1F
  | .windowRank => 0x20
  | .windowBusy => 0x21
  | .settingId => 0x22
  | .keyTarget => 0x23
  | .keyRevision => 0x24
  | .notArmed => 0x30
  | .ecNotOffered => 0x31
  | .timeTolerance => 0x32
  | .windowNotOpen => 0x34
  | .calRank => 0x40
  | .calCount => 0x41
  | .calField => 0x42
  | .calDuplicate => 0x43
  | .calDate => 0x44
  | .kindUnknown => 0x50
  | .powerFail => 0x51

/-- The reason sets' bits (R188). -/
def Reasons.code (r : Reasons) : Nat := maskOf [r.tamper, r.remote, r.load, r.credit]

/-- The sticky flags' bits (R188). -/
def Account.flagBits (a : Account) : Nat := maskOf [a.balFloor, a.debtLimit, a.energySat, a.supplyLoss]

end Sys2Proof.Machine

namespace Sys2Proof

/-- A phase quantity as a list, L1 first. -/
def Phases.toList {α : Type} (p : Phases α) : List α := [p.l1, p.l2, p.l3]

/-- A phase quantity mapped phase by phase. -/
def Phases.map {α β : Type} (f : α → β) (p : Phases α) : Phases β := ⟨f p.l1, f p.l2, f p.l3⟩

/-- Two phase quantities joined phase by phase. -/
def Phases.zipWith {α β γ : Type} (f : α → β → γ) (p : Phases α) (q : Phases β) : Phases γ :=
  ⟨f p.l1 q.l1, f p.l2 q.l2, f p.l3 q.l3⟩

/-- Whether a phase mark stands on at least one phase. -/
def Phases.any (p : Phases Bool) : Bool := p.l1 || p.l2 || p.l3

end Sys2Proof

namespace Sys2Proof.Machine

/-- The entry of a band, 0 to 5. -/
def Bands.get (b : Bands) : Nat → Nat
  | 0 => b.b0
  | 1 => b.b1
  | 2 => b.b2
  | 3 => b.b3
  | 4 => b.b4
  | _ => b.b5

/-- The six entries, band 0 first. -/
def Bands.toList (b : Bands) : List Nat := [b.b0, b.b1, b.b2, b.b3, b.b4, b.b5]

/-! ## The settings record (R130) -/

/-- The nineteen values, id 1 first. -/
def Settings.toList (s : Settings) : List Nat :=
  [s.summationLaw, s.loadLimit, s.loadTripDelay, s.loadRetryDelay, s.loadLockoutTrips, s.ecAmount, s.ecOffer,
    s.lowCredit, s.friendlyHold, s.creditLevel, s.loadLevel, s.creditAutoClose, s.debtRate, s.debtDaily,
    s.magnetPower, s.tamperActions, s.caseInput, s.coverInput, s.magnetInput]

/-- The value of a setting id; 0 for an id that names none. -/
def Settings.get (s : Settings) (id : Nat) : Nat :=
  if id = 0 then 0 else s.toList.getD (id - 1) 0

/-- The record with one setting replaced; an unknown id replaces nothing. -/
def Settings.set (s : Settings) (id v : Nat) : Settings :=
  match id with
  | 1 => { s with summationLaw := v }
  | 2 => { s with loadLimit := v }
  | 3 => { s with loadTripDelay := v }
  | 4 => { s with loadRetryDelay := v }
  | 5 => { s with loadLockoutTrips := v }
  | 6 => { s with ecAmount := v }
  | 7 => { s with ecOffer := v }
  | 8 => { s with lowCredit := v }
  | 9 => { s with friendlyHold := v }
  | 10 => { s with creditLevel := v }
  | 11 => { s with loadLevel := v }
  | 12 => { s with creditAutoClose := v }
  | 13 => { s with debtRate := v }
  | 14 => { s with debtDaily := v }
  | 15 => { s with magnetPower := v }
  | 16 => { s with tamperActions := v }
  | 17 => { s with caseInput := v }
  | 18 => { s with coverInput := v }
  | 19 => { s with magnetInput := v }
  | _ => s

/-- The ids of R130. -/
def settingKnown (id : Nat) : Bool := 1 ≤ id && id ≤ 19

/-- An input mode is in range: bits 23 to 10 are 0 and the debounce is not 0 (R131). -/
def modeInRange (v : Nat) : Bool := v < 1024 && v % 256 != 0

/-- The range of each setting (R130, R131). -/
def settingInRange (id v : Nat) : Bool :=
  match id with
  | 1 => v ≤ 2
  | 2 => v ≤ 99999
  | 3 => 1 ≤ v && v ≤ 600
  | 4 => 30 ≤ v && v ≤ 3600
  | 5 => 1 ≤ v && v ≤ 9
  | 6 => v ≤ 10000000
  | 7 => v ≤ 10000000
  | 8 => v ≤ 10000000
  | 9 => v ≤ 2
  | 10 => 1 ≤ v && v ≤ 3
  | 11 => 1 ≤ v && v ≤ 3
  | 12 => v ≤ 1
  | 13 => v ≤ 100
  | 14 => v ≤ 1000000
  | 15 => v ≤ 99999
  | 16 => v ≤ 0x3FF
  | 17 => modeInRange v
  | 18 => modeInRange v
  | 19 => modeInRange v
  | _ => false

/-- The authority that a setting requires (R130): ENGINEER for ids 2 to 5 and 17 to 19, UTILITY for the others. -/
def settingAuthority (id : Nat) : Nat :=
  if (2 ≤ id && id ≤ 5) || 17 ≤ id then 2 else 3

/-- The mask of the ids whose values differ (R124, R133, R188). -/
def changedMask (p q : Settings) : Nat :=
  maskOf (List.zipWith (fun x y => x != y) p.toList q.toList)

/-- The debounce of an input mode (R131). -/
def modeDebounce (mode : Nat) : Nat := mode % 256

/-- Whether an input mode is EDGE detection (R131). -/
def modeEdge (mode : Nat) : Bool := mode / 256 % 2 == 1

/-- Whether a pin level is the active level under a mode's polarity (R131, R162). -/
def modeActive (mode : Nat) (high : Bool) : Bool := high != (mode / 512 % 2 == 1)

/-! ## An entry's snapshot (R10, section 11.2) -/

/-- The byte at an offset of the slot, read from the snapshot, which begins at offset 1. -/
def Work.byteAt (w : Work) (offset : Nat) : Byte := w.snapshot.getD (offset - 1) 0

/-- The little-endian field of `n` bytes at an offset of the slot. -/
def Work.field (w : Work) (offset n : Nat) : Nat :=
  ofLe ((List.range n).map fun i => w.byteAt (offset + i))

/-- The kind byte. -/
def Work.kind (w : Work) : Nat := (w.byteAt 1).toNat

/-- The source of a TOKEN entry: 0 for the keypad, anything else reported as 1 (R91). -/
def Work.source (w : Work) : Nat := if w.byteAt 4 = 0 then 0 else 1

/-- The 24 digit nibbles of a TOKEN entry, digit 1 first (R91, section 11.5). -/
def Work.digits (w : Work) : List Nat :=
  (List.range 12).flatMap fun k => [(w.byteAt (5 + k)).toNat / 16, (w.byteAt (5 + k)).toNat % 16]

/-- The number that decimal digits spell, most significant first. -/
def decimal (ds : List Nat) : Nat := ds.foldl (fun v d => 10 * v + d) 0

/-- The selector, digits 1 and 2 (R91). -/
def Work.selector (w : Work) : Nat := decimal (w.digits.take 2)

/-- The body value V, digits 3 to 24 (R91). -/
def Work.bodyValue (w : Work) : Nat := decimal (w.digits.drop 2)

end Sys2Proof.Machine
end

