-- ==== Sys2Proof/Machine/Ops.lean ====
section
/-! DEFINITION. The exchange memory's operations and the work slots' places in it (sections 1.2 and 1.3), and the small
operations that every block shares. -/

namespace Sys2Proof.Machine

/-! ## Memory -/

/-- What an address reads as: the byte listed for it, or 0x00 (R2, R20). -/
def Memory.read : Memory → Nat → Byte
  | [], _ => 0
  | (b, v) :: t, a => if b = a then v else Memory.read t a

/-- A byte stored. The list keeps its rising order, and a 0x00 is not listed. -/
def Memory.write : Memory → Nat → Byte → Memory
  | [], a, v => if v = 0 then [] else [(a, v)]
  | (b, w) :: t, a, v =>
    if a < b then (if v = 0 then (b, w) :: t else (a, v) :: (b, w) :: t)
    else if a = b then (if v = 0 then t else (a, v) :: t)
    else (b, w) :: Memory.write t a v

/-- The cells of consecutive bytes from an address on. -/
def cellsFrom : Nat → List Byte → Memory
  | _, [] => []
  | a, v :: vs => if v = 0 then cellsFrom (a + 1) vs else (a, v) :: cellsFrom (a + 1) vs

/-- A block of bytes stored from an address on. -/
def Memory.splice (m : Memory) (base : Nat) (bytes : List Byte) : Memory :=
  m.filter (fun c => c.1 < base) ++ cellsFrom base bytes ++ m.filter (fun c => base + bytes.length ≤ c.1)

/-- `n` bytes read from an address on. -/
def Memory.readBytes (m : Memory) : Nat → Nat → List Byte
  | _, 0 => []
  | a, n + 1 => m.read a :: Memory.readBytes m (a + 1) n

/-- The canonical form: addresses strictly rising, and no 0x00 listed. -/
def Memory.wf : Memory → Bool
  | [] => true
  | [(_, v)] => v != 0
  | (a, v) :: (b, w) :: t => v != 0 && a < b && Memory.wf ((b, w) :: t)

/-! ## Places in the memory (section 1.2) -/

/-- Where slot n begins. -/
def slotBase (n : Nat) : Nat := 0x0200 + 64 * n

/-- An address lies in the work slots. -/
def inSlots (a : Nat) : Bool := 0x0200 ≤ a && a < 0x0600

/-- An address lies in the calendar image. -/
def inImage (a : Nat) : Bool := 0x0800 ≤ a && a < 0x0C00

/-- An address lies in one of the part-owned pages: status page, tamper page, calendar views (section 1.4). -/
def inPages (a : Nat) : Bool := a < 0x0200 || (0x0600 ≤ a && a < 0x0800) || (0x0C00 ≤ a && a < 0x1400)

/-- The owner bytes (section 1.3). -/
def ownerEmpty : Byte := 0
/-- POSTED. -/
def ownerPosted : Byte := 1
/-- TAKEN. -/
def ownerTaken : Byte := 2
/-- DONE. -/
def ownerDone : Byte := 3

/-- The owner byte of a slot. -/
def ownerOf (m : Memory) (n : Nat) : Byte := m.read (slotBase n)

/-- The generation counter, at 0x0000 (R14). -/
def generation (m : Memory) : Nat := ofLe (m.readBytes 0 4)

/-! ## One part of the state changed -/

/-- The state with its agenda changed. -/
def onAgenda (f : List Due → List Due) (s : State) : State := { s with agenda := f s.agenda }

/-- The state with its mem changed. -/
def onMem (f : Memory → Memory) (s : State) : State := { s with mem := f s.mem }

/-- The state with its intake changed. -/
def onIntake (f : Intake → Intake) (s : State) : State := { s with intake := f s.intake }

/-- The state with its attn changed. -/
def onAttn (f : Attn → Attn) (s : State) : State := { s with attn := f s.attn }

/-- The state with its meter changed. -/
def onMeter (f : Meter → Meter) (s : State) : State := { s with meter := f s.meter }

/-- The state with its energy changed. -/
def onEnergy (f : Energy → Energy) (s : State) : State := { s with energy := f s.energy }

/-- The state with its clock changed. -/
def onClock (f : Clock → Clock) (s : State) : State := { s with clock := f s.clock }

/-- The state with its book changed. -/
def onBook (f : CalendarBook → CalendarBook) (s : State) : State := { s with book := f s.book }

/-- The state with its credit changed. -/
def onCredit (f : Credit → Credit) (s : State) : State := { s with credit := f s.credit }

/-- The state with its decoder changed. -/
def onDecoder (f : Decoder → Decoder) (s : State) : State := { s with decoder := f s.decoder }

/-- The state with its settings changed. -/
def onSettings (f : Settings → Settings) (s : State) : State := { s with settings := f s.settings }

/-- The state with its window changed. -/
def onWindow (f : Window → Window) (s : State) : State := { s with window := f s.window }

/-- The state with its switch changed. -/
def onSwitch (f : Switch → Switch) (s : State) : State := { s with switch := f s.switch }

/-- The state with its tamper changed. -/
def onTamper (f : Tamper → Tamper) (s : State) : State := { s with tamper := f s.tamper }

/-- The state with its battery changed. -/
def onBattery (f : Battery → Battery) (s : State) : State := { s with battery := f s.battery }

/-- The state with its store changed. -/
def onStore (f : Store → Store) (s : State) : State := { s with store := f s.store }

/-- The state with its supply changed. -/
def onSupply (f : Supply → Supply) (s : State) : State := { s with supply := f s.supply }

/-- The state with its catchUp changed. -/
def onCatchUp (f : CatchUp → CatchUp) (s : State) : State := { s with catchUp := f s.catchUp }

/-! ## The steps that are due at once -/

/-- A step put before everything that is due. -/
def dueFirst (d : Due) (s : State) : State := onAgenda (fun a => d :: a) s

/-- A step put after everything that is due. -/
def dueLast (d : Due) (s : State) : State := onAgenda (fun a => a ++ [d]) s

/-! ## Power -/

/-- The blocks hand reasons and holds to the switch controller: in MAINS and HOLDUP, and in START from the end of step 4
on (R87, R167, R50, R156). -/
def handing (s : State) : Bool :=
  match s.supply.power with
  | .mains => true
  | .holdup => true
  | .start => 4 ≤ s.supply.startStep
  | .battery => false

/-- `v`, but at most `top`. -/
def capped (top v : Nat) : Nat := min top v

end Sys2Proof.Machine
end

