-- ==== Sys2Proof/Machine/Retention.lean ====
section
/-! DEFINITION. The retention image and its writes (section 10.3): when a write begins, what it takes, and what its end
leaves in the image; and how a start finds the last completed write and the copy of each section (R179, R184). -/

namespace Sys2Proof.Machine

/-- The sections as the blocks hold them now (R179, R180). -/
def sectionsOf (s : State) : Sections where
  account := s.credit.account
  energy := s.energy
  decoder := s.decoder
  settings := s.settings
  book := s.book
  switch := s.switch.kept
  records := s.tamper.records
  time := s.clock.time

/-- A waiting requester now waits on the write in progress (R180). -/
def Stage.writeBegun : Stage → Stage
  | .waiting .next r => .waiting .current r
  | x => x

/-- The reset write has begun (R182). -/
def ResetWrite.begun : ResetWrite → ResetWrite
  | .waiting .next => .waiting .current
  | x => x

/-- The copy set that the next write goes to (R180). -/
def LastSet.target : LastSet → SetName
  | .a => .b
  | .b => .a
  | .both => .a

/-- A write begins (R180): it takes every section together, serves every request made so far, and the periodic count
becomes 0 (R181). -/
def beginWrite (s : State) : State :=
  onStore (fun t => { t with
      writing := some ⟨t.lastNumber + 1, t.lastSet.target, sectionsOf s⟩, requested := false, periodic := 0 })
    (onIntake (fun i => { i with work := i.work.map fun w => { w with stage := w.stage.writeBegun } })
      (onSupply (fun p => { p with resetWrite := p.resetWrite.begun }) s))

/-- The store serves no request between START entry and the start write (R183). -/
def storeWaits (s : State) : Bool := s.supply.power == .start && s.supply.startStep < 4

/-- A retention write is requested (R180): it begins at once in an idle store, else the request is pending. -/
def requestWrite (s : State) : State :=
  if s.store.writing.isSome || storeWaits s then onStore (fun x => { x with requested := true }) s
  else beginWrite s

/-- A copy written to its end. -/
def freshCopy {α : Type} (n : WriteNumber) (x : α) : Copy α := ⟨n, true, x⟩

/-- The copy set that a write leaves when it completes (R179). -/
def CopySet.ofWrite (w : Write) : CopySet where
  account := freshCopy w.number w.sections.account
  energy := freshCopy w.number w.sections.energy
  decoder := freshCopy w.number w.sections.decoder
  settings := freshCopy w.number w.sections.settings
  book := freshCopy w.number w.sections.book
  switch := freshCopy w.number w.sections.switch
  records := freshCopy w.number w.sections.records
  time := freshCopy w.number w.sections.time

/-- Section `i` of a set under a write cut off after `k` sections were written to their end (R179): written, cut off
in its writing, or not reached. -/
def cutCopy {α : Type} (k i : Nat) (n : WriteNumber) (x : α) (old : Copy α) : Copy α :=
  if i < k then freshCopy n x else if i = k then ⟨n, false, x⟩ else old

/-- The copy set that a write leaves when it is cut off after `k` sections. The sections are written in the order
of the failed-section mask. (Assumption 13.) -/
def CopySet.ofCutWrite (k : Nat) (w : Write) (c : CopySet) : CopySet where
  account := cutCopy k 0 w.number w.sections.account c.account
  energy := cutCopy k 1 w.number w.sections.energy c.energy
  decoder := cutCopy k 2 w.number w.sections.decoder c.decoder
  settings := cutCopy k 3 w.number w.sections.settings c.settings
  book := cutCopy k 4 w.number w.sections.book c.book
  switch := cutCopy k 5 w.number w.sections.switch c.switch
  records := cutCopy k 6 w.number w.sections.records c.records
  time := cutCopy k 7 w.number w.sections.time c.time

/-- One copy set of the image replaced. -/
def Image.withSet (i : Image) (n : SetName) (c : CopySet) : Image :=
  match n with
  | .a => { i with setA := c }
  | .b => { i with setB := c }

/-- A copy set of the image. -/
def Image.get (i : Image) : SetName → CopySet
  | .a => i.setA
  | .b => i.setB

/-- The completion slot that the next write goes to: the one not written last (R179), and slot 0 where neither has been
written. (Assumption 30.) -/
def Image.nextSlot (i : Image) : SlotName :=
  match i.lastSlot with
  | some .slot0 => .slot1
  | some .slot1 => .slot0
  | none => .slot0

/-- The next completion slot holding `c`. -/
def Image.withSlot (i : Image) (c : CompletionSlot) : Image :=
  match i.nextSlot with
  | .slot0 => { i with slot0 := c }
  | .slot1 => { i with slot1 := c }

/-- A write's number in its completion slot, which is then the slot written last (R179). -/
def Image.recorded (i : Image) (n : WriteNumber) : Image := { i.withSlot ⟨n, true⟩ with lastSlot := some i.nextSlot }

/-- The store when its write has completed (R180): image, last completed write number and set. -/
def Store.completed (t : Store) (w : Write) : Store :=
  { t with
    image := (t.image.withSet w.target (CopySet.ofWrite w)).recorded w.number
    writing := none
    lastNumber := w.number
    lastSet := match w.target with
      | .a => .a
      | .b => .b }

/-- The image when BATTERY entry cuts off the write in progress after `k` of its eight sections (R178, R179). With all
eight written, its completion slot is being written; a slot whose writing is cut off is not the slot written last.
(Assumption 30.) -/
def Store.cutOff (t : Store) (k : Nat) : Image :=
  match t.writing with
  | none => t.image
  | some w =>
    let cut := t.image.withSet w.target (CopySet.ofCutWrite k w (t.image.get w.target))
    if k < 8 then cut else cut.withSlot ⟨w.number, false⟩

/-! ## What a start finds -/

/-- A write number is above another one (R179). -/
def above (n m : WriteNumber) : Bool := 1 ≤ (n - m).toNat && (n - m).toNat ≤ 2 ^ 31 - 1

/-- The higher of two write numbers (R179). -/
def higher (n m : WriteNumber) : WriteNumber := if above m n then m else n

/-- A copy marked as damaged. -/
def Copy.damage {α : Type} (c : Copy α) (hit : Bool) : Copy α := { c with ok := c.ok && !hit }

/-- A copy set with the damage of a mask (R179). -/
def CopySet.damage (c : CopySet) (m : BitVec 8) : CopySet where
  account := c.account.damage (m.getLsbD 0)
  energy := c.energy.damage (m.getLsbD 1)
  decoder := c.decoder.damage (m.getLsbD 2)
  settings := c.settings.damage (m.getLsbD 3)
  book := c.book.damage (m.getLsbD 4)
  switch := c.switch.damage (m.getLsbD 5)
  records := c.records.damage (m.getLsbD 6)
  time := c.time.damage (m.getLsbD 7)

/-- The image with the damage that a start finds. -/
def Image.damage (i : Image) (d : Damage) : Image where
  setA := i.setA.damage d.setA
  setB := i.setB.damage d.setB
  slot0 := { i.slot0 with ok := i.slot0.ok && !d.slots.getLsbD 0 }
  slot1 := { i.slot1 with ok := i.slot1.ok && !d.slots.getLsbD 1 }
  lastSlot := i.lastSlot

/-- The write numbers of the copies of a set whose CRC-32 matches; the TIME section is looked at only when it is
judged, at POWER_ON (R184). -/
def CopySet.numbers (c : CopySet) (withTime : Bool) : List WriteNumber :=
  let pick {α : Type} (x : Copy α) : List WriteNumber := if x.ok then [x.number] else []
  pick c.account ++ pick c.energy ++ pick c.decoder ++ pick c.settings ++ pick c.book ++ pick c.switch ++
    pick c.records ++ (if withTime then pick c.time else [])

/-- What a start takes for the last completed write (R179): its number, and whether copies are judged by their CRC
alone because no completion slot passes. -/
structure LastWrite where
  number : WriteNumber
  byCrcAlone : Bool
deriving DecidableEq, Repr

/-- The last completed write as a start finds it (R179). -/
def Image.lastWrite (i : Image) (withTime : Bool) : LastWrite :=
  match i.slot0.ok, i.slot1.ok with
  | true, true => ⟨higher i.slot0.number i.slot1.number, false⟩
  | true, false => ⟨i.slot0.number, false⟩
  | false, true => ⟨i.slot1.number, false⟩
  | false, false =>
    match i.setA.numbers withTime ++ i.setB.numbers withTime with
    | [] => ⟨0, true⟩
    | n :: ns => ⟨ns.foldl higher n, true⟩

/-- A copy passes its check (R179). -/
def Copy.passes {α : Type} (c : Copy α) (l : LastWrite) : Bool :=
  c.ok && (l.byCrcAlone || !above c.number l.number)

/-- What a section is restored from: of two passing copies the one with the higher write number, else the one that
passes (R30, R76, R116, R132, R155, R172). -/
def restored {α : Type} (l : LastWrite) (a b : Copy α) : Option α :=
  match a.passes l, b.passes l with
  | true, true => some (if above b.number a.number then b.held else a.held)
  | true, false => some a.held
  | false, true => some b.held
  | false, false => none

/-- Whether some copy of a set passes. -/
def CopySet.somePass (c : CopySet) (l : LastWrite) (withTime : Bool) : Bool :=
  c.account.passes l || c.energy.passes l || c.decoder.passes l || c.settings.passes l || c.book.passes l ||
    c.switch.passes l || c.records.passes l || (withTime && c.time.passes l)

/-- Which sets hold the last completed write (R180, R184): a set holds it when one of its matching copies carries its
number. Where neither does, the next write goes to set A. (Assumption 13.) -/
def Image.lastSet (i : Image) (l : LastWrite) (withTime : Bool) : LastSet :=
  match (i.setA.numbers withTime).contains l.number, (i.setB.numbers withTime).contains l.number with
  | true, false => .a
  | false, true => .b
  | _, _ => .both

/-- The store as a start leaves it after step 1 (R184): the next write has a number one above the last completed
one, or number 1 to set A when no copy of any section passed. The last completed write then has number 0, even where a
completion slot passes with another, which is the model's. (Assumption 39.) -/
def Store.found (t : Store) (withTime : Bool) : Store :=
  let l := t.image.lastWrite withTime
  if t.image.setA.somePass l withTime || t.image.setB.somePass l withTime then
    { t with lastNumber := l.number, lastSet := t.image.lastSet l withTime }
  else { t with lastNumber := 0, lastSet := .both }

end Sys2Proof.Machine
end

