-- ==== Sys2Proof/Machine/Flags.lean ====
section
/-! DEFINITION. The attention word and its line (section 1.5). -/

namespace Sys2Proof.Machine

/-- SLOT_DONE, bit 0 (R17). -/
def attnSlotDone : BitVec 6 := 0x01
/-- SWITCH, bit 1. -/
def attnSwitch : BitVec 6 := 0x02
/-- CREDIT, bit 2. -/
def attnCredit : BitVec 6 := 0x04
/-- TAMPER, bit 3. -/
def attnTamper : BitVec 6 := 0x08
/-- SUPPLY, bit 4. -/
def attnSupply : BitVec 6 := 0x10
/-- CALENDAR, bit 5. -/
def attnCalendar : BitVec 6 := 0x20

/-- A bit marked as due: the first publication that begins after the mark raises it at its end (R17). -/
def markDue (b : BitVec 6) (s : State) : State :=
  onAttn (fun x => { x with due := x.due ||| b }) s

/-- A bit raised at once, as SUPPLY is (R17). -/
def raiseNow (b : BitVec 6) (s : State) : State :=
  onAttn (fun x => { x with bits := x.bits ||| b }) s

/-- ATTN_N is driven Low: some bit stands in both ATTENTION and its mask, and the part is powered (R19, R20). -/
def attnLow (s : State) : Bool :=
  s.supply.power != .battery && (s.attn.bits &&& s.attn.mask) != 0

end Sys2Proof.Machine
end

