-- ==== Sys2Proof/Machine/Reasons.lean ====
section
/-! DEFINITION. Reasons, levels, the hold level and the auto-close permission, as functions of the state
(R135, R136, R140, R147). -/

namespace Sys2Proof.Machine

/-- No reason of the set is in it. -/
def Reasons.isEmpty (r : Reasons) : Bool := !(r.tamper || r.remote || r.load || r.credit)

/-- The reasons of either set. -/
def Reasons.union (p q : Reasons) : Reasons :=
  ⟨p.tamper || q.tamper, p.remote || q.remote, p.load || q.load, p.credit || q.credit⟩

/-- The hold level H (R135): the larger of the friendly and the window contribution. -/
def holdLevel (s : State) : Nat :=
  max (if s.switch.friendly then s.settings.friendlyHold else 0) s.switch.windowHold

/-- The acting set (R136): the active reasons whose level is greater than H. TAMPER and REMOTE have level 3 (R135). -/
def actingSet (s : State) : Reasons :=
  ⟨s.switch.reasons.tamper && holdLevel s < 3,
   s.switch.reasons.remote && holdLevel s < 3,
   s.switch.reasons.load && holdLevel s < s.settings.loadLevel,
   s.switch.reasons.credit && holdLevel s < s.settings.creditLevel⟩

/-- The held set (R136): the active reasons that do not act. -/
def heldSet (s : State) : Reasons :=
  ⟨s.switch.reasons.tamper && !(actingSet s).tamper,
   s.switch.reasons.remote && !(actingSet s).remote,
   s.switch.reasons.load && !(actingSet s).load,
   s.switch.reasons.credit && !(actingSet s).credit⟩

/-- The governing reason (R136): the acting reason of the highest level, ties in the order TAMPER, REMOTE, LOAD, CREDIT. -/
def governingReason (s : State) : Governing :=
  let a := actingSet s
  if a.tamper then .tamper
  else if a.remote then .remote
  else if a.load && (!a.credit || s.settings.creditLevel ≤ s.settings.loadLevel) then .load
  else if a.credit then .credit
  else .none

/-- Auto-close is permitted (R147): the manual-close mark is clear and every member of the opened-by set is
auto-permitted. -/
def autoClosePermitted (s : State) : Bool :=
  let k := s.switch.kept
  !k.manualClose && !k.openedBy.tamper && !k.openedBy.remote &&
    !(k.openedBy.load && k.loadLatch) && !(k.openedBy.credit && s.settings.creditAutoClose != 1)

/-- The open condition (R140). -/
def openCondition (s : State) : Bool := !s.meter.loadSide.any

/-- The close condition (R140). -/
def closeCondition (s : State) : Bool :=
  s.meter.supplySide.any &&
    (s.meter.supplySide.zipWith (fun up low => !up || low) s.meter.loadSide).toList.all id

/-- The condition that confirms an attempt on a winding (R140). -/
def attemptConfirmed (w : Winding) (s : State) : Bool :=
  match w with
  | .open => openCondition s
  | .close => closeCondition s

end Sys2Proof.Machine
end

