-- ==== Sys2Proof/Machine/Switch.lean ====
section
/-! DEFINITION. The contactor: operations, evaluation, and the arrivals of reasons and hold contributions
(sections 8.1 to 8.4). -/

namespace Sys2Proof.Machine

/-! ## Tamper records that leave ACTIVE

A gone report reaches a record without touching the TAMPER reason, since a LATCHED record counts as an ACTIVE one
does (R160, R166); the switch controller makes such reports within its evaluations. -/

/-- A gone report of a kind (R160): an ACTIVE record becomes LATCHED, any other record is unchanged. -/
def reportGone (k : Fin 10) (s : State) : State :=
  let r := s.tamper.records[k]
  if r.state = .active then
    onTamper (fun x => { x with
      records := x.records.set k { r with state := .latched, lastEnd := s.clock.time } }) s
  else s

/-- The kind numbers of R158. -/
def kindCase : Fin 10 := 0
/-- COVER. -/
def kindCover : Fin 10 := 1
/-- MAGNET. -/
def kindMagnet : Fin 10 := 2
/-- BYPASS. -/
def kindBypass : Fin 10 := 3
/-- REVERSE. -/
def kindReverse : Fin 10 := 4
/-- VOLTAGE. -/
def kindVoltage : Fin 10 := 5
/-- SWITCH. -/
def kindSwitch : Fin 10 := 6
/-- KEYPAD. -/
def kindKeypad : Fin 10 := 7
/-- CLOCK. -/
def kindClock : Fin 10 := 8
/-- RETENTION. -/
def kindRetention : Fin 10 := 9

/-! ## Attention -/

/-- SWITCH attention is marked as due when the contactor state or the governing reason differs from its value at the
end of the previous evaluation or operation end (R137, R157). -/
def markSwitch (s : State) : State :=
  let w := s.switch
  if w.contactor = w.seenContactor && w.governing = w.seenGoverning then s
  else markDue attnSwitch
    (onSwitch (fun x => { x with seenContactor := x.contactor, seenGoverning := x.governing }) s)

/-! ## Pulses -/

/-- A coil pulse begins (R139): the attempt count rises, and outside STUCK the commanded position becomes that of the
winding (R138, R145). -/
def beginPulse (d : Winding) (s : State) : State :=
  onSwitch (fun x => { x with
    attempt := .pulse d
    attemptCount := x.attemptCount + 1
    kept := { x.kept with
      commandedClosed := if x.contactor = .stuck then x.kept.commandedClosed else decide (d = .close) } }) s

/-- An attempt begins with its pulse in MAINS and in START; HOLDUP defers it (R139, R154). -/
def beginAttempt (d : Winding) (s : State) : State :=
  if s.supply.power = .mains || s.supply.power = .start then beginPulse d s
  else onSwitch (fun x => { x with attempt := .deferred d }) s

/-- The contactor state changed. -/
def setContactor (c : Contactor) (s : State) : State := onSwitch (fun x => { x with contactor := c }) s

/-- The commanded position set (R138). -/
def commandPosition (closed : Bool) (s : State) : State :=
  onSwitch (fun x => { x with kept := { x.kept with commandedClosed := closed } }) s

/-- The switch fault mark set (R146). -/
def setFault (present : Bool) (s : State) : State := onSwitch (fun x => { x with fault := present }) s

/-- OPENING is entered and an open operation begins (R137, R139). -/
def enterOpening (s : State) : State := beginAttempt .open (setContactor .opening s)

/-- CLOSING is entered and a close operation begins (R137, R139). -/
def enterClosing (s : State) : State := beginAttempt .close (setContactor .closing s)

/-- The switch fault becomes absent and is reported gone, if it is present (R146). -/
def dropFault (s : State) : State :=
  if s.switch.fault then reportGone kindSwitch (setFault false s) else s

/-- The marks that an entry to CLOSED clears: opened-by set, manual-close mark, clean-run count (R142, R147, R152). -/
def enterClosed (s : State) : State :=
  onSwitch (fun x => { x with
    contactor := .closed
    cleanRun := 0
    kept := { x.kept with openedBy := Reasons.empty, manualClose := false } }) s

/-- STUCK turns to CLOSED (R146). -/
def stuckToClosed (s : State) : State :=
  dropFault (commandPosition true (enterClosed s))

/-! ## Evaluation (R137) -/

/-- Steps 1 and 2: H, the acting set, the held set and the governing reason are formed, and every acting reason joins
the opened-by set. -/
def formSets (s : State) : State :=
  onSwitch (fun x => { x with
    hold := holdLevel s
    acting := actingSet s
    held := heldSet s
    governing := governingReason s
    kept := { x.kept with openedBy := x.kept.openedBy.union (actingSet s) } }) s

/-- The ARMED row with nothing acting: CLOSING if auto-close is permitted. -/
def actArmed (s : State) : State := if autoClosePermitted s then enterClosing s else s

/-- STUCK may turn to CLOSED: nothing acts, no attempt is in progress and the close condition holds (R146). -/
def stuckReleases (s : State) : Bool :=
  s.switch.acting.isEmpty && s.switch.attempt = .idle && closeCondition s

/-- Step 3: the table of R137. -/
def actOnContactor (s : State) : State :=
  match s.switch.contactor with
  | .closed => if s.switch.acting.isEmpty then s else enterOpening s
  | .opened => if s.switch.acting.isEmpty then actArmed (setContactor .armed s) else s
  | .armed => if s.switch.acting.isEmpty then actArmed s else setContactor .opened s
  | .stuck => if stuckReleases s then stuckToClosed s else s
  | .opening => s
  | .closing => s

/-- One evaluation (R137). -/
def evaluate (s : State) : State := markSwitch (actOnContactor (formSets s))

/-! ## Arrivals -/

/-- A set of reasons with one reason made active or inactive. -/
def Reasons.put (a : Reasons) (r : Governing) (on : Bool) : Reasons :=
  match r with
  | .tamper => { a with tamper := on }
  | .remote => { a with remote := on }
  | .load => { a with load := on }
  | .credit => { a with credit := on }
  | .none => a

/-- The reason set with one reason made active or inactive. -/
def setReason (r : Governing) (on : Bool) (s : State) : State :=
  onSwitch (fun x => { x with reasons := x.reasons.put r on }) s

/-- A raise (`on`) or a clear of a reason, followed by one evaluation; one that finds the reason so already changes
nothing (R134). -/
def handReason (r : Governing) (on : Bool) (s : State) : State :=
  if (setReason r on s).switch.reasons = s.switch.reasons then s else evaluate (setReason r on s)

/-- The calendar hands its friendly state (R50, R135). -/
def handFriendly (on : Bool) (s : State) : State :=
  evaluate (onSwitch (fun x => { x with friendly := on }) s)

/-- The service window hands its contribution (R122). -/
def handWindowHold (n : Nat) (s : State) : State :=
  evaluate (onSwitch (fun x => { x with windowHold := n }) s)

end Sys2Proof.Machine
end

