-- ==== Sys2Proof/Machine/Tamper.lean ====
section
/-! DEFINITION. The tamper monitor (chapter 9): reports, the TAMPER reason, sense inputs, clearing, and battery time. -/

namespace Sys2Proof.Machine

/-- A record cuts the supply: DISCONNECT, and ACTIVE or LATCHED (R166). -/
def TamperRecord.cuts (r : TamperRecord) : Bool := r.disconnect && r.state != .clear

/-- The TAMPER reason as the records give it (R166). -/
def tamperReasonOf (rs : Vector TamperRecord 10) : Bool := rs.toList.any TamperRecord.cuts

/-- The monitor derives the TAMPER reason and hands a change to the switch controller (R166); during start steps 1 to 3
it hands nothing (R167). -/
def deriveTamper (s : State) : State :=
  let now := tamperReasonOf s.tamper.records
  if now = s.tamper.reason then s
  else
    let t : State := onTamper (fun x => { x with reason := now }) s
    if handing s then handReason .tamper now t else t

/-- The kind's bit of TAMPER_ACTIONS (R165). -/
def tamperAction (s : State) (k : Fin 10) : Bool := s.settings.tamperActions.testBit k

/-- The import total register in whole Wh (R29, R159). -/
def importWh (s : State) : Nat := s.energy.total / 1000000

/-- A record entering ACTIVE at a present report (R160, R165). -/
def activeRecord (s : State) (k : Fin 10) (r : TamperRecord) : TamperRecord :=
  if r.state = .clear then
    ⟨.active, s.clock.time, importWh s, s.credit.account.balance, s.clock.time, 0, 1, tamperAction s k⟩
  else
    { r with
      state := .active
      count := capped 65535 (r.count + 1)
      lastTime := s.clock.time
      disconnect := tamperAction s k }

/-- One record replaced. -/
def setRecord (k : Fin 10) (r : TamperRecord) (s : State) : State :=
  onTamper (fun x => { x with records := x.records.set k r }) s

/-- What follows a record's entry to ACTIVE (R161): TAMPER attention is due, a retention write is requested, the
reason is derived. -/
def enteredActive (s : State) : State := deriveTamper (requestWrite (markDue attnTamper s))

/-- A present report of a kind (R160). -/
def reportPresent (k : Fin 10) (s : State) : State :=
  let r := s.tamper.records[k]
  if r.state = .active then s else enteredActive (setRecord k (activeRecord s k r) s)

/-- A report of a kind: present or gone. -/
def report (k : Fin 10) (present : Bool) (s : State) : State :=
  if present then reportPresent k s else reportGone k s

/-- A momentary condition: present, followed at once by gone (R158, R163). -/
def reportBoth (k : Fin 10) (s : State) : State := reportGone k (reportPresent k s)

/-! ## TAMPER_CLEAR (R168) -/

/-- A record as a TAMPER_CLEAR that selects its kind leaves it. -/
def clearedRecord (r : TamperRecord) : TamperRecord :=
  if r.state = .latched then TamperRecord.cleared else r

/-- The kinds of a mask, kind 0 first. -/
def kindBits (mask : Nat) : List Bool := (List.range 10).map fun k => mask.testBit k

/-- The cleared mask: selected kinds whose record is LATCHED. -/
def clearedMask (mask : Nat) (rs : Vector TamperRecord 10) : Nat :=
  maskOf (List.zipWith (fun b r => b && r.state == .latched) (kindBits mask) rs.toList)

/-- The refused mask: selected kinds whose record is ACTIVE. -/
def refusedMask (mask : Nat) (rs : Vector TamperRecord 10) : Nat :=
  maskOf (List.zipWith (fun b r => b && r.state == .active) (kindBits mask) rs.toList)

/-- A TAMPER_CLEAR arrives (R168). -/
def tamperClearArrives (mask : Nat) (s : State) : State :=
  deriveTamper (onTamper (fun x => { x with
    records := x.records.mapFinIdx fun k r _ => if mask.testBit k then clearedRecord r else r }) s)

/-! ## Sense inputs (R162, R163) -/

/-- The kind of a sense input (R158). -/
def inputKind : SenseInput → Fin 10
  | .caseIn => kindCase
  | .coverIn => kindCover
  | .magIn => kindMagnet

/-- The qualification state of an input. -/
def inputState (s : State) : SenseInput → InputState
  | .caseIn => s.tamper.caseIn
  | .coverIn => s.tamper.coverIn
  | .magIn => s.tamper.magIn

/-- The qualification state of an input replaced. -/
def setInput (i : SenseInput) (x : InputState) (s : State) : State :=
  match i with
  | .caseIn => onTamper (fun y => { y with caseIn := x }) s
  | .coverIn => onTamper (fun y => { y with coverIn := x }) s
  | .magIn => onTamper (fun y => { y with magIn := x }) s

/-- The mode of an input in a settings record (R131). -/
def inputMode (p : Settings) : SenseInput → Nat
  | .caseIn => p.caseInput
  | .coverIn => p.coverInput
  | .magIn => p.magnetInput

/-- A change of the qualified level becomes a report (R163). -/
def qualifiedChange (i : SenseInput) (active : Bool) (s : State) : State :=
  if modeEdge (inputMode s.settings i) then
    if active then reportBoth (inputKind i) s else s
  else report (inputKind i) active s

/-- One 10 ms sample of an input (R162). -/
def sampleInput (i : SenseInput) (high : Bool) (s : State) : State :=
  let x := inputState s i
  let mode := inputMode s.settings i
  let level := modeActive mode high
  if level = x.qualified then setInput i { x with debounce := 0, raw := high } s
  else if modeDebounce mode ≤ x.debounce + 1 then
    qualifiedChange i level (setInput i ⟨level, 0, high⟩ s)
  else setInput i { x with debounce := x.debounce + 1, raw := high } s

/-- The inputs are sampled in MAINS, in HOLDUP, and in START from step 2 on (R162). -/
def inputsSampled (s : State) : Bool :=
  match s.supply.power with
  | .mains => true
  | .holdup => true
  | .start => 2 ≤ s.supply.startStep
  | .battery => false

/-! ## Settings commit (R164, R165) -/

/-- The debounce of an input starts again when its mode changed. -/
def restartDebounce (old new : Settings) (i : SenseInput) (x : InputState) : InputState :=
  if inputMode old i = inputMode new i then x else { x with debounce := 0 }

/-- The action of every ACTIVE or LATCHED record copied from TAMPER_ACTIONS (R165). -/
def copyActions (actions : Nat) (rs : Vector TamperRecord 10) : Vector TamperRecord 10 :=
  rs.mapFinIdx fun k r _ => if r.state = .clear then r else { r with disconnect := actions.testBit k }

/-- The modes of CASE and COVER copied into the battery domain (R164, R171). -/
def copyModes (p : Settings) (b : Battery) : Battery :=
  { b with caseIn := { b.caseIn with mode := p.caseInput }, coverIn := { b.coverIn with mode := p.coverInput } }

/-- The three committed modes copied into the battery domain (R164). -/
def copyCommitted (p : Settings) (b : Battery) : Battery := { copyModes p b with magMode := p.magnetInput }

/-- The monitor's part under a new settings record: actions copied, debounces begun again where the mode changed (R164,
R165). -/
def Tamper.recommitted (old new : Settings) (x : Tamper) : Tamper where
  records := copyActions new.tamperActions x.records
  caseIn := restartDebounce old new .caseIn x.caseIn
  coverIn := restartDebounce old new .coverIn x.coverIn
  magIn := restartDebounce old new .magIn x.magIn
  reason := x.reason

/-- A settings commit reaches the monitor (R164, R165, R166); the active record is already the new one. -/
def commitToTamper (old : Settings) (s : State) : State :=
  deriveTamper (onTamper (Tamper.recommitted old s.settings) (onBattery (copyCommitted s.settings) s))

/-! ## Battery time (R169, R170, R171) -/

/-- One sample of a watched input in BATTERY, at a meter time (R169). -/
def BatteryWatch.sample (b : BatteryWatch) (time : Nat) (high : Bool) : BatteryWatch :=
  let level := modeActive b.mode high
  if level && !b.previous then
    { b with
      count := capped 65535 (b.count + 1)
      firstTime := if b.count = 0 then time else b.firstTime
      previous := true }
  else { b with previous := level }

/-- A record with battery-time detections merged (R170): `present` says that detection is LEVEL and the input is at
its active level now. -/
def mergedRecord (s : State) (k : Fin 10) (b : BatteryWatch) (present : Bool) (r : TamperRecord) : TamperRecord :=
  let entered : TamperRecord :=
    if r.state = .clear then
      ⟨.active, b.firstTime, importWh s, s.credit.account.balance, s.clock.time, 0, b.count, tamperAction s k⟩
    else
      { r with
        state := .active
        count := capped 65535 (r.count + b.count)
        lastTime := s.clock.time
        disconnect := if r.state = .latched then tamperAction s k else r.disconnect }
  if present then entered else { entered with state := .latched, lastEnd := s.clock.time }

/-- One input's battery-time detections merged into its record (R170). -/
def mergeWatch (i : SenseInput) (b : BatteryWatch) (high : Bool) (s : State) : State :=
  if b.count = 0 then s
  else
    let mode := inputMode s.settings i
    let r := s.tamper.records[(inputKind i)]
    let t := setRecord (inputKind i) (mergedRecord s (inputKind i) b (!modeEdge mode && modeActive mode high) r) s
    if r.state = .active then t else enteredActive t

/-- The battery counts and first times after the merge (R170). -/
def BatteryWatch.merged (b : BatteryWatch) : BatteryWatch := { b with count := 0, firstTime := 0 }

/-- The battery domain after the merge: counts emptied, and the modes of CASE and COVER as the settings have them (R170,
R171). -/
def Battery.merged (p : Settings) (b : Battery) : Battery :=
  copyModes p { b with caseIn := b.caseIn.merged, coverIn := b.coverIn.merged }

/-- Every record's action copied from TAMPER_ACTIONS, as after a commit (R171, item 4). -/
def refreshActions (s : State) : State :=
  onTamper (fun x => { x with records := copyActions s.settings.tamperActions x.records }) s

/-- One input set up at start step 2 (R171, item 1). -/
def setupInput (i : SenseInput) (high : Bool) (s : State) : State :=
  setInput i ⟨modeActive (inputMode s.settings i) high, 0, high⟩ s

/-- The start report of one input (R171, items 2 and 3). -/
def inputStartReport (i : SenseInput) (s : State) : State :=
  let active := (inputState s i).qualified
  if modeEdge (inputMode s.settings i) then
    if active && s.supply.cause = .powerOn then reportBoth (inputKind i) s else s
  else report (inputKind i) active s

/-- Battery time merged and the inputs set up, at start step 2 (R170, R171). Each pin is read once: the sample of R170 and
that of R171 are the same operand and always agree, which is the model's. (Assumption 17.) -/
def settleInputs (s : State) : State :=
  let p := s.pins.sense
  let merged := mergeWatch .coverIn s.battery.coverIn p.coverHigh (mergeWatch .caseIn s.battery.caseIn p.caseHigh s)
  let emptied := onBattery (Battery.merged merged.settings) merged
  let ready := setupInput .magIn p.magHigh (setupInput .coverIn p.coverHigh (setupInput .caseIn p.caseHigh emptied))
  deriveTamper (refreshActions
    (inputStartReport .magIn (inputStartReport .coverIn (inputStartReport .caseIn ready))))

end Sys2Proof.Machine
end

