-- ==== Sys2Proof/Machine/Contactor.lean ====
section
/-! DEFINITION. What a measured-power arrival does in the switch controller (R149), what follows a pulse or a wait, how
operations end, the load limiter, RECONNECT, and the contactor at a hold-up and at a start (sections 8.2 to 8.7). -/

namespace Sys2Proof.Machine

/-! ## The switch fault (R146) -/

/-- The switch fault becomes present and is reported, unless it is present already (R146). -/
def raiseFault (s : State) : State :=
  if s.switch.fault then s
  else reportPresent kindSwitch (setFault true s)

/-- The STUCK retry timer is set. -/
def setStuckTimer (n : Nat) (s : State) : State := onSwitch (fun x => { x with stuckTimer := n }) s

/-- No attempt is in progress and the attempt count is 0. -/
def endAttempt (s : State) : State := onSwitch (fun x => { x with attempt := .idle, attemptCount := 0 }) s

/-! ## Ends of operations (R141, R142) -/

/-- OPEN while a reason acts, else ARMED (R141, R145). -/
def openOrArmed (s : State) : State :=
  setContactor (if s.switch.acting.isEmpty then .armed else .opened) s

/-- An open operation, or an open attempt in STUCK, is confirmed (R141, R145). -/
def openConfirmed (s : State) : State := evaluate (dropFault (openOrArmed (endAttempt s)))

/-- An open operation has failed (R141). -/
def openFailed (s : State) : State := markSwitch (raiseFault (setStuckTimer 60 (setContactor .stuck (endAttempt s))))

/-- A close operation, or a close attempt in STUCK, is confirmed (R142, R145): CLOSED, or OPENING when a reason acts. -/
def closeConfirmed (s : State) : State :=
  let t := commandPosition true (endAttempt s)
  if t.switch.acting.isEmpty then markSwitch (dropFault (enterClosed t))
  else markSwitch (dropFault (enterOpening t))

/-- The manual-close mark is set (R147). -/
def markManualClose (s : State) : State := onSwitch (fun x => { x with kept := { x.kept with manualClose := true } }) s

/-- A close operation has failed (R142). -/
def closeFailed (s : State) : State :=
  evaluate (raiseFault (markManualClose (commandPosition false (setContactor .opened (endAttempt s)))))

/-- An attempt in STUCK is not confirmed (R145): the timer starts again, and an evaluation follows. -/
def stuckAttemptFailed (s : State) : State := evaluate (setStuckTimer 60 (endAttempt s))

/-- An attempt whose wait has ended is judged (R139, R140, R145). -/
def judgeAttempt (s : State) : State :=
  match s.switch.attempt with
  | .judge w =>
    if attemptConfirmed w s then
      match w with
      | .open => openConfirmed s
      | .close => if s.switch.contactor = .stuck then evaluate (closeConfirmed s) else closeConfirmed s
    else if s.switch.contactor = .stuck then stuckAttemptFailed s
    else if s.switch.attemptCount < 3 then beginPulse w s
    else match w with
      | .open => openFailed s
      | .close => closeFailed s
  | _ => s

/-- A coil pulse ends (R139): the confirmation wait begins; in HOLDUP no wait follows (R154). Of a pulse begun before HOLDUP
entry and still running at the return to MAINS the wait begins here, at its end in MAINS. (Assumption 41.) -/
def pulseEnds (s : State) : State :=
  match s.switch.attempt with
  | .pulse w =>
    onSwitch (fun x => { x with attempt := if s.supply.power = .holdup then .rewait w else .wait w }) s
  | _ => s

/-- The confirmation wait ends (R140): the attempt is judged at the next measured-power arrival. -/
def waitEnds (s : State) : State :=
  match s.switch.attempt with
  | .wait w => onSwitch (fun x => { x with attempt := .judge w }) s
  | _ => s

/-! ## STUCK (R144 to R146) -/

/-- The STUCK retry timer steps (R145); at 0 the step STUCK_RETRY is due. -/
def stepStuckTimer (s : State) : State :=
  if s.switch.contactor = .stuck && s.switch.attempt = .idle && 0 < s.switch.stuckTimer then
    let t := setStuckTimer (s.switch.stuckTimer - 1) s
    if s.switch.stuckTimer = 1 then dueFirst .stuckRetry t else t
  else s

/-- One attempt out of STUCK: open while a reason acts, else close (R145). -/
def retryStuck (s : State) : State :=
  if s.switch.contactor = .stuck && s.switch.attempt = .idle then
    beginAttempt (if s.switch.acting.isEmpty then .close else .open) s
  else s

/-- The close-condition test in STUCK at a measured-power arrival (R146). -/
def testStuck (s : State) : State :=
  if s.switch.contactor = .stuck && stuckReleases s then markSwitch (stuckToClosed s) else s

/-- A weld observation arrives (R144); the weld counter returns to 0 (R38). -/
def weldArrives (s : State) : State :=
  let t : State := onMeter (fun x => { x with weld := 0 }) s
  if s.switch.contactor = .opened then markSwitch (raiseFault (setStuckTimer 60 (setContactor .stuck t))) else t

/-! ## The load limiter (R149 to R152) -/

/-- The LOAD retry timer steps (R151); at 0 the step LOAD_RETRY_EXPIRY is due. -/
def stepRetryTimer (s : State) : State :=
  if s.switch.reasons.load && !s.switch.kept.loadLatch && 0 < s.switch.retryTimer then
    let t : State := onSwitch (fun x => { x with retryTimer := x.retryTimer - 1 }) s
    if s.switch.retryTimer = 1 then dueFirst .loadRetryExpiry t else t
  else s

/-- The LOAD latch is set (R151). -/
def setLatch (s : State) : State := onSwitch (fun x => { x with kept := { x.kept with loadLatch := true } }) s

/-- The LOAD retry timer expires (R151): LOAD clears, or the latch is set; each is followed by an evaluation (R137). -/
def retryExpires (s : State) : State :=
  if s.switch.kept.tripCount < s.settings.loadLockoutTrips then handReason .load false s
  else evaluate (setLatch s)

/-- The limiter counts (R149): CLOSED, a limit set, LOAD inactive. -/
def limiterCounts (s : State) : Bool :=
  s.switch.contactor = .closed && 0 < s.settings.loadLimit && !s.switch.reasons.load

/-- The load limiter's count (R149); when it reaches LOAD_TRIP_DELAY_S the step LOAD_TRIP is due (R150). -/
def stepOverCount (s : State) : State :=
  let n := if limiterCounts s && s.settings.loadLimit < s.meter.measured then s.switch.overCount + 1 else 0
  let t : State := onSwitch (fun x => { x with overCount := n }) s
  if 0 < n && s.settings.loadTripDelay ≤ n then dueFirst .loadTrip t else t

/-- A trip is counted and its retry timer set (R150). A count of 9 stays 9. (Assumption 35.) -/
def countTrip (delay : Nat) (s : State) : State :=
  onSwitch (fun x => { x with
    overCount := 0
    retryTimer := delay
    cleanRun := 0
    kept := { x.kept with tripCount := capped 9 (x.kept.tripCount + 1) } }) s

/-- The limiter trips (R150). -/
def tripLimiter (s : State) : State := handReason .load true (countTrip s.settings.loadRetryDelay s)

/-- The clean-run count steps (R152); at 1800 the step CLEAN_RUN_COMPLETE is due. -/
def stepCleanRun (s : State) : State :=
  if s.switch.contactor = .closed then
    let t : State := onSwitch (fun x => { x with cleanRun := x.cleanRun + 1 }) s
    if 1800 ≤ s.switch.cleanRun + 1 then dueFirst .cleanRunComplete t else t
  else onSwitch (fun x => { x with cleanRun := 0 }) s

/-- The clean run is complete (R152): the trip count and the clean-run count become 0. -/
def finishCleanRun (s : State) : State :=
  onSwitch (fun x => { x with cleanRun := 0, kept := { x.kept with tripCount := 0 } }) s

/-! ## RECONNECT (R148) -/

/-- Step 1 of a RECONNECT: trip count 0, LOAD latch and its LOAD reason cleared, manual-close mark cleared. -/
def reconnectClears (s : State) : State :=
  onSwitch (fun x => { x with
    reasons := { x.reasons with load := x.reasons.load && !x.kept.loadLatch }
    kept := { x.kept with tripCount := 0, loadLatch := false, manualClose := false } }) s

/-- Step 3 of a RECONNECT: an ARMED contactor begins to close, whether or not auto-close is permitted. -/
def reconnectCloses (s : State) : State :=
  if s.switch.contactor = .armed then markSwitch (enterClosing s) else s

/-! ## Hold-up (R154) -/

/-- HOLDUP entry at the controller: a wait, and a judgment that is due, are abandoned (R154). -/
def holdupSwitch (s : State) : State :=
  match s.switch.attempt with
  | .wait w => onSwitch (fun x => { x with attempt := .rewait w }) s
  | .judge w => onSwitch (fun x => { x with attempt := .rewait w }) s
  | _ => s

/-- The return to MAINS at the controller: deferred pulses and abandoned waits begin (R154). A pulse still running goes on; its
wait begins at its end. (Assumption 41.) -/
def resumeSwitch (s : State) : State :=
  match s.switch.attempt with
  | .rewait w => onSwitch (fun x => { x with attempt := .wait w }) s
  | .deferred w => beginPulse w s
  | _ => s

/-! ## Start (R156) -/

/-- Steps 1 to 3 of R156: the state found, its comparison with the commanded position, and what follows from it. A contactor
found OPEN against a CLOSED command leaves the commanded position as it is. (Assumption 36.) -/
def findContactor (s : State) : State :=
  let closed := s.pins.loadSide.any
  let mismatch := closed != s.switch.kept.commandedClosed
  let told := if mismatch then reportBoth kindSwitch s else reportGone kindSwitch s
  if closed then
    commandPosition true (enterClosed told)
  else
    let opened := setContactor .opened told
    if mismatch then markManualClose opened else opened

/-- The hand-offs of start step 4, each without an evaluation (R156). -/
def takeHandOffs (friendly tamper remote credit : Bool) (s : State) : State :=
  onSwitch (fun x => { x with
    friendly := friendly
    reasons := { x.reasons with tamper := tamper, remote := remote, credit := credit } }) s

/-- Steps 4 and 5 of R156: the hand-offs, and then one evaluation. -/
def handAtStart (friendly : Bool) (s : State) : State :=
  evaluate (takeHandOffs friendly s.tamper.reason s.decoder.remoteOrder s.credit.reason s)

end Sys2Proof.Machine
end

