-- ==== Sys2Proof/Machine/Time.lean ====
section
/-! DEFINITION. Local time and what a calendar says of it: date, day type, band in force, friendly period
(R41, R48, R49, R50). -/

namespace Sys2Proof.Machine

/-- Local time: meter time plus 60 times the offset, and 0 where that falls below 0 (R41). -/
def localSeconds (time : Nat) (t : Tariff) : Nat := ((time : Int) + 60 * t.offset).toNat

/-- The local date, 2000-01-01 being day 0 (R41). -/
def localDate (time : Nat) (t : Tariff) : Nat := localSeconds time t / 86400

/-- The minute of day, 0 to 1439 (R41). -/
def minuteOfDay (time : Nat) (t : Tariff) : Nat := localSeconds time t % 86400 / 60

/-- The weekday of a local date, Monday 0 (R41). -/
def weekday (date : Nat) : Nat := (date + 5) % 7

/-- A year, month and day. -/
structure CivilDate where
  year : Nat
  month : Nat
  day : Nat
deriving DecidableEq, Repr

/-- The year, month and day of a local date (R41, Conventions). Days are counted from 1600-03-01, so that a leap day is
the last day of its year: 2000-01-01 is 146,037 days later. -/
def civilDate (date : Nat) : CivilDate :=
  let z := date + 146037
  let era := z / 146097
  let doe := z % 146097
  let yoe := (doe - doe / 1460 + doe / 36524 - doe / 146096) / 365
  let doy := doe - (365 * yoe + yoe / 4 - yoe / 100)
  let mp := (5 * doy + 2) / 153
  let day := doy - (153 * mp + 2) / 5 + 1
  let month := if mp < 10 then mp + 3 else mp - 9
  ⟨1600 + 400 * era + yoe + (if month ≤ 2 then 1 else 0), month, day⟩

/-- A leap year (Conventions). -/
def leapYear (y : Nat) : Bool := (y % 4 == 0 && y % 100 != 0) || y % 400 == 0

/-- The length of a month; year 0 stands for every year, so its February has 29 days (R52, step 4). -/
def monthLength (year month : Nat) : Nat :=
  match month with
  | 2 => if year = 0 || leapYear year then 29 else 28
  | 4 => 30
  | 6 => 30
  | 9 => 30
  | 11 => 30
  | _ => 31

/-- A holiday matches a date (R48). -/
def Holiday.matches (h : Holiday) (d : CivilDate) : Bool :=
  h.month == d.month && h.day == d.day && (h.year == 0 || h.year == d.year)

/-- The day type of a local date: 7 for a holiday, else the weekday (R48). -/
def dayType (t : Tariff) (date : Nat) : Nat :=
  if t.holidays.any (fun h => h.matches (civilDate date)) then 7 else weekday date

/-- A day mask includes a day type (R47, R188). -/
def inMask (mask : Byte) (day : Nat) : Bool := mask.getLsbD day

/-- The candidate with the largest minute not above the current one, of those given so far (R49). -/
def laterPoint (minute : Nat) (best : Option SwitchPoint) (p : SwitchPoint) : Option SwitchPoint :=
  if p.minute ≤ minute then
    match best with
    | none => some p
    | some b => if b.minute < p.minute then some p else some b
  else best

/-- The band in force at a meter time (R49). -/
def bandAt (t : Tariff) (time : Nat) : Nat :=
  let day := dayType t (localDate time t)
  let candidates := t.switchPoints.filter (fun p => inMask p.mask day)
  match candidates.foldl (laterPoint (minuteOfDay time t)) none with
  | none => t.defaultBand
  | some p => p.band

/-- A friendly period is active at a meter time (R50). -/
def friendlyPeriod (t : Tariff) (time : Nat) : Bool :=
  let day := dayType t (localDate time t)
  let minute := minuteOfDay time t
  t.windows.any (fun w => inMask w.mask day && w.start ≤ minute && minute < w.stop)

/-- The friendly state as the calendar would hand it: a friendly period is active and the time is CERTAIN (R50). -/
def friendlyState (s : State) : Bool := s.clock.certain && friendlyPeriod s.book.active s.clock.time

/-- The current local date (R41). -/
def today (s : State) : Nat := localDate s.clock.time s.book.active

end Sys2Proof.Machine
end

