-- ==== Sys2Proof/Machine/Pages.lean ====
section
/-! DEFINITION. The part-owned pages and their publication (sections 1.4, 11.3, 11.4, 11.6). Each page is a list of
fields with the address that the Formats chapter gives them; a byte that belongs to no field is 0x00 (R188). -/

namespace Sys2Proof.Machine

/-- The bytes of fields that stand at rising addresses, from `pos` on, with 0x00 between them. -/
def layout : Nat → List (Nat × List Byte) → List Byte
  | _, [] => []
  | pos, (a, bytes) :: rest => List.replicate (a - pos) 0 ++ bytes ++ layout (a + bytes.length) rest

/-- A page of exactly `size` bytes. -/
def page (size : Nat) (fields : List (Nat × List Byte)) : List Byte :=
  let bytes := layout 0 fields
  bytes.take size ++ List.replicate (size - bytes.length) 0

/-- One byte. -/
def byte (v : Nat) : List Byte := le 1 v

/-- One byte for a yes-or-no quantity. -/
def flagByte (b : Bool) : List Byte := byte (flag b)

/-- The slot in work as shown: 0xFF when no entry is in work (R15, R16). -/
def slotInWork (s : State) : Nat :=
  match s.intake.work with
  | none => 0xFF
  | some w => w.slot

/-- The twelve bytes of a key slot (section 11.3). The key value is not among them (R93). -/
def keySlotBytes (k : KeySlot) : List Byte :=
  byte (128 * flag k.present + k.authority) ++ byte k.revision ++ byte k.spent.length ++ le 3 k.expiry ++
    le 3 k.floor ++ le 3 k.lastSerial

/-- A settings record, 3 bytes each (section 11.3). -/
def settingsBytes (x : Settings) : List Byte := x.toList.flatMap (le 3)

/-- The mask of the tamper records in a state (R173). -/
def recordMask (t : TamperState) (rs : Vector TamperRecord 10) : Nat :=
  maskOf (rs.toList.map fun r => r.state == t)

/-- The friendly contribution to the hold level (R135). -/
def friendlyContribution (s : State) : Nat := if s.switch.friendly then s.settings.friendlyHold else 0

/-- Supply, intake and retention fields (0x0000 to 0x0010). -/
def supplyFields (s : State) (gen : Nat) : List (Nat × List Byte) :=
  [(0x0000, le 4 gen), (0x0004, byte s.supply.power.code), (0x0005, byte s.supply.cause.code),
   (0x0006, [s.supply.failed]), (0x0007, flagByte s.supply.batteryLow), (0x0008, byte s.intake.list.length),
   (0x0009, byte (slotInWork s)), (0x000A, byte (maskOf [s.store.writing.isSome, s.store.requested])),
   (0x000B, le 2 s.store.periodic), (0x000D, le 4 s.store.lastNumber.toNat)]

/-- Metering fields (0x0014 to 0x008F, R39). -/
def meterFields (s : State) : List (Nat × List Byte) :=
  let m := s.meter
  [(0x0014, m.voltage.toList.flatMap (le 2)), (0x001A, m.current.toList.flatMap (le 4)),
   (0x0026, le 4 m.neutral ++ le 4 m.residual ++ le 4 m.frequency),
   (0x0032, m.power.toList.flatMap (leSigned 4)), (0x003E, le 4 m.measured), (0x0042, le 4 m.billed),
   (0x0046, byte m.band ++
     byte (maskOf m.supplySide.toList + 16 * maskOf m.loadSide.toList) ++ flagByte m.substituted ++ byte m.law ++
     byte (maskOf [m.reverse.reported, m.voltageTap.reported, m.bypass.reported])),
   (0x0050, le 8 (s.energy.total / 1000000) ++
     s.energy.bands.toList.flatMap (fun e => le 8 (e / 1000000)) ++ le 8 (s.energy.exported / 1000000))]

/-- Calendar fields (0x0090 to 0x00A6, R58). While there is no passive calendar its id and activation time read 0x00, for which
R58 gives no value. (Assumption 40.) -/
def calendarFields (s : State) : List (Nat × List Byte) :=
  [(0x0090, le 4 s.clock.time),
   (0x0094, le 2 (today s) ++ le 2 (minuteOfDay s.clock.time s.book.active)),
   (0x0098, byte (dayType s.book.active (today s)) ++ flagByte (!s.clock.certain) ++ byte s.clock.source.code ++
     flagByte s.switch.friendly),
   (0x009C, le 2 (s.book.lastCharged.getD 0xFFFF) ++ le 2 s.book.active.id),
   (0x00A0, match s.book.passive with
     | none => byte 0
     | some p => byte 1 ++ le 2 p.id ++ le 4 p.activation)]

/-- Credit fields (0x00A8 to 0x0123, R77, R89). -/
def creditFields (s : State) : List (Nat × List Byte) :=
  let c := s.credit
  let a := c.account
  [(0x00A8, leSigned 8 a.balance), (0x00B0, balanceDisplay a.balance), (0x00B8, le 4 a.residue),
   (0x00BC, le 8 a.debt), (0x00C4, le 4 a.grant), (0x00C8, leSigned 8 (a.balance + a.grant)),
   (0x00D0, byte c.ecState.code ++ flagByte c.lowCredit ++ flagByte c.reason ++ byte a.flagBits),
   (0x00D4, byte c.lastCharge.band ++ le 3 c.lastCharge.price ++ le 2 c.lastCharge.charged ++
     le 2 c.lastCharge.unbilled),
   (0x00DC, le 4 c.lastDayEnd.standing ++ le 4 c.lastDayEnd.recovered),
   (0x00E4, [a.credited, a.recoveredTopup, a.energyCharged, a.standingCharged, a.recoveredDaily, a.unbilled,
     a.debtAdded, a.debtRecovered].flatMap (le 8))]

/-- Decoder fields (0x0124 to 0x015D, R117). -/
def decoderFields (s : State) : List (Nat × List Byte) :=
  let d := s.decoder
  [(0x0124, [d.key0, d.key1, d.key2, d.key3].flatMap keySlotBytes),
   (0x0154, byte d.badCount ++ flagByte d.remoteOrder ++ le 2 d.lockout),
   (0x0158, byte d.lastToken.source ++ byte d.lastToken.slot ++ byte d.lastToken.cls ++ le 3 d.lastToken.serial)]

/-- Window and settings fields (0x015E to 0x01D8, R133). -/
def windowFields (s : State) : List (Nat × List Byte) :=
  let w := s.window
  [(0x015E, byte w.state.code ++ byte w.rank ++ le 2 w.remaining ++ byte w.cause.code ++
     (match w.staged with
      | none => byte 0 ++ le 3 0
      | some p => byte 1 ++ le 3 (changedMask p s.settings))),
   (0x0167, settingsBytes s.settings),
   (0x01A0, match w.staged with
     | none => []
     | some p => settingsBytes p)]

/-- Switch fields (0x01D9 to 0x01EF, R157). -/
def switchFields (s : State) : List (Nat × List Byte) :=
  let w := s.switch
  [(0x01D9, byte w.contactor.code ++ byte w.attemptCount ++ flagByte w.kept.commandedClosed ++ byte w.governing.code),
   (0x01DD, byte w.reasons.code ++ byte w.acting.code ++ byte w.held.code),
   (0x01E0, byte w.hold ++ byte (friendlyContribution s) ++ byte w.windowHold),
   (0x01E3, byte w.kept.openedBy.code ++ flagByte w.kept.manualClose ++ flagByte (autoClosePermitted s) ++
     flagByte w.fault ++ byte w.stuckTimer),
   (0x01E8, le 2 w.overCount ++ byte w.kept.tripCount ++ le 2 w.retryTimer ++ flagByte w.kept.loadLatch ++
     le 2 w.cleanRun)]

/-- Tamper fields of the status page (0x01F0 to 0x01FE, R173). A raw level's bit reads 1 for a High pin, for which the reference
gives no code. (Assumption 38.) -/
def tamperFields (s : State) : List (Nat × List Byte) :=
  let t := s.tamper
  [(0x01F0, flagByte t.reason ++ le 2 (recordMask .active t.records) ++ le 2 (recordMask .latched t.records)),
   (0x01F5, byte (maskOf [t.caseIn.qualified, t.coverIn.qualified, t.magIn.qualified] +
     16 * maskOf [t.caseIn.raw, t.coverIn.raw, t.magIn.raw])),
   (0x01F6, le 3 s.settings.caseInput ++ le 3 s.settings.coverInput ++ le 3 s.settings.magnetInput)]

/-- The status page with a generation counter (section 11.3). -/
def statusPage (s : State) (gen : Nat) : List Byte :=
  page 0x200 (supplyFields s gen ++ meterFields s ++ calendarFields s ++ creditFields s ++ decoderFields s ++
    windowFields s ++ switchFields s ++ tamperFields s)

/-- The 32 bytes of a tamper record (section 11.4). -/
def recordBytes (r : TamperRecord) : List Byte :=
  byte r.state.code ++ flagByte r.disconnect ++ le 2 r.count ++ le 4 r.firstTime ++ le 8 r.firstImport ++
    leSigned 8 r.firstBalance ++ le 4 r.lastTime ++ le 4 r.lastEnd

/-- The tamper page (section 11.4). -/
def tamperPage (s : State) : List Byte :=
  page 0x200 [(0, s.tamper.records.toList.flatMap recordBytes)]

/-- A calendar in the layout of section 11.6, with its present mark 1. Its lists have 24, 16 and 8 places. -/
def tariffView (t : Tariff) : List Byte :=
  page 0x400
    [(0x000, le 2 t.id), (0x002, leSigned 2 t.offset), (0x004, t.prices.toList.flatMap (le 4)),
     (0x01C, byte t.defaultBand),
     (0x01D, byte t.switchPoints.length ++ byte t.holidays.length ++ byte t.windows.length),
     (0x020, le 4 t.standing), (0x024, le 4 t.activation), (0x028, byte 1),
     (0x030, (t.switchPoints.take 24).flatMap fun p => [p.mask] ++ le 2 p.minute ++ byte p.band),
     (0x090, (t.holidays.take 16).flatMap fun h => le 2 h.year ++ byte h.month ++ byte h.day),
     (0x0D0, (t.windows.take 8).flatMap fun w => [w.mask] ++ le 2 w.start ++ le 2 w.stop)]

/-- The passive calendar view: every byte 0x00 while no passive calendar exists (R58, R189). -/
def passiveView (s : State) : List Byte :=
  match s.book.passive with
  | none => List.replicate 0x400 0
  | some t => tariffView t

/-- The four part-owned pages written, with a generation counter (R14). -/
def writePages (s : State) (gen : Nat) : Memory :=
  (((s.mem.splice 0x0000 (statusPage s gen)).splice 0x0600 (tamperPage s)).splice 0x0C00
    (tariffView s.book.active)).splice 0x1000 (passiveView s)

/-- A publication begins (R14): the counter becomes odd and the pages take the blocks' state as it stands now; the
bits due until now are raised when it ends (R17). The pages change at the beginning as one. (Assumption 4.) -/
def beginPublication (s : State) : State :=
  onMem (fun m => writePages s ((generation m + 1) % 2 ^ 32))
    (onAttn (fun x => { x with busy := true, inFlight := x.due, due := 0 }) s)

/-- A publication is requested (R14): one at a time, and one further publication for all requests that arrive during
it. -/
def requestPublication (s : State) : State :=
  if s.attn.busy then onAttn (fun x => { x with queued := true }) s else beginPublication s

/-- The counter made even, and the bits that the publication carries raised (R14, R17). -/
def closePublication (s : State) : State :=
  onMem (fun m => m.splice 0x0000 (le 4 ((generation m + 1) % 2 ^ 32)))
    (onAttn (fun x => { x with bits := x.bits ||| x.inFlight, inFlight := 0, busy := false, queued := false }) s)

/-- A publication ends (R14, R17): the counter becomes even and the bits it carries are raised; a queued
publication then begins. -/
def endPublication (s : State) : State :=
  if s.attn.busy then
    let ended := closePublication s
    if s.attn.queued then beginPublication ended else ended
  else s

end Sys2Proof.Machine
end

