-- ==== Sys2Proof/Machine/Intake.lean ====
section
/-! DEFINITION. The work intake and the host's bytes (sections 1.2 and 1.3): posting, withdrawing, taking, completing. -/

namespace Sys2Proof.Machine

/-- The step that a taken entry is due for, by its kind byte and, for WINDOW_CLOSE, its action byte (R11, R124). -/
def dueOf (w : Work) : Due :=
  match w.kind with
  | 1 => .token
  | 2 => .reconnect
  | 3 => .emergency
  | 4 => .timeSet
  | 5 => .calendarSubmit
  | 6 => if w.byteAt 4 = 0 then .windowCloseDiscard
         else if w.byteAt 4 = 1 then .windowCloseCommit else .windowClosePayloadRange
  | 7 => .flagClear
  | _ => .kindUnknown

/-- The entry that a taking of slot `n` puts in work (R10): its body is snapshot. -/
def takenWork (m : Memory) (n : Nat) : Work := ⟨n, m.readBytes (slotBase n + 1) 63, .handed⟩

/-- The intake takes the head of its list if nothing is in work, the intake is open and the list is not empty (R10). -/
def takeNext (s : State) : State :=
  match s.intake.work, s.intake.ready, s.intake.list with
  | none, true, n :: rest =>
    let w := takenWork s.mem n
    dueFirst (dueOf w)
      (onMem (fun m => m.write (slotBase n) ownerTaken)
        (onIntake (fun i => { i with list := rest, work := some w }) s))
  | _, _, _ => s

/-- The result area of a slot from offset 4 on: code, item and a body padded with 0x00 to its 58 bytes (R12). -/
def resultBytes (r : Result) : List Byte :=
  r.code.code :: BitVec.ofNat 8 r.item :: (r.body.take 58 ++ List.replicate (58 - r.body.length) 0)

/-- The slot of an entry with its result written: host tag echoed, result in place, owner byte DONE (R12). -/
def writeResult (m : Memory) (w : Work) (r : Result) : Memory :=
  ((m.splice (slotBase w.slot + 2) [w.byteAt 2, w.byteAt 3]).splice (slotBase w.slot + 4) (resultBytes r)).write
    (slotBase w.slot) ownerDone

/-- The entry in work completes (R12): result written, slot DONE, nothing in work; the next entry is taken at once,
and a publication is requested, at whose end SLOT_DONE is raised. It begins behind the taking of the next entry and before that
entry's decision. (Assumption 46.) -/
def completeEntry (r : Result) (s : State) : State :=
  match s.intake.work with
  | none => s
  | some w =>
    requestPublication (takeNext (markDue attnSlotDone
      (onMem (fun m => writeResult m w r) (onIntake (fun i => { i with work := none }) s))))

/-- The entry in work moves to another stage. -/
def setStage (g : Stage) (s : State) : State :=
  onIntake (fun x => { x with work := x.work.map fun w => { w with stage := g } }) s

/-- The calendar image is locked: from the taking of a CALENDAR_SUBMIT entry to its completion (R5, R51). -/
def imageLocked (s : State) : Bool :=
  match s.intake.work with
  | none => false
  | some w => w.kind == 5

/-- A host byte at the owner byte of slot `n` (R8). -/
def hostOwnerByte (n : Nat) (v : Byte) (s : State) : State :=
  let owner := ownerOf s.mem n
  if v = ownerPosted && owner = ownerEmpty && s.supply.power = .mains then
    takeNext
      (onMem (fun m => m.write (slotBase n) ownerPosted)
        (onIntake (fun i => { i with list := i.list ++ [n] }) s))
  else if v = ownerEmpty && owner = ownerPosted then
    onMem (fun m => m.write (slotBase n) ownerEmpty)
      (onIntake (fun i => { i with list := i.list.filter (fun k => k != n) }) s)
  else if v = ownerEmpty && owner = ownerDone then
    onMem (fun m => m.write (slotBase n) ownerEmpty) s
  else s

/-- Memory frames take effect in MAINS and HOLDUP (R6). -/
def memoryWritable (s : State) : Bool := s.supply.power == .mains || s.supply.power == .holdup

/-- A host data byte arrives at an address (R5, R7, R8). -/
def hostByte (a : Nat) (v : Byte) (s : State) : State :=
  if !memoryWritable s then s
  else if inSlots a then
    let n := (a - 0x0200) / 64
    if (a - 0x0200) % 64 = 0 then hostOwnerByte n v s
    else if ownerOf s.mem n = ownerEmpty then onMem (fun m => m.write a v) s
    else s
  else if inImage a then
    if imageLocked s then s else onMem (fun m => m.write a v) s
  else s

/-! ## Registers and reads -/

/-- PART_STATUS (R16). -/
def partStatus (s : State) : List Byte :=
  byte s.supply.power.code ++ flagByte s.intake.ready ++ byte s.intake.list.length ++ byte (slotInWork s)

/-- The bytes of a register (R4, R17, R19); register numbers 3 to 255 have none. -/
def registerBytes (s : State) (r : Byte) : List Byte :=
  if r = 0 then partStatus s
  else if r = 1 then [s.attn.bits.setWidth 8]
  else if r = 2 then [s.attn.mask.setWidth 8]
  else []

/-- What a READ_MEMORY frame finds at an address: 0x00 in START until the pages are built (R6), and 0x00 outside the
memory map (R2). -/
def readByte (s : State) (a : Nat) : Byte :=
  if s.supply.power = .start && s.supply.startStep < 5 then 0
  else if a < 0x1400 then s.mem.read a else 0

/-- The 16-bit address of a memory frame, high byte first (R2, R3). -/
def frameAddress (hi lo : Byte) : Nat := 256 * hi.toNat + lo.toNat

/-! ## Frames (section 1.1) -/

/-- The state with its link changed. -/
def onLink (f : Link → Link) (s : State) : State := { s with link := f s.link }

/-- A whole frame answered: LSO shifts these bytes out, and nothing in BATTERY, where it stays at high impedance (R6). -/
def answerFrame (bytes : List Byte) (s : State) : State :=
  onLink (fun _ => ⟨if s.supply.power = .battery then none else some bytes, none⟩) s

/-- Zero bytes. -/
def zeros (n : Nat) : List Byte := List.replicate n 0

/-- The frame in progress, if it is of this kind and the link answers (R6). -/
def openFrame (write : Bool) (s : State) : Option OpenFrame :=
  match s.link.frame with
  | none => none
  | some f => if f.write = write && s.supply.power != .battery then some f else none

/-- A memory frame begins, or the one of its kind in progress goes on (R1): 0x00 is shifted out for the command byte. In
BATTERY the link answers nothing (R6). -/
def beginFrame (write : Bool) (s : State) : State :=
  match openFrame write s with
  | some _ => s
  | none => onLink (fun _ => if s.supply.power = .battery then ⟨none, none⟩ else ⟨some [0], some ⟨write, .start⟩⟩) s

/-- A memory frame ends, unless LSEL_N stays Low (R1). -/
def endFrame (more : Bool) (s : State) : State := if more then s else onLink (fun x => { x with frame := none }) s

/-- Where a frame stands behind one further byte (R2, R3); after 0xFFFF the address goes on at 0x0000. -/
def FramePlace.next (v : Byte) : FramePlace → FramePlace
  | .start => .half v
  | .half hi => .data (frameAddress hi v)
  | .data a => .data ((a + 1) % Config.addressSpace)

/-- What LSO shifts out at a place of a frame: the byte read, and 0x00 for an address byte and in a WRITE_MEMORY frame (R2,
R3). -/
def shiftedOut (f : OpenFrame) (s : State) : Byte :=
  match f.place with
  | .data a => if f.write then 0 else readByte s a
  | _ => 0

/-- One complete byte of the memory frame in progress (R2, R3). -/
def frameByte (write : Bool) (v : Byte) (s : State) : State :=
  match openFrame write s with
  | none => s
  | some f =>
    let t := onLink (fun x => ⟨x.out.map (· ++ [shiftedOut f s]), some ⟨write, f.place.next v⟩⟩) s
    match f.place with
    | .data a => if write then hostByte a v t else t
    | _ => t

end Sys2Proof.Machine
end

