-- ==== Sys2Proof/Machine/Credit.lean ====
section
/-! DEFINITION. The credit engine (chapters 4 and 5): charges, day ends, top-ups, clears, flags, the derived emergency
credit state, and the entries EMERGENCY and FLAG_CLEAR. -/

namespace Sys2Proof.Machine

/-! ## Derived state (R79, R85, R86) -/

/-- The EC state (R79). -/
def ecStateOf (a : Account) (p : Settings) : EcState :=
  if a.grant = 0 then
    if p.ecAmount = 0 || a.balance > p.ecOffer then .unavailable else .offered
  else if a.balance > -(a.grant : Int) then .inUse else .exhausted

/-- The low-credit flag (R85). -/
def lowCreditOf (a : Account) (p : Settings) : Bool := a.balance ≤ p.lowCredit

/-- The CREDIT reason (R86). -/
def creditReasonOf (a : Account) : Bool := a.balance ≤ -(a.grant : Int)

/-- The derived state formed from the account and the active settings. -/
def derivedCredit (s : State) : Credit :=
  { s.credit with
    ecState := ecStateOf s.credit.account s.settings
    lowCredit := lowCreditOf s.credit.account s.settings
    reason := creditReasonOf s.credit.account }

/-- The derived state formed anew, with nothing told to another block. -/
def deriveQuietly (s : State) : State := onCredit (fun _ => derivedCredit s) s

/-- The derivation at the end of an arrival (R80): a change of the EC state, the low-credit flag or the reason marks
CREDIT attention (R88), and a change of the reason is handed to the switch controller (R87). -/
def deriveCredit (s : State) : State :=
  let now := derivedCredit s
  let t := deriveQuietly s
  let marked := if now = s.credit then t else markDue attnCredit t
  if now.reason ≠ s.credit.reason && handing s then handReason .credit now.reason marked else marked

/-- The account changed by an arrival. -/
def setAccount (a : Account) (s : State) : State := onCredit (fun x => { x with account := a }) s

/-! ## Charges (R62 to R64) -/

/-- The part of a charge that the balance cannot carry at its floor (R63). -/
def shortfall (b : Int) (c : Nat) : Nat := (-Config.balanceLimit - (b - c)).toNat

/-- A whole-cu charge taken from the balance, with the floor clamp (R63). -/
def takeCharge (c : Nat) (a : Account) : Account :=
  { a with
    balance := max (-Config.balanceLimit) (a.balance - c)
    unbilled := a.unbilled + shortfall a.balance c
    balFloor := a.balFloor || 0 < shortfall a.balance c }

/-- The priced amount n of R62, in units of 10^-9 cu. -/
def pricedAmount (billed price residue : Nat) : Nat := billed * price + residue

/-- An interval charge at the account (R62, R63). -/
def chargeAccount (billed price : Nat) (a : Account) : Account :=
  let n := pricedAmount billed price a.residue
  let c := n / Config.residueUnit
  { takeCharge c a with residue := n % Config.residueUnit, energyCharged := a.energyCharged + c }

/-- The last charge as the status page keeps it (R62, R77). -/
def lastChargeOf (billed price band : Nat) (a : Account) : LastCharge :=
  let c := pricedAmount billed price a.residue / Config.residueUnit
  ⟨band, price, c, shortfall a.balance c⟩

/-- An interval charge arrives (R62, R63), with the band that the status page keeps. -/
def intervalCharge (billed price band : Nat) (s : State) : State :=
  deriveCredit (onCredit (fun x => { x with
    account := chargeAccount billed price x.account
    lastCharge := lastChargeOf billed price band x.account }) s)

/-- The standing charge of a day end at the account (R64). -/
def standAccount (standing : Nat) (a : Account) : Account :=
  { takeCharge standing a with standingCharged := a.standingCharged + standing }

/-- The daily recovery d of R65. -/
def dailyRecovery (daily : Nat) (a : Account) : Nat := min daily (min a.debt a.balance.toNat)

/-- The debt recovery of a day end at the account (R65). -/
def recoverAccount (d : Nat) (a : Account) : Account :=
  { a with
    balance := a.balance - d
    debt := a.debt - d
    recoveredDaily := a.recoveredDaily + d
    debtRecovered := a.debtRecovered + d }

/-- A day end in the credit engine's state: standing charge, then recovery (R64, R65). -/
def Credit.dayEnd (standing daily : Nat) (x : Credit) : Credit :=
  let a := standAccount standing x.account
  let d := dailyRecovery daily a
  { x with account := recoverAccount d a, lastDayEnd := ⟨standing, d⟩ }

/-- A day end arrives at the credit engine (R64 to R66): standing charge, then recovery, then one derivation. -/
def creditDayEnd (s : State) : State :=
  deriveCredit (onCredit (Credit.dayEnd s.book.active.standing s.settings.debtDaily) s)

/-! ## Tokens' arrivals (R67 to R70) -/

/-- The recovery rec of a top-up of A cu (R67). -/
def topupRecovery (rate A debt : Nat) : Nat := min debt (A * rate / 100)

/-- The account after a top-up of A cu with its recovery; a balance above 0 ends the grant (R67, R83). -/
def topupAccount (A share : Nat) (a : Account) : Account :=
  let b := a.balance + A - share
  { a with
    balance := b
    debt := a.debt - share
    credited := a.credited + A
    recoveredTopup := a.recoveredTopup + share
    debtRecovered := a.debtRecovered + share
    grant := if 0 < b then 0 else a.grant }

/-- A top-up of A cu arrives (R67, R68): refused whole above the balance's limit. -/
def topup (A : Nat) (s : State) : Option State :=
  let a := s.credit.account
  let share := topupRecovery s.settings.debtRate A a.debt
  if a.balance + A - share > Config.balanceLimit then none
  else some (deriveCredit (setAccount (topupAccount A share a) s))

/-- What a DEBT_ADD of A cu adds (R69). -/
def debtAdded (A : Nat) (a : Account) : Nat := min A (Config.debtLimit - a.debt)

/-- The account after a DEBT_ADD of A cu (R69). -/
def debtAccount (A : Nat) (a : Account) : Account :=
  { a with
    debt := a.debt + debtAdded A a
    debtAdded := a.debtAdded + debtAdded A a
    debtLimit := a.debtLimit || Config.debtLimit < a.debt + A }

/-- The credit group at 0 (R70). -/
def clearCreditGroup (a : Account) : Account :=
  { a with
    balance := 0, residue := 0, grant := 0, credited := 0, recoveredTopup := 0, energyCharged := 0,
    standingCharged := 0, recoveredDaily := 0, unbilled := 0 }

/-- The debt group at 0 (R70). -/
def clearDebtGroup (a : Account) : Account := { a with debt := 0, debtAdded := 0, debtRecovered := 0 }

/-- The account after a CLEAR with a payload of 1, 2 or 3 (R70). -/
def clearAccount (payload : Nat) (a : Account) : Account :=
  let b := if payload = 1 || payload = 3 then clearCreditGroup a else a
  if payload = 2 || payload = 3 then clearDebtGroup b else b

/-! ## EMERGENCY (R81) and FLAG_CLEAR (R72) -/

/-- The result of an EMERGENCY entry: the state before, and what stands after. -/
def emergencyResult (code : ResultCode) (item : Nat) (before : EcState) (s : State) : Result :=
  ⟨code, item, byte before.code ++ byte s.credit.ecState.code ++ le 4 s.credit.account.grant ++
    leSigned 8 s.credit.account.balance ++ flagByte s.credit.reason⟩

/-- The taken EMERGENCY entry is decided (R81): the grant is made when the EC state is OFFERED. -/
def decideEmergency (s : State) : State :=
  let before := ecStateOf s.credit.account s.settings
  if before = .offered then
    let t := deriveCredit (setAccount { s.credit.account with grant := s.settings.ecAmount } s)
    completeEntry (emergencyResult .accepted 0 before t) t
  else
    let t := onCredit (fun _ => derivedCredit s) s
    completeEntry (emergencyResult .ecNotOffered before.code before t) s

/-- The account with the flags of a mask cleared (R72). -/
def clearFlags (mask : Nat) (a : Account) : Account :=
  { a with
    balFloor := a.balFloor && !mask.testBit 0
    debtLimit := a.debtLimit && !mask.testBit 1
    energySat := a.energySat && !mask.testBit 2
    supplyLoss := a.supplyLoss && !mask.testBit 3 }

/-- The taken FLAG_CLEAR entry is decided (R72). -/
def decideFlagClear (w : Work) (s : State) : State :=
  let mask := (w.byteAt 4).toNat
  let before := s.credit.account
  if 16 ≤ mask then completeEntry ⟨.payloadRange, 0, byte before.flagBits ++ byte before.flagBits⟩ s
  else
    let a := clearFlags mask before
    completeEntry ⟨.accepted, 0, byte before.flagBits ++ byte a.flagBits⟩ (setAccount a s)

end Sys2Proof.Machine
end

