-- ==== Sys2Proof/Machine/Calendar.lean ====
section
/-! DEFINITION. The tariff calendar (chapter 3): day ends, friendly state, time setting, oscillators, submission and
activation of calendars. -/

namespace Sys2Proof.Machine

/-! ## Day ends (R55, R56) -/

/-- One day end (R56): the last charged local date advances, then a day end reaches the credit engine and the code
decoder, whose bad-code count becomes 0 (R112). -/
def issueDayEnd (s : State) : State :=
  onCatchUp (fun x => { x with issued := x.issued + 1 }) (onDecoder (fun x => { x with badCount := 0 })
    (creditDayEnd (onBook (fun x => { x with lastCharged := x.lastCharged.map (· + 1) }) s)))

/-- `n` day ends, one after another. -/
def dayEnds : Nat → State → State
  | 0, s => s
  | n + 1, s => dayEnds n (issueDayEnd s)

/-- The conditions of R56 on the time and the power state: CERTAIN, and MAINS or start step 3. -/
def catchUpAllowed (s : State) : Bool :=
  s.clock.certain &&
    (s.supply.power == .mains || (s.supply.power == .start && s.supply.startStep == 2))

/-- The local dates that lie after the last charged one. -/
def daysDue (s : State) : Nat :=
  match s.book.lastCharged with
  | none => 0
  | some d => today s - d

/-- The day ends that the catch-up in progress has still to issue (R56): at most 366 in all. -/
def daysLeft (s : State) : Nat := if catchUpAllowed s then min (366 - s.catchUp.issued) (daysDue s) else 0

/-- The last charged local date set (R55, R56). -/
def chargedUpTo (date : Nat) (s : State) : State := onBook (fun x => { x with lastCharged := some date }) s

/-- At most `most` more day ends of the catch-up in progress. Where 366 have been issued and midnights are left, the last
charged local date is set to the current one (R56). -/
def issueDays (most : Nat) (s : State) : State :=
  let t := dayEnds (min most (daysLeft s)) s
  if daysLeft t = 0 && catchUpAllowed t && 0 < daysDue t then chargedUpTo (today t) t else t

/-- The catch-up goes on up to the next arrival (R66): how far is the part's own. (Assumption 32.) -/
def catchUpGoesOn (s : State) : State :=
  issueDays (Config.dayEndsTogether s.catchUp.choices) (onCatchUp (fun x => { x with choices := x.choices + 1 }) s)

/-- A due step is that of a catch-up in progress. -/
def Due.isCatchUp : Due → Bool
  | .catchUp _ => true
  | _ => false

/-- A catch-up is in progress. -/
def catchingUp (s : State) : Bool := s.agenda.any Due.isCatchUp

/-- No day end has been issued by the catch-up that begins. -/
def newCatchUp (s : State) : State := onCatchUp (fun x => { x with issued := 0 }) s

/-- The day ends that a catch-up beginning now issues (R56). -/
def dayEndsToIssue (s : State) : Nat := daysLeft (newCatchUp s)

/-- A day-end catch-up with nothing between its day ends (R56): that of a TIME_SET's apply (R46) and of START, where nothing
else reaches the two blocks. A catch-up in progress is left with no day end by it. (Assumption 32.) -/
def catchUpWhole (s : State) : State :=
  if dayEndsToIssue s = 0 then s else issueDays 366 (newCatchUp s)

/-- The day-end catch-up begins where its conditions hold and none is in progress (R56): its first day end, and those that
follow it before another arrival is taken; all of them in START. (Assumption 32.) -/
def catchUp (s : State) : State :=
  if catchingUp s || dayEndsToIssue s = 0 then s
  else if s.supply.power = .start then catchUpWhole s
  else
    let t := issueDays 1 (newCatchUp s)
    if daysLeft t = 0 then t else catchUpGoesOn t

/-- The catch-up, and `behind` after it. Where day ends are left, `later` stands for `behind` on the agenda, after them; a
catch-up that was in progress before goes on by itself. (Assumption 32.) -/
def catchUpThen (later : List Due) (behind : State → State) (s : State) : State :=
  let t := catchUp s
  if catchingUp s || daysLeft t = 0 then behind t
  else onAgenda (fun a => .catchUp true :: (later ++ a)) t

/-- An absent last charged local date is set while the time is CERTAIN (R55); otherwise the catch-up runs, as a whole. -/
def setOrCatchUp (s : State) : State :=
  match s.book.lastCharged with
  | none => if s.clock.certain then chargedUpTo (today s) s else s
  | some _ => catchUpWhole s

/-! ## Friendly state (R50) -/

/-- The friendly state is evaluated and handed on if it differs from the last one handed (R50). -/
def evaluateFriendly (s : State) : State :=
  if handing s && friendlyState s != s.switch.friendly then handFriendly (friendlyState s) s else s

/-! ## Time (R40, R45, R46) -/

/-- TIME_SET's conditions of acceptance (R45). -/
def timeAccepted (new : Nat) (s : State) : Bool :=
  (new ≤ s.clock.time + 300 && s.clock.time ≤ new + 300) || s.window.state != .closed || !s.clock.certain

/-- Meter time replaced, and the time CERTAIN (R46). -/
def setTime (new : Nat) (s : State) : State := onClock (fun x => { x with time := new, certain := true }) s

/-- The effects of an accepted TIME_SET, in the order of R46, all within its apply: the new time, CERTAIN; an absent last
charged local date set, or the whole catch-up; the friendly evaluation. -/
def applyTime (new : Nat) (s : State) : State := evaluateFriendly (setOrCatchUp (setTime new s))

/-- The taken TIME_SET entry is applied (R45, R46). -/
def decideTimeSet (w : Work) (s : State) : State :=
  let new := w.field 4 4
  if timeAccepted new s then
    completeEntry ⟨.accepted, 0, le 4 s.clock.time ++ le 4 new ++ flagByte (!s.clock.certain) ++
      le 2 (dayEndsToIssue (setTime new s))⟩ (applyTime new s)
  else completeEntry ⟨.timeTolerance, 0, le 4 s.clock.time ++ le 4 new ++ flagByte false ++ le 2 0⟩ s

/-- One sample of the watched inputs at a second in BATTERY (R169). -/
def sampleBattery (p : SensePins) (s : State) : State :=
  onBattery (fun x => { x with
    caseIn := x.caseIn.sample s.clock.time p.caseHigh
    coverIn := x.coverIn.sample s.clock.time p.coverHigh }) s

/-- Meter time advances by one second, and stops at its end (R40). -/
def tick (s : State) : State :=
  onClock (fun x => { x with time := capped Config.meterTimeEnd (x.time + 1) }) s

/-- One second of the time base ends (R40, R50, R56, R169). A battery domain that is lost keeps no time. At a local midnight
the day ends come before the friendly evaluation. (Assumption 33.) In BATTERY the sample of a second is taken after the
second's advance of meter time. (Assumption 43.) -/
def meterSecond (p : SensePins) (s : State) : State :=
  if s.supply.power = .battery then
    if s.battery.intact then sampleBattery p (tick s) else s
  else catchUpThen [.friendly] evaluateFriendly (tick s)

/-! ## The oscillators (R42, R43) -/

/-- The tamper monitor takes reports: it is powered, and its section has been restored (R42, R171). A CLOCK report of START
before the end of step 1 reaches no record. (Assumption 34.) -/
def monitorReady (s : State) : Bool :=
  match s.supply.power with
  | .mains => true
  | .holdup => true
  | .start => 1 ≤ s.supply.startStep
  | .battery => false

/-- The time base moved to the backup oscillator: meter time becomes UNCERTAIN, and a failure in BATTERY is marked
(R42). -/
def toBackup (s : State) : State :=
  onClock (fun x => { x with
    source := .backup
    certain := false
    crystalFailed := x.crystalFailed || s.supply.power = .battery }) s

/-- The time base moved to the crystal; the certainty of meter time stays (R43). -/
def toCrystal (s : State) : State := onClock (fun x => { x with source := .crystal }) s

/-- The crystal stops (R42): source and certainty, then the CLOCK report, then the friendly evaluation of R50. That the report
comes before that evaluation is the model's. (Assumption 33.) -/
def crystalStops (s : State) : State :=
  if s.clock.source = .backup || (s.supply.power = .battery && !s.battery.intact) then s
  else
    let told := if monitorReady s then reportPresent kindClock (toBackup s) else toBackup s
    evaluateFriendly (if s.clock.certain && s.supply.power ≠ .battery then markDue attnCalendar told else told)

/-- The crystal returns (R43). -/
def crystalReturns (s : State) : State :=
  if s.clock.source = .crystal || (s.supply.power = .battery && !s.battery.intact) then s
  else
    if monitorReady s then reportGone kindClock (toCrystal s) else toCrystal s

/-! ## The calendar image (R47, R52, R189) -/

/-- A field of the calendar image. -/
def imageField (m : Memory) (offset n : Nat) : Nat := ofLe (m.readBytes (0x0800 + offset) n)

/-- The three counts of the image. -/
def imageCounts (m : Memory) : Nat × Nat × Nat := (imageField m 0x1D 1, imageField m 0x1E 1, imageField m 0x1F 1)

/-- The calendar that the image holds, its lists as long as its counts say (R189). -/
def imageTariff (m : Memory) : Tariff where
  id := imageField m 0x00 2
  offset := signedOf 16 (imageField m 0x02 2)
  prices := ⟨imageField m 0x04 4, imageField m 0x08 4, imageField m 0x0C 4, imageField m 0x10 4,
    imageField m 0x14 4, imageField m 0x18 4⟩
  defaultBand := imageField m 0x1C 1
  switchPoints := (List.range (imageCounts m).1).map fun i =>
    ⟨m.read (0x0830 + 4 * i), imageField m (0x31 + 4 * i) 2, imageField m (0x33 + 4 * i) 1⟩
  holidays := (List.range (imageCounts m).2.1).map fun j =>
    ⟨imageField m (0x90 + 4 * j) 2, imageField m (0x92 + 4 * j) 1, imageField m (0x93 + 4 * j) 1⟩
  windows := (List.range (imageCounts m).2.2).map fun k =>
    ⟨m.read (0x08D0 + 5 * k), imageField m (0xD1 + 5 * k) 2, imageField m (0xD3 + 5 * k) 2⟩
  standing := imageField m 0x20 4
  activation := imageField m 0x24 4

/-- The item of the first check that fails, if one does. -/
def firstFailing (checks : List (Nat × Bool)) : Option Nat := (checks.find? fun c => !c.2).map Prod.fst

/-- Numbers an entry's checks from a first item on. -/
def itemsFrom {α : Type} (first : Nat) (ok : α → Bool) (xs : List α) : List (Nat × Bool) :=
  xs.mapIdx fun i x => (first + i, ok x)

/-- Step 2 of R52: the counts. -/
def countChecks (c : Nat × Nat × Nat) : List (Nat × Bool) :=
  [(0x10, decide (c.1 ≤ 24)), (0x40, decide (c.2.1 ≤ 16)), (0x60, decide (c.2.2 ≤ 8))]

/-- Step 3 of R52: the ranges of R47. -/
def fieldChecks (t : Tariff) : List (Nat × Bool) :=
  [(0xF0, decide (-720 ≤ t.offset) && decide (t.offset ≤ 840))] ++
  itemsFrom 0xF1 (fun p : Nat => decide (p ≤ 999999)) t.prices.toList ++
  [(0xF7, decide (t.defaultBand ≤ 5)), (0xF8, decide (t.standing ≤ 10000000))] ++
  itemsFrom 0x10 (fun p : SwitchPoint => p.minute ≤ 1439 && p.band ≤ 5) t.switchPoints ++
  itemsFrom 0x40 (fun h : Holiday => h.year == 0 || (2000 ≤ h.year && h.year ≤ 2135)) t.holidays ++
  itemsFrom 0x60 (fun w : FriendlyWindow => w.start ≤ 1439 && w.start + 1 ≤ w.stop && w.stop ≤ 1440) t.windows

/-- Step 4 of R52: the holidays' dates. -/
def dateChecks (t : Tariff) : List (Nat × Bool) :=
  itemsFrom 0x40 (fun h : Holiday =>
    1 ≤ h.month && h.month ≤ 12 && 1 ≤ h.day && h.day ≤ monthLength h.year h.month) t.holidays

/-- Two switch points share a minute and a day type. -/
def pointsClash (p q : SwitchPoint) : Bool := p.minute == q.minute && (p.mask &&& q.mask) != 0

/-- Step 5 of R52: no point clashes with an earlier one. -/
def duplicateChecks (t : Tariff) : List (Nat × Bool) :=
  t.switchPoints.mapIdx fun i p => (0x10 + i, !(t.switchPoints.take i).any fun q => pointsClash q p)

/-- The first check of R52 that the image fails, in the window's state: its code and item. -/
def submitRefusal (w : Window) (m : Memory) : Option (ResultCode × Nat) :=
  if w.state = .closed || w.rank < 3 then some (.calRank, 0)
  else match firstFailing (countChecks (imageCounts m)) with
  | some i => some (.calCount, i)
  | none =>
    let t := imageTariff m
    match firstFailing (fieldChecks t), firstFailing (dateChecks t), firstFailing (duplicateChecks t) with
    | some i, _, _ => some (.calField, i)
    | none, some i, _ => some (.calDate, i)
    | none, none, some i => some (.calDuplicate, i)
    | none, none, none => none

/-- The apply of the CALENDAR_SUBMIT entry in work (R51, R52, R53). -/
def applySubmit (s : State) : State :=
  match submitRefusal s.window s.mem with
  | some (code, item) => completeEntry ⟨code, item, []⟩ s
  | none =>
    let t := imageTariff s.mem
    requestWrite (setStage (.waiting .next ⟨.accepted, 0, le 2 t.id ++ le 4 t.activation⟩)
      (onBook (fun x => { x with passive := some t }) s))

/-! ## Activation (R54) -/

/-- At an interval close a passive calendar whose activation time has been reached becomes active; a retention write is
requested, the catch-up runs, the friendly state is evaluated and CALENDAR attention is due. That all of this comes
before the close registers and charges its energy is the model's. (Assumption 31.) -/
def activateDue (s : State) : State :=
  match s.book.passive with
  | none => s
  | some t =>
    if t.activation ≤ s.clock.time then
      markDue attnCalendar (catchUpThen [.friendly] evaluateFriendly (requestWrite
        (onBook (fun x => { x with active := { t with activation := 0 }, passive := none }) s)))
    else s

end Sys2Proof.Machine
end

