-- ==== Sys2Proof/Machine/Window.lean ====
section
/-! DEFINITION. The service window (chapter 7): opening, expiry, discard, commit and their WINDOW_CLOSE entries. -/

namespace Sys2Proof.Machine

/-- The window ended with a cause: staged record absent, rank and remaining seconds 0 (R118). -/
def endedWindow (c : EndCause) : Window := ⟨.closed, 0, 0, none, c⟩

/-- A window ends (R118): its hold contribution falls to 0 in the same event (R122). -/
def endWindow (c : EndCause) (s : State) : State := handWindowHold 0 (onWindow (fun _ => endedWindow c) s)

/-- A window opens (R119), with the hold contribution 2. The end cause keeps its value (R118). -/
def openWindow (rank seconds : Nat) (s : State) : State :=
  handWindowHold 2 (onWindow (fun x => ⟨.opened, rank, seconds, some s.settings, x.cause⟩) s)

/-- The expiry arrives (R121): an OPEN window is dropped, and in COMMITTING nothing happens. -/
def windowExpires (s : State) : State := if s.window.state = .opened then endWindow .expired s else s

/-- HOLDUP entry reaches the window (R129): an OPEN window is discarded. -/
def holdupWindow (s : State) : State := if s.window.state = .opened then endWindow .holdup s else s

/-- The result of a WINDOW_CLOSE entry (R124). -/
def windowResult (code : ResultCode) (w : Work) (s : State) (changed : Nat) (cause : EndCause) : Result :=
  ⟨code, 0, [w.byteAt 4] ++ byte s.window.state.code ++ byte s.window.rank ++ le 2 s.window.remaining ++
    le 3 changed ++ byte cause.code⟩

/-- The changed mask of a WINDOW_CLOSE that passes its checks (R124). -/
def stagedChanges (s : State) : Nat :=
  match s.window.staged with
  | none => 0
  | some p => changedMask p s.settings

/-- The taken WINDOW_CLOSE entry has an unknown action (R124, step 1). -/
def refuseAction (w : Work) (s : State) : State :=
  completeEntry (windowResult .payloadRange w s 0 s.window.cause) s

/-- The taken WINDOW_CLOSE entry discards the window (R124, R125). -/
def decideDiscard (w : Work) (s : State) : State :=
  if s.window.state = .closed then completeEntry (windowResult .windowNotOpen w s 0 s.window.cause) s
  else completeEntry (windowResult .accepted w s (stagedChanges s) .discarded) (endWindow .discarded s)

/-- The new active record reaches the blocks that act on a commit (R127): the credit engine derives (R84), the tamper
monitor takes its settings (R164 to R166), the switch controller evaluates. The metering engine and the load
limiter read the record later by themselves. -/
def handSettings (old : Settings) (s : State) : State :=
  evaluate (commitToTamper old (deriveCredit s))

/-- Step 1 of a commit (R126). -/
def beginCommit (p : Settings) (s : State) : State :=
  handSettings s.settings (onSettings (fun _ => p) (onWindow (fun x => { x with state := .committing }) s))

/-- The taken WINDOW_CLOSE entry commits the window (R124, R126): the entry then waits for its retention write. -/
def decideCommit (w : Work) (s : State) : State :=
  if s.window.state = .closed then completeEntry (windowResult .windowNotOpen w s 0 s.window.cause) s
  else
    requestWrite (setStage (.waiting .next (windowResult .accepted w s (stagedChanges s) .committed))
      (beginCommit (s.window.staged.getD s.settings) s))

/-- Step 3 of a commit, when its write has completed (R126). -/
def finishCommit (s : State) : State := endWindow .committed s

end Sys2Proof.Machine
end

