-- ==== Sys2Proof/Machine/Decoder.lean ====
section
/-! DEFINITION. The code decoder (chapter 6): key table, serial windows, plaintext and check field, the check order, the
bad-code count and the keypad lockout. -/

namespace Sys2Proof.Machine

/-! ## The key table (R93) -/

/-- A key slot by its number, 0 to 3. -/
def Decoder.key (d : Decoder) : Nat → KeySlot
  | 0 => d.key0
  | 1 => d.key1
  | 2 => d.key2
  | _ => d.key3

/-- A key slot replaced. -/
def Decoder.setKey (d : Decoder) (n : Nat) (k : KeySlot) : Decoder :=
  match n with
  | 0 => { d with key0 := k }
  | 1 => { d with key1 := k }
  | 2 => { d with key2 := k }
  | _ => { d with key3 := k }

/-- A key slot is expired on a local date (R94). -/
def KeySlot.expired (k : KeySlot) (date : Nat) : Bool := k.expiry != 0 && k.expiry < date

/-! ## Serial windows (R95, R96) -/

/-- A serial put into a rising list, once. -/
def insertSerial (n : Nat) : List Nat → List Nat
  | [] => [n]
  | m :: ms => if n < m then n :: m :: ms else if n = m then m :: ms else m :: insertSerial n ms

/-- Compaction (R96, step 2), on a rising spent set: the floor and what is left. -/
def compact (floor : Nat) : List Nat → Nat × List Nat
  | [] => (floor, [])
  | m :: ms => if m = floor + 1 then compact m ms else (floor, m :: ms)

/-- Step 3 of R96: at 33 members the smallest becomes the floor, and compaction runs again. -/
def shedSmallest : Nat × List Nat → Nat × List Nat
  | (floor, m :: ms) => if 33 ≤ (m :: ms).length then compact m ms else (floor, m :: ms)
  | (floor, []) => (floor, [])

/-- A serial enters a slot's window and becomes its last accepted serial (R96). -/
def KeySlot.spend (k : KeySlot) (serial : Nat) : KeySlot :=
  let w := shedSmallest (compact k.floor (insertSerial serial k.spent))
  { k with floor := w.1, spent := w.2, lastSerial := serial }

/-! ## The plaintext (R97, R98) -/

/-- One step of the check field's CRC-16 (R98). -/
def crcStep (c : BitVec 16) (b : Bool) : BitVec 16 :=
  if c.msb != b then (c <<< 1) ^^^ 0x1021 else c <<< 1

/-- The CRC-16 of a message's bits, first bit first (R98). -/
def crc16 (bits : List Bool) : BitVec 16 := bits.foldl crcStep 0xFFFF

/-- The bits 71 to 16 of a plaintext, bit 71 first: class, serial and payload. -/
def messageBits (p : Block) : List Bool := (List.range 56).map fun i => p.getLsbD (71 - i)

/-- The fields of a plaintext (R98). -/
structure Plain where
  cls : Nat
  serial : Nat
  payload : Nat
  check : BitVec 16
  /-- The block itself, from which a KEY_CHANGE derives its new key (R111). -/
  block : Block
deriving DecidableEq, Repr

/-- A plaintext taken apart (R98). -/
def plainOf (p : Block) : Plain :=
  ⟨p.toNat / 2 ^ 68, p.toNat / 2 ^ 48 % 2 ^ 20, p.toNat / 2 ^ 16 % 2 ^ 32, p.setWidth 16, p⟩

/-- The check field is the expected one (R98). -/
def Plain.genuine (p : Plain) : Bool := p.check == crc16 (messageBits p.block)

/-- The decode (R97): the inverse of T_K on the body block. -/
def decodeBody (key : KeyValue) (body : Nat) : Block := (Config.transform key).symm (BitVec.ofNat 72 body)

/-- The new key value of a KEY_CHANGE (R111): the low 64 bits of T_K on the plaintext with its check field 0. -/
def derivedKey (key : KeyValue) (p : Block) : KeyValue :=
  (Config.transform key ((p >>> 16) <<< 16)).setWidth 64

/-! ## The decode that ends -/

/-- What stands at the end of a decode: the entry, its key slot as it stands, and the plaintext. -/
structure Decoded where
  work : Work
  slot : Nat
  key : KeySlot
  plain : Plain
deriving DecidableEq, Repr

/-- The decode in progress brought to its end, if a TOKEN entry is in its decode (R92). -/
def decoded (s : State) : Option Decoded :=
  match s.intake.work with
  | some w =>
    if w.stage = .decoding then
      some ⟨w, w.selector, s.decoder.key w.selector,
        plainOf (decodeBody (s.decoder.key w.selector).key w.bodyValue)⟩
    else none
  | none => none

/-- The common fields of a TOKEN result (R103). -/
def tokenBody (w : Work) (slot revision cls serial : Nat) : List Byte :=
  byte w.source ++ byte slot ++ byte revision ++ byte cls ++ le 3 serial

/-- The result body of a token refused before its plaintext is known to be genuine (R103). -/
def bodyBeforeCheck (w : Work) (s : State) : List Byte :=
  tokenBody w w.selector (s.decoder.key w.selector).revision 0xFF 0

/-- The result body of a token whose plaintext is genuine, before its class-specific fields (R103). -/
def Decoded.body (d : Decoded) : List Byte :=
  tokenBody d.work d.slot d.key.revision d.plain.cls d.plain.serial

/-! ## Bad codes (R112, R113) -/

/-- A refusal that counts as a bad code: the count rises and the entry completes; the increase to 5 starts the lockout
instead, and the entry completes after that start (R112, R113). -/
def refuseBadCode (r : Result) (s : State) : State :=
  if 4 ≤ s.decoder.badCount then dueFirst .keypadLockoutStart (dueFirst (.complete r) s)
  else completeEntry r (onDecoder (fun x => { x with badCount := x.badCount + 1 }) s)

/-- The lockout starts (R113): 1800 seconds, the count 0, and KEYPAD is reported present. -/
def startLockout (s : State) : State :=
  reportPresent kindKeypad (onDecoder (fun x => { x with lockout := 1800, badCount := 0 }) s)

/-- The lockout stops (R113): KEYPAD is reported gone. -/
def endLockout (s : State) : State :=
  reportGone kindKeypad (onDecoder (fun x => { x with lockout := 0 }) s)

/-! ## Pre-checks (R99) -/

/-- The position, from 1, of the first digit nibble above 9. -/
def firstBadDigit (w : Work) : Option Nat := (w.digits.findIdx? (fun d => 9 < d)).map (· + 1)

/-- The taken TOKEN entry is given pre-checks 1 to 6; one that passes begins its decode (R92, R99). -/
def decideToken (w : Work) (s : State) : State :=
  let unnamed := tokenBody w 0xFF 0 0xFF 0
  if 0 < s.decoder.lockout then completeEntry ⟨.lockedOut, 0, unnamed ++ le 2 s.decoder.lockout⟩ s
  else match firstBadDigit w with
  | some i => completeEntry ⟨.digitInvalid, i, unnamed⟩ s
  | none =>
    if 3 < w.selector then completeEntry ⟨.selectorRange, 0, unnamed⟩ s
    else
      let k := s.decoder.key w.selector
      let body := bodyBeforeCheck w s
      if !k.present then completeEntry ⟨.keyAbsent, w.selector, body⟩ s
      else if 2 ^ 72 ≤ w.bodyValue then refuseBadCode ⟨.bodyRange, 0, body⟩ s
      else if s.clock.certain && k.expired (today s) then completeEntry ⟨.keyExpired, 0, body⟩ s
      else setStage .decoding s

/-! ## Checks 7 to 10 (R100) -/

/-- Checks 9 and 10 of a token of a known class (R100): its refusal, if one fails. -/
def tokenRefusal (minAuthority : Nat) (d : Decoded) : Option ResultCode :=
  let n := d.plain.serial
  if d.key.authority < minAuthority then some .authority
  else if (d.plain.cls == 0) != (n == 0) then some .serialForm
  else if d.plain.cls == 0 then none
  else if n ≤ d.key.floor && n != d.key.lastSerial then some .serialOld
  else if n == d.key.lastSerial || d.key.spent.contains n then some .serialUsed
  else if d.key.floor + 1024 < n then some .serialAhead
  else none

/-- The entry is refused at the apply (R100, R101). -/
def refuseToken (code : ResultCode) (item : Nat) (d : Decoded) (s : State) : State :=
  completeEntry ⟨code, item, d.body⟩ s

/-- The end of a decode for the row of one class (R100, R101): checks 7 and 8 name the row, 9 and 10 are made here, and
the checks and the effect of the class follow. Where no decode ends, or its plaintext is another row's, this
row's event does not come about and nothing changes. -/
def tokenApply (cls minAuthority : Nat) (act : Decoded → State → State) (s : State) : State :=
  match decoded s with
  | none => s
  | some d =>
    if d.plain.genuine && d.plain.cls = cls then
      match tokenRefusal minAuthority d with
      | some code => refuseToken code 0 d s
      | none => act d s
    else s

/-- The end of a decode whose plaintext fails check 7 or 8 (R100). -/
def tokenFails (s : State) : State :=
  match decoded s with
  | none => s
  | some d =>
    if !d.plain.genuine then refuseBadCode ⟨.checkFail, 0, bodyBeforeCheck d.work s⟩ s
    else if 10 ≤ d.plain.cls then refuseToken .classUnknown 0 d s
    else s

/-! ## Acceptance (R102) -/

/-- The bad-code count becomes 0 and the last accepted token is recorded (R102, steps 3 and 4). -/
def recordToken (d : Decoded) (s : State) : State :=
  onDecoder (fun x => { x with
    badCount := 0
    lastToken := ⟨d.work.source, d.slot, d.plain.cls, d.plain.serial⟩ }) s

/-- The serial enters the window of the decoding slot (R102, step 2). -/
def spendSerial (d : Decoded) (s : State) : State :=
  onDecoder (fun x => x.setKey d.slot ((x.key d.slot).spend d.plain.serial)) s

/-- The entry waits for the retention write that its acceptance requests (R102, step 5, and R92). -/
def awaitWrite (r : Result) (s : State) : State := requestWrite (setStage (.waiting .next r) s)

/-- A non-TEST token other than KEY_CHANGE is accepted, its effect made already (R102, steps 2 to 5). -/
def acceptToken (d : Decoded) (fields : List Byte) (s : State) : State :=
  awaitWrite ⟨.accepted, 0, d.body ++ fields⟩ (recordToken d (spendSerial d s))

/-! ## The classes (section 6.6) -/

/-- TEST (R104): accepted with no effect, no serial and no write. -/
def applyTest (d : Decoded) (s : State) : State :=
  if d.plain.payload ≠ 0 then refuseToken .payloadRange 0 d s
  else completeEntry ⟨.accepted, 0, d.body ++ byte d.key.authority ++ le 3 d.key.expiry⟩ (recordToken d s)

/-- An amount in hundredths of the currency unit (R101). -/
def amountInRange (n : Nat) : Bool := 1 ≤ n && n ≤ 99999999

/-- CREDIT (R105, R67). -/
def applyCredit (d : Decoded) (s : State) : State :=
  if !amountInRange d.plain.payload then refuseToken .payloadRange 0 d s
  else
    let A := d.plain.payload * 100
    match topup A s with
    | none => refuseToken .creditLimit 0 d s
    | some t =>
      acceptToken d (le 8 A ++ le 8 (topupRecovery s.settings.debtRate A s.credit.account.debt) ++
        leSigned 8 t.credit.account.balance ++ le 8 t.credit.account.debt) t

/-- DEBT_ADD (R105, R69). -/
def applyDebtAdd (d : Decoded) (s : State) : State :=
  if !amountInRange d.plain.payload then refuseToken .payloadRange 0 d s
  else
    let A := d.plain.payload * 100
    let a := s.credit.account
    let t := deriveCredit (setAccount (debtAccount A a) s)
    acceptToken d (le 8 (debtAdded A a) ++ le 8 t.credit.account.debt ++
      flagByte (Config.debtLimit < a.debt + A)) t

/-- CLEAR (R105, R70). -/
def applyClear (d : Decoded) (s : State) : State :=
  if !(1 ≤ d.plain.payload && d.plain.payload ≤ 3) then refuseToken .payloadRange 0 d s
  else
    acceptToken d (byte d.plain.payload)
      (deriveCredit (setAccount (clearAccount d.plain.payload s.credit.account) s))

/-- The staged record replaced (R123). -/
def stageSetting (p : Settings) (s : State) : State := onWindow (fun x => { x with staged := some p }) s

/-- SETTING (R106, R123). -/
def applySetting (d : Decoded) (s : State) : State :=
  let id := d.plain.payload / 2 ^ 24
  let v := d.plain.payload % 2 ^ 24
  match s.window.staged with
  | none => refuseToken .windowRequired 0 d s
  | some p =>
    if s.window.state = .closed then refuseToken .windowRequired 0 d s
    else if settingKnown id && (s.window.rank < settingAuthority id || d.key.authority < settingAuthority id) then
      refuseToken .windowRank id d s
    else if !settingKnown id then refuseToken .settingId id d s
    else if !settingInRange id v then refuseToken .payloadRange id d s
    else
      acceptToken d (byte id ++ le 3 (p.get id) ++ le 3 v)
        (stageSetting (p.set id v) s)

/-- WINDOW_OPEN (R107, R119). -/
def applyWindowOpen (d : Decoded) (s : State) : State :=
  if !(1 ≤ d.plain.payload && d.plain.payload ≤ 240) then refuseToken .payloadRange 0 d s
  else if s.window.state ≠ .closed then refuseToken .windowBusy 0 d s
  else
    acceptToken d (byte d.key.authority ++ le 2 (d.plain.payload * 60))
      (openWindow d.key.authority (d.plain.payload * 60) s)

/-- TAMPER_CLEAR (R108, R168). -/
def applyTamperClear (d : Decoded) (s : State) : State :=
  if 1024 ≤ d.plain.payload then refuseToken .payloadRange 0 d s
  else
    acceptToken d (le 2 (clearedMask d.plain.payload s.tamper.records) ++
        le 2 (refusedMask d.plain.payload s.tamper.records))
      (tamperClearArrives d.plain.payload s)

/-- The fields of a KEY_CHANGE payload (R110). -/
structure KeyChange where
  target : Nat
  authority : Nat
  revision : Nat
  expiry : Nat
deriving DecidableEq, Repr

/-- A KEY_CHANGE payload taken apart (R110). -/
def keyChangeOf (payload : Nat) : KeyChange :=
  ⟨payload / 2 ^ 30 % 4, payload / 2 ^ 28 % 4 + 1, payload / 2 ^ 20 % 256, payload % 2 ^ 20⟩

/-- The change is permitted (R110). -/
def keyChangePermitted (c : KeyChange) (authority : Nat) (target : KeySlot) : Bool :=
  c.authority ≤ authority && (!target.present || target.authority ≤ authority)

/-- The key slot that a KEY_CHANGE installs (R111, step 3). -/
def installedKey (c : KeyChange) (key : KeyValue) : KeySlot :=
  ⟨true, c.authority, c.revision, key, c.expiry, 0, [], 0⟩

/-- The key installed in its target slot (R111, step 3). -/
def installKey (c : KeyChange) (key : KeyValue) (s : State) : State :=
  onDecoder (fun x => x.setKey c.target (installedKey c key)) s

/-- KEY_CHANGE (R110, R111): the serial is spent in the decoding slot first, then the target is installed. -/
def applyKeyChange (d : Decoded) (s : State) : State :=
  let c := keyChangeOf d.plain.payload
  let target := s.decoder.key c.target
  if !keyChangePermitted c d.key.authority target then refuseToken .keyTarget c.target d s
  else if c.revision ≤ target.revision then refuseToken .keyRevision c.target d s
  else
    awaitWrite ⟨.accepted, 0, d.body ++ byte c.target ++ byte c.authority ++ byte c.revision ++ le 3 c.expiry⟩
      (recordToken d (installKey c (derivedKey d.key.key d.plain.block) (spendSerial d s)))

/-- The remote order set or cleared (R109). -/
def setOrder (on : Bool) (s : State) : State := onDecoder (fun x => { x with remoteOrder := on }) s

/-- REMOTE_OPEN and REMOTE_CLOSE (R109): a change of the order is handed to the switch controller. -/
def applyRemote (on : Bool) (d : Decoded) (s : State) : State :=
  if d.plain.payload ≠ 0 then refuseToken .payloadRange 0 d s
  else
    acceptToken d (flagByte s.decoder.remoteOrder ++ flagByte on)
      (if s.decoder.remoteOrder = on then s else handReason .remote on (setOrder on s))

end Sys2Proof.Machine
end

