-- ==== Sys2Proof/Machine/Metering.lean ====
section
/-! DEFINITION. The metering engine (chapter 2): what an interval delivers, import and export, the energy registers, and
the qualification counters. -/

namespace Sys2Proof.Machine

/-! ## Front-end results (R22 to R24) -/

/-- A phase energy delivered within ±16,777,215 µWh (R22, R23). -/
def deliverEnergy (e : Int) : Int := max (-Config.energyEnd) (min Config.energyEnd e)

/-- A phase is marked saturated: what was measured lies beyond the range (R23). -/
def saturated (e : Int) : Bool := e < -Config.energyEnd || Config.energyEnd < e

/-- The energy after anti-creep: 0 for a phase below 20 mA (R24). -/
def creepEnergy (e : Int) (i : Nat) : Int := if i < 20 then 0 else deliverEnergy e

/-- Phase current as delivered (R22). -/
def deliverCurrent (i : Nat) : Nat := capped 200000 i

/-- Phase voltage as delivered (R22). -/
def deliverVoltage (v : Nat) : Nat := capped 5000 v

/-- Supply-side presence: V_p above 80.0 V (R22). -/
def supplyPresent (v : Nat) : Bool := 800 < v

/-- The frequency as delivered (R22): 0 when no phase has V_p above 800, else 40,000 to 70,000 mHz. -/
def deliverFrequency (v : Phases Nat) (f : Nat) : Nat :=
  if (v.map supplyPresent).any then max 40000 (capped 70000 f) else 0

/-! ## Import and export (R25 to R28) -/

/-- The sum over the phases. -/
def phaseSum (p : Phases Int) : Int := p.l1 + p.l2 + p.l3

/-- ΔI under a summation law (R26). -/
def importOf (law : Nat) (e : Phases Int) : Nat :=
  match law with
  | 0 => e.l1.natAbs + e.l2.natAbs + e.l3.natAbs
  | 1 => e.l1.toNat + e.l2.toNat + e.l3.toNat
  | _ => (phaseSum e).toNat

/-- ΔX under a summation law (R26). -/
def exportOf (law : Nat) (e : Phases Int) : Nat :=
  match law with
  | 0 => 0
  | 1 => (-e.l1).toNat + (-e.l2).toNat + (-e.l3).toNat
  | _ => (-(phaseSum e)).toNat

/-- Per-phase power in W, truncated toward zero (R25). -/
def phasePower (e : Int) : Int := (e * 3600).tdiv 1000000

/-- Measured import power in W (R27). -/
def measuredPower (imported : Nat) : Nat := imported * 3600 / 1000000

/-- The magnet floor of `t` milliseconds (R28); a full interval has 1000. -/
def magnetFloor (power t : Nat) : Nat := power * t * 1000 / 3600

/-- Magnet substitution applies: the MAGNET record is ACTIVE and the latched MAGNET_POWER_W is above 0 (R28). -/
def substitutes (s : State) : Bool := s.tamper.records[kindMagnet].state == .active && 0 < s.meter.magnetPower

/-- The billed import of an interval of `t` milliseconds (R28). -/
def billedImport (s : State) (imported t : Nat) : Nat :=
  if substitutes s then max imported (magnetFloor s.meter.magnetPower t) else imported

/-! ## The energy registers (R29) -/

/-- An amount added to the register of one band. -/
def Bands.add (b : Bands) (band x : Nat) : Bands :=
  match band with
  | 0 => { b with b0 := b.b0 + x }
  | 1 => { b with b1 := b.b1 + x }
  | 2 => { b with b2 := b.b2 + x }
  | 3 => { b with b3 := b.b3 + x }
  | 4 => { b with b4 := b.b4 + x }
  | _ => { b with b5 := b.b5 + x }

/-- Billed import and export added to the registers (R29). -/
def Energy.add (e : Energy) (band billed exported : Nat) : Energy :=
  ⟨e.total + billed, e.bands.add band billed, e.exported + exported⟩

/-! ## The close of an interval (R31, R32) -/

/-- The account with ENERGY_SAT set (R23, R71). -/
def Account.saturate (a : Account) : Account := { a with energySat := true }

/-- ENERGY_SAT is set when some phase is marked saturated (R23, R71). -/
def markSaturation (e : Phases Int) (s : State) : State :=
  if (e.map saturated).any then setAccount s.credit.account.saturate s else s

/-- The figures of the interval that closes, as the status page shows them (R28); those of a partial interval also before the
first full one after a start. (Assumption 47.) -/
def Meter.bill (billed band : Nat) (sub : Bool) (m : Meter) : Meter :=
  { m with billed := billed, band := band, substituted := sub }

/-- Billed import and export registered (R29). -/
def registerEnergy (band billed exported : Nat) (s : State) : State := onEnergy (fun e => e.add band billed exported) s

/-- Steps 2 to 4 of R31, and 3 to 5 of R32: a due calendar is activated, band and price are read, the energy is
registered and the charge handed to the credit engine. All that an activation brings with it, its write request, its
catch-up and its friendly evaluation, comes before the energy and the charge: the reference leaves that open.
(Assumption 31.) -/
def billInterval (imported exported t : Nat) (s : State) : State :=
  let billed := billedImport s imported t
  let sub := substitutes s
  let a := activateDue s
  let band := bandAt a.book.active a.clock.time
  intervalCharge billed (a.book.active.prices.get band) band
    (registerEnergy band billed exported (onMeter (Meter.bill billed band sub) a))

/-- The engine with the results of a full interval in place of those of the last one (step 1 of R31). -/
def Meter.take (m : Measurement) (x : Meter) : Meter :=
  let v := m.voltage.map deliverVoltage
  let e := m.energy.zipWith creepEnergy m.current
  { x with
    energies := e
    voltage := v
    current := m.current.map deliverCurrent
    neutral := deliverCurrent m.neutral
    residual := capped 600000 m.residual
    frequency := deliverFrequency v m.frequency
    power := e.map phasePower
    measured := measuredPower (importOf x.law e)
    supplySide := v.map supplyPresent
    loadSide := m.loadSide }

/-- The results of a full interval taken into the engine (step 1 of R31). -/
def takeResults (m : Measurement) (s : State) : State := onMeter (Meter.take m) s

/-- The supply monitor samples VBAT: BATTERY_LOW below 2.60 V (R187). -/
def sampleVbat (mv : Nat) (s : State) : State := onSupply (fun x => { x with batteryLow := mv < 2600 }) s

/-- SUMMATION_LAW and MAGNET_POWER_W are latched as an interval begins (R21). -/
def beginInterval (s : State) : State :=
  onMeter (fun x => { x with law := s.settings.summationLaw, magnetPower := s.settings.magnetPower }) s

/-- What is left of a full interval's close after its charge: steps 5 to 7 of R31, with the countdowns that interval
closes drive. Within step 6 the three conditions come first, each with its report to the tamper monitor where it
qualifies, and the weld counter looks at the contactor after them; the countdowns come behind step 6. Both orders are
the model's. (Assumption 5.) -/
def intervalSteps : List Due :=
  [.judge, .stuckTimer, .stuckTest, .retryTimer, .overCount, .cleanRun, .condition .reverse, .condition .voltage,
    .condition .bypass, .weld, .lockoutCount, .windowCount, .periodicCount, .publish]

/-- A full metering interval ends (R31): steps 1 to 4, and the rest due. The next interval begins with its settings
latched when the close is done (R21). VBAT is sampled first (R187), so the pages of this close show the new sample.
(Assumption 44.) -/
def closeInterval (m : Measurement) (s : State) : State :=
  if s.supply.power = .mains then
    let r := sampleVbat m.vbat (takeResults m (markSaturation m.energy s))
    let e := r.meter.energies
    onAgenda (fun a => intervalSteps ++ a) (billInterval (importOf r.meter.law e) (exportOf r.meter.law e) 1000 r)
  else s

/-- The phase energies of a partial interval (R32); with no elapsed time each is taken as 0. -/
def partEnergies (p : PartMeasurement) : Phases Int :=
  if p.elapsed = 0 then ⟨0, 0, 0⟩ else p.energy.zipWith creepEnergy p.current

/-- The run counters and the weld counter become 0, and the reported states keep their values (R32). -/
def restartRuns (m : Meter) : Meter :=
  { m with
    reverse := { m.reverse with run := 0 }
    voltageTap := { m.voltageTap with run := 0 }
    bypass := { m.bypass with run := 0 }
    weld := 0 }

/-- The interval in progress is closed as a partial interval and charged (R32). -/
def closePartial (p : PartMeasurement) (s : State) : State :=
  let e := partEnergies p
  let marked := if p.elapsed = 0 then s else markSaturation p.energy s
  onMeter restartRuns (billInterval (importOf s.meter.law e) (exportOf s.meter.law e) (capped 1000 p.elapsed) marked)

/-! ## Qualification (R34 to R38) -/

/-- REVERSE holds for the last interval (R35). -/
def reverseHolds (m : Meter) : Bool :=
  let low (e : Int) : Bool := e ≤ -13889
  let high (e : Int) : Bool := 13889 ≤ e
  (m.law == 0 || m.law == 1) && (m.energies.map low).any && (m.energies.map high).any

/-- VOLTAGE holds for the last interval (R36). -/
def voltageHolds (m : Meter) : Bool := (m.voltage.zipWith (fun v i => v < 400 && 500 < i) m.current).any

/-- BYPASS holds for the last interval (R37): 8 × |In − Ir| is greater than the larger of 4,000 and In. -/
def bypassHolds (m : Meter) : Bool :=
  max 4000 m.neutral < 8 * ((m.neutral : Int) - m.residual).natAbs

/-- A condition holds for the last interval. -/
def conditionHolds (c : Condition) (m : Meter) : Bool :=
  match c with
  | .reverse => reverseHolds m
  | .voltage => voltageHolds m
  | .bypass => bypassHolds m

/-- The qualification of a condition. -/
def qualification (c : Condition) (m : Meter) : Qualification :=
  match c with
  | .reverse => m.reverse
  | .voltage => m.voltageTap
  | .bypass => m.bypass

/-- The qualification of a condition replaced. -/
def setQualification (c : Condition) (q : Qualification) (m : Meter) : Meter :=
  match c with
  | .reverse => { m with reverse := q }
  | .voltage => { m with voltageTap := q }
  | .bypass => { m with bypass := q }

/-- The tamper kind of a condition (R158). -/
def conditionKind : Condition → Fin 10
  | .reverse => kindReverse
  | .voltage => kindVoltage
  | .bypass => kindBypass

/-- One condition's run counter advances (R34); at 10 the step CONDITION_QUALIFIED is due. -/
def countCondition (c : Condition) (s : State) : State :=
  let q := qualification c s.meter
  let n := if conditionHolds c s.meter = q.reported then 0 else q.run + 1
  let t := onMeter (setQualification c ⟨q.reported, n⟩) s
  if 10 ≤ n then dueFirst (.conditionQualified c) t else t

/-- A run counter has reached 10 (R34): the reported state changes, the counter returns to 0, and the tamper monitor
receives the report. -/
def qualifyCondition (c : Condition) (s : State) : State :=
  let q := qualification c s.meter
  report (conditionKind c) (!q.reported) (onMeter (setQualification c ⟨!q.reported, 0⟩) s)

/-- There is evidence of current or voltage beyond the contactor (R38). -/
def weldEvidence (m : Meter) : Bool := m.loadSide.any || (m.current.map fun i => decide (100 < i)).any

/-- The weld counter advances (R38); at 3 the step WELD_OBSERVATION is due. -/
def countWeld (s : State) : State :=
  let n := if s.switch.contactor = .opened && weldEvidence s.meter then s.meter.weld + 1 else 0
  let t : State := onMeter (fun x => { x with weld := n }) s
  if 3 ≤ n then dueFirst .weldObservation t else t

/-! ## Countdowns at an interval close -/

/-- The lockout's remaining seconds decrease at a full interval close (R113); at 0 the step KEYPAD_LOCKOUT_END is due. -/
def countLockout (s : State) : State :=
  if s.decoder.lockout = 0 then s
  else
    let t : State := onDecoder (fun x => { x with lockout := x.lockout - 1 }) s
    if s.decoder.lockout = 1 then dueFirst .keypadLockoutEnd t else t

/-- The window's remaining seconds decrease while it is OPEN or COMMITTING (R120); at 0 the step WINDOW_EXPIRY is due. -/
def countWindow (s : State) : State :=
  if s.window.state = .closed || s.window.remaining = 0 then s
  else
    let t : State := onWindow (fun x => { x with remaining := x.remaining - 1 }) s
    if s.window.remaining = 1 then dueFirst .windowExpiry t else t

/-- The periodic count increases (R181); at 3600 the step PERIODIC_WRITE_DUE is due. -/
def countPeriodic (s : State) : State :=
  let t : State := onStore (fun x => { x with periodic := x.periodic + 1 }) s
  if s.store.periodic + 1 = 3600 then dueFirst .periodicWriteDue t else t

end Sys2Proof.Machine
end

