-- ==== Sys2Proof/Machine/Supply.lean ====
section
/-! DEFINITION. The supply monitor (chapter 10): the end of a retention write, hold-up, BATTERY, external reset, and the
start sequence step by step. -/

namespace Sys2Proof.Machine

/-! ## The end of a retention write (R180) -/

/-- The reset write has completed if the write that ends is the one it waited on (R182). -/
def ResetWrite.ended : ResetWrite → ResetWrite
  | .waiting .current => .done
  | x => x

/-- The entry that waited on the write that ends completes (R92, R51); a window commit ends first (R126). -/
def tellWork (s : State) : State :=
  match s.intake.work with
  | none => s
  | some w =>
    match w.stage with
    | .waiting .current r => completeEntry r (if w.kind = 6 then finishCommit s else s)
    | _ => s

/-- Requests made during the write that ended are served by one further write (R180). -/
def serveRequests (s : State) : State :=
  if s.store.requested && s.store.writing.isNone then beginWrite s else s

/-- START_READY follows at once when a write ends in START from step 4 on (R185). -/
def dueReady (s : State) : State :=
  if s.supply.power = .start && !s.agenda.contains .startReady then dueLast .startReady s else s

/-- The store takes the completed write, and a reset write that waited on it is done (R180, R182). -/
def storeWrite (w : Write) (s : State) : State :=
  onStore (fun x => x.completed w) (onSupply (fun x => { x with resetWrite := x.resetWrite.ended }) s)

/-- The retention write in progress completes (R180): the last completed write advances, the requesters waiting on it
are told, and a pending request begins the next write. (Assumption 7.) -/
def completeWrite (s : State) : State :=
  match s.store.writing with
  | none => s
  | some w =>
    dueReady (serveRequests (tellWork (storeWrite w s)))

/-! ## Hold-up (R176, R177, R182) -/

/-- HOLDUP entry at the entry in work (R115, R51): a decode, and a submission not yet applied, complete with
POWER_FAIL. -/
def abandonWork (s : State) : State :=
  match s.intake.work with
  | none => s
  | some w =>
    match w.stage with
    | .decoding => completeEntry ⟨.powerFail, 0, bodyBeforeCheck w s⟩ s
    | .calendar => completeEntry ⟨.powerFail, 0, []⟩ s
    | _ => s

/-- The power state HOLDUP, with a reset hold-up or without, and READY cleared (R176, R182). -/
def dropPower (reset : Bool) (s : State) : State :=
  onIntake (fun x => { x with ready := false })
    (onSupply (fun x => { x with power := .holdup, resetHold := reset, resetWrite := .none }) s)

/-- The hold-up write is marked as the reset write where the hold-up is a reset hold-up (R182). -/
def markResetWrite (reset : Bool) (s : State) : State :=
  onSupply (fun x => { x with resetWrite := if reset then .waiting .next else .none }) s

/-- The lockout at the close of a partial interval (R113): its remaining seconds decrease, and at 0 it ends within that close,
before the hold-up write takes its sections. (Assumption 8.) -/
def passLockout (s : State) : State :=
  if s.decoder.lockout = 1 then endLockout s else onDecoder (fun x => { x with lockout := x.lockout - 1 }) s

/-- HOLDUP is entered (R176), as a reset hold-up or not: every block acts, and the supply monitor then requests the
hold-up write. The reference leaves the order of the blocks open. (Assumption 8.) -/
def enterHoldup (reset : Bool) (p : PartMeasurement) (s : State) : State :=
  requestPublication (requestWrite (markResetWrite reset (holdupWindow (passLockout (closePartial p
    (abandonWork (holdupSwitch (raiseNow attnSupply (dropPower reset s)))))))))

/-- What the supply monitor sees of VS: below 4.40 V or not (R186). -/
def setVsLow (low : Bool) (s : State) : State := onSupply (fun x => { x with vsLow := low }) s

/-- VS falls below 4.40 V (R174, R186): HOLDUP from MAINS; START and HOLDUP know of it. -/
def vsFalls (p : PartMeasurement) (s : State) : State :=
  match s.supply.power with
  | .mains => enterHoldup false p (setVsLow true s)
  | .start => setVsLow true s
  | .holdup => setVsLow true s
  | .battery => s

/-- A hold-up becomes a reset hold-up, with a further write as its reset write (R182). -/
def markReset (s : State) : State :=
  requestWrite (onSupply (fun x => { x with resetHold := true, resetWrite := .waiting .next }) s)

/-- RESET_N has been Low for 1 ms (R182). -/
def resetLow (p : PartMeasurement) (s : State) : State :=
  match s.supply.power with
  | .mains => enterHoldup true p s
  | .holdup => if s.supply.resetHold then s else markReset s
  | .start => onSupply (fun x => { x with resetRemembered := true }) s
  | .battery => s

/-- The intake opens (R13, R16): READY, and the head of the list is taken. -/
def openIntake (s : State) : State := takeNext (onIntake (fun x => { x with ready := true }) s)

/-- The power state MAINS (R177). -/
def setMains (s : State) : State := onSupply (fun x => { x with power := .mains }) s

/-- VS rises: to 4.60 V or above in a hold-up, which returns to MAINS unless it is a reset hold-up (R177); in START and in a
reset hold-up to 4.40 V or above (R186, Assumption 11). Of the return's effects the intake's is the last, so that nothing
falls between the taking of the head of the list and its decision. (Assumption 37.) -/
def vsRises (s : State) : State :=
  match s.supply.power with
  | .holdup =>
    let t := setVsLow false s
    if s.supply.resetHold then t
    else
      openIntake (catchUpThen [] id (resumeSwitch (beginInterval (raiseNow attnSupply (setMains t)))))
  | .start => setVsLow false s
  | .mains => s
  | .battery => s

/-! ## BATTERY (R178, R169, R175) -/

/-- A watched input as BATTERY entry leaves it (R169): its previous level is the qualified level, or before start step 2
one sample under the copied mode. -/
def watchFrom (early : Bool) (high : Bool) (x : InputState) (b : BatteryWatch) : BatteryWatch :=
  { b with previous := if early then modeActive b.mode high else x.qualified }

/-- BATTERY is entered (R178): everything outside the battery domain and the image is lost, and a frame in progress is cut
off (R6). -/
def enterBattery (b : BatteryInputs) (s : State) : State :=
  let early : Bool := s.supply.power = .start && s.supply.startStep < 2
  State.powered .battery s.pending { s.link with frame := none } s.clock
    { s.battery with
      supplyLoss := true
      caseIn := watchFrom early b.caseHigh s.tamper.caseIn s.battery.caseIn
      coverIn := watchFrom early b.coverHigh s.tamper.coverIn s.battery.coverIn }
    (s.store.cutOff b.written) s.catchUp

/-- VS falls below 3.10 V (R174): from HOLDUP, and from START. -/
def vsFails (b : BatteryInputs) (s : State) : State :=
  match s.supply.power with
  | .holdup => enterBattery b s
  | .start => enterBattery b s
  | .mains => s
  | .battery => s

/-- VBAT can no longer hold the battery domain while VS is absent (R175). -/
def domainLost (s : State) : State :=
  if s.supply.power = .battery then onClock (fun _ => Clock.lost) (onBattery (fun _ => Battery.lost) s) else s

/-! ## The start sequence (R184, R185) -/

/-- Which sections have failed, in the order of the failed-section mask (R184); TIME is judged at POWER_ON only. -/
def failedSections (i : Image) (withTime : Bool) : List Bool :=
  let l := i.lastWrite withTime
  [(restored l i.setA.account i.setB.account).isNone, (restored l i.setA.energy i.setB.energy).isNone,
   (restored l i.setA.decoder i.setB.decoder).isNone, (restored l i.setA.settings i.setB.settings).isNone,
   (restored l i.setA.book i.setB.book).isNone, (restored l i.setA.switch i.setB.switch).isNone,
   (restored l i.setA.records i.setB.records).isNone,
   withTime && (restored l i.setA.time i.setB.time).isNone]

/-- The sections that a start restores, a failed one at its factory value (R184). -/
def restoredSections (i : Image) (withTime : Bool) : Sections :=
  let l := i.lastWrite withTime
  { account := (restored l i.setA.account i.setB.account).getD Account.factory
    energy := (restored l i.setA.energy i.setB.energy).getD Energy.factory
    decoder := (restored l i.setA.decoder i.setB.decoder).getD Decoder.factory
    settings := (restored l i.setA.settings i.setB.settings).getD Settings.factory
    book := (restored l i.setA.book i.setB.book).getD CalendarBook.factory
    switch := (restored l i.setA.switch i.setB.switch).getD SwitchKept.factory
    records := (restored l i.setA.records i.setB.records).getD recordsFactory
    time := (restored l i.setA.time i.setB.time).getD 0 }

/-- The RETENTION condition reported once for each failed section (R184). -/
def reportFailed : List Bool → State → State
  | [], s => s
  | true :: fs, s => reportFailed fs (reportBoth kindRetention s)
  | false :: fs, s => reportFailed fs s

/-- The reported states that metering begins with: PRESENT where the record is ACTIVE (R33). -/
def startMeter (rs : Vector TamperRecord 10) (p : Settings) : Meter :=
  { Meter.cleared with
    law := p.summationLaw
    magnetPower := p.magnetPower
    reverse := ⟨rs[kindReverse].state == .active, 0⟩
    voltageTap := ⟨rs[kindVoltage].state == .active, 0⟩
    bypass := ⟨rs[kindBypass].state == .active, 0⟩ }

/-- The switch controller after its section is restored (R155): LOAD is active with its latch. -/
def startSwitch (k : SwitchKept) : Switch :=
  { Switch.cleared with kept := k, reasons := { Reasons.empty with load := k.loadLatch } }

/-- The account with SUPPLY_LOSS set if the supply-loss mark is (R71, R185). -/
def carryLoss (mark : Bool) (a : Account) : Account := { a with supplyLoss := a.supplyLoss || mark }

/-- The clock after step 1: at POWER_ON meter time comes from the TIME section, UNCERTAIN (R59). -/
def Clock.restored (on : Bool) (time : Nat) (c : Clock) : Clock :=
  if on then { c with time := time, certain := false } else c

/-- The battery domain after step 1: marked intact, its supply-loss mark carried over (R185). -/
def Battery.marked (b : Battery) : Battery := { b with intact := true, supplyLoss := false }

/-- Step 1 (R185): the sections are handed to their blocks, the supply-loss mark is carried over, the credit engine
derives, and the domain-intact mark is set. -/
def takeSections (x : Sections) (s : State) : State :=
  deriveQuietly { s with
    energy := x.energy
    decoder := x.decoder
    settings := x.settings
    book := x.book
    meter := startMeter x.records x.settings
    credit := { Credit.cleared with account := carryLoss s.battery.supplyLoss x.account }
    switch := startSwitch x.switch
    tamper := { Tamper.cleared with records := x.records }
    clock := s.clock.restored (s.supply.cause = .powerOn) x.time
    battery := s.battery.marked }

/-- The retention store as the start has read its image, and the failed-section mask (R184). -/
def noteRestore (on : Bool) (s : State) : State :=
  onStore (fun x => x.found on)
    (onSupply (fun x => { x with startStep := 1, failed := BitVec.ofNat 8 (maskOf (failedSections s.store.image on)) }) s)

/-- Step 1 of the start sequence (R184, R185): restore. -/
def restoreStep (s : State) : State :=
  let on : Bool := s.supply.cause = .powerOn
  deriveTamper (reportFailed (failedSections s.store.image on)
    (noteRestore on (takeSections (restoredSections s.store.image on) s)))

/-- The crystal-failure mark cleared (R59). -/
def clearCrystalMark (s : State) : State := onClock (fun x => { x with crystalFailed := false }) s

/-- The number of start steps that have ended. -/
def setStartStep (n : Nat) (s : State) : State := onSupply (fun x => { x with startStep := n }) s

/-- The CLOCK reports of step 2 (R59, R171). -/
def clockReports (s : State) : State :=
  let onCrystal : Bool := s.clock.source = .crystal
  let told :=
    if s.supply.cause = .powerOn then (if onCrystal then s else reportPresent kindClock s)
    else if s.clock.crystalFailed || !onCrystal then
      if onCrystal then reportBoth kindClock s else reportPresent kindClock s
    else s
  if onCrystal then reportGone kindClock (clearCrystalMark told) else clearCrystalMark told

/-- Step 2 (R185): battery time, sense inputs, the CLOCK reports and the KEYPAD report (R116). -/
def batteryStep (s : State) : State :=
  let t := clockReports (settleInputs s)
  setStartStep 2 (report kindKeypad (0 < t.decoder.lockout) t)

/-- Step 3 (R185): missed days. -/
def daysStep (s : State) : State :=
  setStartStep 3 (setOrCatchUp s)

/-- Step 4 (R185, R156): the contactor, the hand-offs, one evaluation, and the start write. -/
def contactorStep (s : State) : State :=
  beginWrite (setStartStep 4 (handAtStart (friendlyState s) (findContactor s)))

/-- The exchange memory, the intake and the attention registers cleared, and no frame in progress: the next one begins at
the next fall of LSEL_N (R20). -/
def clearExchange (s : State) : State :=
  endFrame false (onMem (fun _ => []) (onIntake (fun _ => Intake.cleared) (onAttn (fun _ => Attn.cleared) s)))

/-- The pages written as a publication leaves them, with the counter at `c` (R14). -/
def putPages (c : Nat) (s : State) : State := onMem (fun _ => writePages s c) s

/-- Step 5 (R185, R20, R187): the exchange memory is cleared, VBAT is sampled, and the pages are built by a publication
that leaves the counter at 2. (Assumption 9.) -/
def pagesStep (s : State) : State :=
  putPages 2 (sampleVbat s.pins.vbat (clearExchange (setStartStep 5 s)))

/-- The next step of the start sequence. -/
def nextStep (s : State) : State :=
  match s.supply.startStep with
  | 0 => restoreStep s
  | 1 => batteryStep s
  | 2 => daysStep s
  | 3 => contactorStep s
  | 4 => pagesStep s
  | _ => s

/-- `n` steps of the start sequence. -/
def runSteps : Nat → State → State
  | 0, s => s
  | n + 1, s => runSteps n (nextStep s)

/-- The clock as a start finds it: at POWER_ON the time base begins on the crystal where it runs, UNCERTAIN (R42). -/
def Clock.started (cause : StartCause) (crystalRuns : Bool) (c : Clock) : Clock :=
  if cause = .powerOn then { c with source := if crystalRuns then .crystal else .backup, certain := false } else c

/-- START is entered (R183, R20), before its first step. At POWER_ON the time base begins anew (R42). A RESET_PIN start
can find VS low, as it was in the hold-up (R186); a coil pulse still running ends here (Assumption 42), and a request pending
behind a write in progress is dropped (Assumption 45). -/
def startState (cause : StartCause) (i : StartInputs) (image : Image) (s : State) : State :=
  { State.powered .start s.pending s.link (s.clock.started cause i.crystalRuns) s.battery
      (image.damage i.damage) s.catchUp with
    supply := { Supply.off with
      power := .start, cause := cause, vsLow := cause = .resetPin && s.supply.vsLow }
    pins := ⟨i.pins, i.loadSide, i.vbat⟩ }

/-- VS rises to 4.70 V or above (R174, R183): a start from BATTERY. -/
def startFromBattery (i : StartInputs) (s : State) : State :=
  match s.supply.power with
  | .battery =>
    runSteps i.steps (startState (if s.battery.intact then .mainsReturn else .powerOn) i s.store.image s)
  | .start => s
  | .mains => s
  | .holdup => s

/-- The image at a RESET_PIN start: a write begun behind the reset write runs to its end first (Assumption 10); a request still
pending behind it begins no write (Assumption 45). -/
def imageAtReset (t : Store) : Image :=
  match t.writing with
  | none => t.image
  | some w => (t.completed w).image

/-- A reset hold-up may start (R182): its reset write has completed. -/
def resetStartAllowed (s : State) : Bool :=
  s.supply.power = .holdup && s.supply.resetHold && s.supply.resetWrite = .done

/-- The start with cause RESET_PIN (R182, R183). -/
def startFromReset (i : StartInputs) (s : State) : State :=
  if resetStartAllowed s then runSteps i.steps (startState .resetPin i (imageAtReset s.store) s) else s

/-- What is left of a start before step 6: its remaining steps, and the end of the start write (R185). -/
def finishStart (s : State) : State :=
  if s.supply.power = .start && !s.agenda.contains .startReady then
    completeWrite (runSteps (5 - s.supply.startStep) s)
  else s

/-- An interval that ends as it begins (R186). -/
def emptyPart : PartMeasurement := ⟨0, ⟨0, 0, 0⟩, ⟨0, 0, 0⟩⟩

/-- MAINS as step 6 enters it: what START remembered is taken up (R186). -/
def beginMains (s : State) : State :=
  onSupply (fun x => { x with power := .mains, vsLow := false, resetRemembered := false }) s

/-- Step 6 (R185): READY is set, MAINS is entered and metering begins. What START remembered follows at once: HOLDUP
while VS is low, and a reset hold-up for a remembered RESET_N (R186). (Assumption 11.) -/
def enterMains (s : State) : State :=
  if s.supply.power = .start then
    let f := runSteps (5 - s.supply.startStep) s
    let m := openIntake (catchUpThen [] id (beginInterval (beginMains f)))
    let h := if f.supply.vsLow then vsFalls emptyPart m else m
    if f.supply.resetRemembered then resetLow emptyPart h else h
  else s

end Sys2Proof.Machine
end

