-- ==== Sys2Proof/Machine/Agenda.lean ====
section
/-! DEFINITION. RECONNECT, and the steps that follow at once: what each of them does, and how commands meet them
(Assumption 3). A command that stands for a step on the agenda makes that step; any other command comes after every
step that was due before it. -/

namespace Sys2Proof.Machine

/-! ## RECONNECT (R148) -/

/-- The result of a RECONNECT (R148): contactor before and after, acting and held reason, latch, trip count. -/
def reconnectResult (s t u : State) (accepted : Bool) : Result :=
  ⟨if accepted then .accepted else .notArmed, if accepted then 0 else t.switch.governing.code,
   byte s.switch.contactor.code ++ byte u.switch.contactor.code ++ byte t.switch.acting.code ++
     byte t.switch.held.code ++ flagByte s.switch.kept.loadLatch ++ byte s.switch.kept.tripCount⟩

/-- The taken RECONNECT entry is decided (R148): what blocks a close is cleared, one evaluation is made, and an ARMED
contactor begins to close. -/
def decideReconnect (s : State) : State :=
  let t := evaluate (reconnectClears s)
  let u := reconnectCloses t
  completeEntry
    (reconnectResult s t u (s.switch.contactor != .closing && u.switch.contactor = .closing)) u

/-! ## The steps that follow at once -/

/-- A step at the entry in work, if it has been handed to its block (R10, R11). -/
def withWork (f : Work → State → State) (s : State) : State :=
  match s.intake.work with
  | none => s
  | some w => if w.stage = .handed then f w s else s

/-- What a due step does. -/
def runDue : Due → State → State
  | .token, s => withWork decideToken s
  | .reconnect, s => withWork (fun _ => decideReconnect) s
  | .emergency, s => withWork (fun _ => decideEmergency) s
  | .timeSet, s => withWork decideTimeSet s
  | .calendarSubmit, s => withWork (fun _ => setStage .calendar) s
  | .windowCloseDiscard, s => withWork decideDiscard s
  | .windowCloseCommit, s => withWork decideCommit s
  | .windowClosePayloadRange, s => withWork refuseAction s
  | .flagClear, s => withWork decideFlagClear s
  | .kindUnknown, s => withWork (fun _ => completeEntry ⟨.kindUnknown, 0, []⟩) s
  | .keypadLockoutStart, s => startLockout s
  | .keypadLockoutEnd, s => endLockout s
  | .windowExpiry, s => windowExpires s
  | .periodicWriteDue, s => requestWrite s
  | .conditionQualified c, s => qualifyCondition c s
  | .weldObservation, s => weldArrives s
  | .loadTrip, s => tripLimiter s
  | .loadRetryExpiry, s => retryExpires s
  | .cleanRunComplete, s => finishCleanRun s
  | .stuckRetry, s => retryStuck s
  | .startReady, s => enterMains s
  | .complete r, s => completeEntry r s
  | .judge, s => judgeAttempt s
  | .stuckTimer, s => stepStuckTimer s
  | .stuckTest, s => testStuck s
  | .retryTimer, s => stepRetryTimer s
  | .overCount, s => stepOverCount s
  | .cleanRun, s => stepCleanRun s
  | .condition c, s => countCondition c s
  | .weld, s => countWeld s
  | .lockoutCount, s => countLockout s
  | .windowCount, s => countWindow s
  | .periodicCount, s => countPeriodic s
  | .publish, s => requestPublication (beginInterval s)
  | .catchUp _, s => s
  | .friendly, s => evaluateFriendly s

/-- A due step is a row of the table, and so waits for its command. -/
def Due.isRow : Due → Bool
  | .token => true
  | .reconnect => true
  | .emergency => true
  | .timeSet => true
  | .calendarSubmit => true
  | .windowCloseDiscard => true
  | .windowCloseCommit => true
  | .windowClosePayloadRange => true
  | .flagClear => true
  | .kindUnknown => true
  | .keypadLockoutStart => true
  | .keypadLockoutEnd => true
  | .windowExpiry => true
  | .periodicWriteDue => true
  | .conditionQualified _ => true
  | .weldObservation => true
  | .loadTrip => true
  | .loadRetryExpiry => true
  | .cleanRunComplete => true
  | .stuckRetry => true
  | .startReady => true
  | .complete _ => false
  | .judge => false
  | .stuckTimer => false
  | .stuckTest => false
  | .retryTimer => false
  | .overCount => false
  | .cleanRun => false
  | .condition _ => false
  | .weld => false
  | .lockoutCount => false
  | .windowCount => false
  | .periodicCount => false
  | .publish => false
  | .catchUp _ => false
  | .friendly => false

/-- The next due step made, if one is due. -/
def runHead (s : State) : State :=
  match s.agenda with
  | [] => s
  | d :: rest => runDue d (onAgenda (fun _ => rest) s)

/-- A due step waits: a catch-up that has day ends left, between two of which other arrivals are taken (R66). -/
def waits (d : Due) (s : State) : Bool := d.isCatchUp && 0 < daysLeft s

/-- The due steps before the next one that satisfies `stop`, or that waits; `fuel` bounds their number. -/
def runUntil (stop : Due → Bool) : Nat → State → State
  | 0, s => s
  | fuel + 1, s =>
    match s.agenda with
    | [] => s
    | d :: rest => if stop d || waits d s then s else runUntil stop fuel (runDue d (onAgenda (fun _ => rest) s))

/-- More due steps than can follow one another: fifteen of an interval's close with one row each, and every waiting
entry with its completion. -/
def dueBound : Nat := 128

/-- A catch-up that waits and has been begun by this step has ended its part in it. -/
def restCatchUp (s : State) : State :=
  onAgenda (fun a => match a with
    | .catchUp _ :: rest => .catchUp false :: rest
    | a => a) s

/-- The step in progress goes on until it ends, or until a row of the table is next. A catch-up that has waited for it goes on
behind it, up to the next arrival (R66). (Assumption 32.) -/
def advance (s : State) : State :=
  let t := runUntil Due.isRow dueBound s
  restCatchUp (if t.agenda.head? = some (.catchUp false) then runUntil Due.isRow dueBound (catchUpGoesOn t) else t)

/-- Every step that is due is made, but for those behind a catch-up that waits. -/
def settle (s : State) : State := runUntil (fun _ => false) dueBound s

/-- Every step that is due before `d` is made; all of them where `d` is not due. -/
def settleTo (d : Due) (s : State) : State := runUntil (fun x => x == d) dueBound s

/-- A command that stands for the due step `d`: the steps before it are made, then it, then the rest of the step it
belongs to. Where `d` is not due its event has not come about, and nothing but those steps happens. (Assumption 12.) -/
def atOnce (d : Due) (s : State) : State :=
  let t := settleTo d s
  if t.agenda.head? = some d then advance (runHead t) else t

/-- A command with an occasion of its own: every step that is due is made, then the command's own effect, up to the
next row of the table. -/
def arrival (f : State → State) (s : State) : State := advance (f (settle s))

end Sys2Proof.Machine
end

