-- ==== Sys2Proof/Machine/EntryCommands.lean ====
section
/-! DEFINITION. The commands that decide a taken entry (R11), and the apply of a calendar submission. -/

namespace Sys2Proof.Machine

/-- The wait of a CALENDAR_SUBMIT entry ends (R51). Where none waits, its event has not come about. -/
def submitApplies (s : State) : State :=
  match s.intake.work with
  | none => s
  | some w => if w.stage = .calendar then applySubmit s else s

/-- TOKEN: pre-checks 1 to 6; an entry that passes begins its decode (R99, R92). -/
def execToken (s : State) : Host.Outcome State Fault Refusal :=
  .next (atOnce .token s)

/-- RECONNECT: decided in one step (R148). -/
def execReconnect (s : State) : Host.Outcome State Fault Refusal :=
  .next (atOnce .reconnect s)

/-- EMERGENCY: decided in one step (R81). -/
def execEmergency (s : State) : Host.Outcome State Fault Refusal :=
  .next (atOnce .emergency s)

/-- TIME_SET: accepted or refused, with its effects (R45, R46). -/
def execTimeSet (s : State) : Host.Outcome State Fault Refusal :=
  .next (atOnce .timeSet s)

/-- CALENDAR_SUBMIT: the entry begins its wait for the apply (R51). -/
def execCalendarSubmit (s : State) : Host.Outcome State Fault Refusal :=
  .next (atOnce .calendarSubmit s)

/-- CALENDAR_SUBMIT_APPLY: the image is validated and becomes the passive calendar (R51 to R53). -/
def execCalendarSubmitApply (s : State) : Host.Outcome State Fault Refusal :=
  .next (arrival submitApplies s)

/-- WINDOW_CLOSE_DISCARD: the window is dropped (R124, R125). -/
def execWindowCloseDiscard (s : State) : Host.Outcome State Fault Refusal :=
  .next (atOnce .windowCloseDiscard s)

/-- WINDOW_CLOSE_COMMIT: step 1 of a commit (R124, R126). -/
def execWindowCloseCommit (s : State) : Host.Outcome State Fault Refusal :=
  .next (atOnce .windowCloseCommit s)

/-- WINDOW_CLOSE_PAYLOAD_RANGE: an unknown action is refused (R124). -/
def execWindowClosePayloadRange (s : State) : Host.Outcome State Fault Refusal :=
  .next (atOnce .windowClosePayloadRange s)

/-- FLAG_CLEAR: sticky flags are cleared (R72). -/
def execFlagClear (s : State) : Host.Outcome State Fault Refusal :=
  .next (atOnce .flagClear s)

/-- KIND_UNKNOWN: the intake completes the entry itself (R11). -/
def execKindUnknown (s : State) : Host.Outcome State Fault Refusal :=
  .next (atOnce .kindUnknown s)

end Sys2Proof.Machine
end

