-- ==== Sys2Proof/Machine/LinkCommands.lean ====
section
/-! DEFINITION. The frames of the link port (section 1.1): a memory frame whole or in pieces, a register frame whole. -/

namespace Sys2Proof.Machine

/-- Bytes of a memory frame, each an arrival of its own (R2, R3). What follows one byte at once comes before the next
byte. -/
def frameBytes (write : Bool) : List Byte → State → State
  | [], s => s
  | [v], s => frameByte write v s
  | v :: w :: vs, s => frameBytes write (w :: vs) (settle (frameByte write v s))

/-- A memory frame, or a piece of one (R1 to R3). -/
def memoryFrame (write : Bool) (piece : FramePiece) (s : State) : State :=
  endFrame piece.more (frameBytes write piece.bytes (beginFrame write s))

/-- READ_MEMORY (R2, R6). -/
def execReadMemory (piece : FramePiece) (s : State) : Host.Outcome State Fault Refusal :=
  .next (arrival (memoryFrame false piece) s)

/-- WRITE_MEMORY (R3, R5 to R8). -/
def execWriteMemory (piece : FramePiece) (s : State) : Host.Outcome State Fault Refusal :=
  .next (arrival (memoryFrame true piece) s)

/-- What a READ_REGISTER frame shifts out (R1, R4): 0x00 for the command byte and the register number, then the
register as captured, then 0x00. -/
def readRegisterAnswer (bytes : List Byte) (s : State) : List Byte :=
  match bytes with
  | [] => zeros 1
  | r :: rest => zeros 2 ++ (registerBytes s r ++ zeros rest.length).take rest.length

/-- READ_REGISTER (R4, R6). -/
def execReadRegister (bytes : List Byte) (s : State) : Host.Outcome State Fault Refusal :=
  .next (arrival (fun t => answerFrame (readRegisterAnswer bytes t) t) s)

/-- WRITE_REGISTER takes effect in MAINS and HOLDUP (R6). -/
def registerWritable (s : State) : Bool := memoryWritable s

/-- ATTENTION bits cleared where the first data byte holds a 1 (R18, R4). -/
def clearAttention (data : List Byte) (s : State) : State :=
  match data with
  | [] => s
  | v :: _ =>
    if registerWritable s then onAttn (fun x => { x with bits := x.bits &&& ~~~(v.setWidth 6) }) s else s

/-- WRITE_REGISTER to ATTENTION (R18). -/
def execWriteAttention (data : List Byte) (s : State) : Host.Outcome State Fault Refusal :=
  .next (arrival (fun t => answerFrame (zeros (2 + data.length)) (clearAttention data t)) s)

/-- ATTENTION_MASK replaced by the low six bits of the first data byte (R19, R4). -/
def replaceMask (data : List Byte) (s : State) : State :=
  match data with
  | [] => s
  | v :: _ => if registerWritable s then onAttn (fun x => { x with mask := v.setWidth 6 }) s else s

/-- WRITE_REGISTER to ATTENTION_MASK (R19). -/
def execWriteAttentionMask (data : List Byte) (s : State) : Host.Outcome State Fault Refusal :=
  .next (arrival (fun t => answerFrame (zeros (2 + data.length)) (replaceMask data t)) s)

/-- WRITE_REGISTER to another register: ignored (R4). -/
def execWriteRegisterIgnored (bytes : List Byte) (s : State) : Host.Outcome State Fault Refusal :=
  .next (arrival (answerFrame (zeros (1 + bytes.length))) s)

/-- A frame with another command byte: ignored, 0x00 for every byte (R1). -/
def execUnknownCommandFrame (bytes : List Byte) (s : State) : Host.Outcome State Fault Refusal :=
  .next (arrival (answerFrame (zeros bytes.length)) s)

end Sys2Proof.Machine
end

