-- ==== Sys2Proof/Machine/SupplyCommands.lean ====
section
/-! DEFINITION. The commands of the supply monitor (R174). -/

namespace Sys2Proof.Machine

/-- HOLDUP_ENTRY (R176, R186). -/
def execHoldupEntry (p : PartMeasurement) (s : State) : Host.Outcome State Fault Refusal :=
  .next (arrival (vsFalls p) s)

/-- RESET_N_LOW (R182, R186). -/
def execResetNLow (p : PartMeasurement) (s : State) : Host.Outcome State Fault Refusal :=
  .next (arrival (resetLow p) s)

/-- HOLDUP_RETURN (R177). -/
def execHoldupReturn (s : State) : Host.Outcome State Fault Refusal :=
  .next (arrival vsRises s)

/-- BATTERY_ENTRY (R178). -/
def execBatteryEntry (b : BatteryInputs) (s : State) : Host.Outcome State Fault Refusal :=
  .next (arrival (vsFails b) s)

/-- START_ENTRY (R183, R185). -/
def execStartEntry (i : StartInputs) (s : State) : Host.Outcome State Fault Refusal :=
  .next (arrival (startFromBattery i) s)

/-- RESET_START (R182, R183). -/
def execResetStart (i : StartInputs) (s : State) : Host.Outcome State Fault Refusal :=
  .next (arrival (startFromReset i) s)

/-- START_READY: the start write completes and step 6 is made (R185, R186). -/
def execStartReady (s : State) : Host.Outcome State Fault Refusal :=
  .next (atOnce .startReady (finishStart s))

/-- BATTERY_DOMAIN_LOSS (R175). -/
def execBatteryDomainLoss (s : State) : Host.Outcome State Fault Refusal :=
  .next (arrival domainLost s)

end Sys2Proof.Machine
end

