-- ==== Sys2Proof/Machine/TimedCommands.lean ====
section
/-! DEFINITION. The commands of clocks, counters and pins: publications, retention writes, metering intervals, the load
limiter, the contactor's pulses and waits, meter seconds, the crystal and the sense inputs. -/

namespace Sys2Proof.Machine

/-- The 10 ms samples of a sense input, in order (R162); none is taken where the inputs are not sampled. -/
def sampleAll (i : SenseInput) : List Bool → State → State
  | [], s => s
  | high :: rest, s => sampleAll i rest (if inputsSampled s then sampleInput i high s else s)

/-- PUBLICATION_END (R14, R17). -/
def execPublicationEnd (s : State) : Host.Outcome State Fault Refusal :=
  .next (arrival endPublication s)

/-- RETENTION_WRITE_COMPLETE (R180). -/
def execRetentionWriteComplete (s : State) : Host.Outcome State Fault Refusal :=
  .next (arrival completeWrite s)

/-- PERIODIC_WRITE_DUE (R181). -/
def execPeriodicWriteDue (s : State) : Host.Outcome State Fault Refusal :=
  .next (atOnce .periodicWriteDue s)

/-- INTERVAL_CLOSE (R31). -/
def execIntervalClose (m : Measurement) (s : State) : Host.Outcome State Fault Refusal :=
  .next (arrival (closeInterval m) s)

/-- CONDITION_QUALIFIED (R34). -/
def execConditionQualified (c : Condition) (s : State) : Host.Outcome State Fault Refusal :=
  .next (atOnce (.conditionQualified c) s)

/-- WELD_OBSERVATION (R38, R144). -/
def execWeldObservation (s : State) : Host.Outcome State Fault Refusal :=
  .next (atOnce .weldObservation s)

/-- LOAD_TRIP (R150). -/
def execLoadTrip (s : State) : Host.Outcome State Fault Refusal :=
  .next (atOnce .loadTrip s)

/-- LOAD_RETRY_EXPIRY (R151). -/
def execLoadRetryExpiry (s : State) : Host.Outcome State Fault Refusal :=
  .next (atOnce .loadRetryExpiry s)

/-- CLEAN_RUN_COMPLETE (R152). -/
def execCleanRunComplete (s : State) : Host.Outcome State Fault Refusal :=
  .next (atOnce .cleanRunComplete s)

/-- STUCK_RETRY (R145). -/
def execStuckRetry (s : State) : Host.Outcome State Fault Refusal :=
  .next (atOnce .stuckRetry s)

/-- COIL_PULSE_END (R139, R154). -/
def execCoilPulseEnd (s : State) : Host.Outcome State Fault Refusal :=
  .next (arrival pulseEnds s)

/-- CONFIRMATION_WAIT_END (R140). -/
def execConfirmationWaitEnd (s : State) : Host.Outcome State Fault Refusal :=
  .next (arrival waitEnds s)

/-- WINDOW_EXPIRY (R121). -/
def execWindowExpiry (s : State) : Host.Outcome State Fault Refusal :=
  .next (atOnce .windowExpiry s)

/-- METER_SECOND (R40, R50, R56, R169). -/
def execMeterSecond (p : SensePins) (s : State) : Host.Outcome State Fault Refusal :=
  .next (arrival (meterSecond p) s)

/-- CRYSTAL_STOP (R42). -/
def execCrystalStop (s : State) : Host.Outcome State Fault Refusal :=
  .next (arrival crystalStops s)

/-- CRYSTAL_RETURN (R43). -/
def execCrystalReturn (s : State) : Host.Outcome State Fault Refusal :=
  .next (arrival crystalReturns s)

/-- INPUT_QUALIFIED: the samples of one sense input, one after another (R162, R163). -/
def execInputQualified (i : SenseInput) (samples : List Bool) (s : State) : Host.Outcome State Fault Refusal :=
  .next (arrival (sampleAll i samples) s)

end Sys2Proof.Machine
end

