-- ==== Sys2Proof/Machine/TokenCommands.lean ====
section
/-! DEFINITION. The commands at the end of a token's decode, one for each class with its code and its minimum authority
(section 6.6), and the keypad lockout. -/

namespace Sys2Proof.Machine

/-- TEST (R104). -/
def execTest (s : State) : Host.Outcome State Fault Refusal :=
  .next (arrival (tokenApply 0 1 applyTest) s)

/-- CREDIT (R105, R67). -/
def execCredit (s : State) : Host.Outcome State Fault Refusal :=
  .next (arrival (tokenApply 1 1 applyCredit) s)

/-- DEBT_ADD (R105, R69). -/
def execDebtAdd (s : State) : Host.Outcome State Fault Refusal :=
  .next (arrival (tokenApply 2 3 applyDebtAdd) s)

/-- CLEAR (R105, R70). -/
def execClear (s : State) : Host.Outcome State Fault Refusal :=
  .next (arrival (tokenApply 3 3 applyClear) s)

/-- SETTING (R106, R123); its authority is checked with its class (R101). -/
def execSetting (s : State) : Host.Outcome State Fault Refusal :=
  .next (arrival (tokenApply 4 0 applySetting) s)

/-- WINDOW_OPEN (R107, R119). -/
def execWindowOpen (s : State) : Host.Outcome State Fault Refusal :=
  .next (arrival (tokenApply 5 2 applyWindowOpen) s)

/-- TAMPER_CLEAR (R108, R168). -/
def execTamperClear (s : State) : Host.Outcome State Fault Refusal :=
  .next (arrival (tokenApply 6 2 applyTamperClear) s)

/-- KEY_CHANGE (R110, R111). -/
def execKeyChange (s : State) : Host.Outcome State Fault Refusal :=
  .next (arrival (tokenApply 7 3 applyKeyChange) s)

/-- REMOTE_OPEN (R109). -/
def execRemoteOpen (s : State) : Host.Outcome State Fault Refusal :=
  .next (arrival (tokenApply 8 3 (applyRemote true)) s)

/-- REMOTE_CLOSE (R109). -/
def execRemoteClose (s : State) : Host.Outcome State Fault Refusal :=
  .next (arrival (tokenApply 9 3 (applyRemote false)) s)

/-- TOKEN_DECODE_END: check 7 or 8 fails (R100). -/
def execTokenDecodeEnd (s : State) : Host.Outcome State Fault Refusal :=
  .next (arrival tokenFails s)

/-- KEYPAD_LOCKOUT_START: the bad-code count has reached 5 (R113). -/
def execKeypadLockoutStart (s : State) : Host.Outcome State Fault Refusal :=
  .next (atOnce .keypadLockoutStart s)

/-- KEYPAD_LOCKOUT_END: the remaining seconds have reached 0 (R113). -/
def execKeypadLockoutEnd (s : State) : Host.Outcome State Fault Refusal :=
  .next (atOnce .keypadLockoutEnd s)

end Sys2Proof.Machine
end

