-- ==== Sys2Proof/Machine/Dispatch.lean ====
section
/-! DEFINITION. The one match over the commands: each arm is the command's meaning. -/

namespace Sys2Proof.Machine

/-- What a command does, the queue apart. -/
def exec (i : Instr) (s : State) : Host.Outcome State Fault Refusal :=
  match i with
  | .readMemory piece => Sys2Proof.Machine.execReadMemory piece s
  | .writeMemory piece => Sys2Proof.Machine.execWriteMemory piece s
  | .readRegister bytes => Sys2Proof.Machine.execReadRegister bytes s
  | .writeAttention data => Sys2Proof.Machine.execWriteAttention data s
  | .writeAttentionMask data => Sys2Proof.Machine.execWriteAttentionMask data s
  | .writeRegisterIgnored bytes => Sys2Proof.Machine.execWriteRegisterIgnored bytes s
  | .unknownCommandFrame bytes => Sys2Proof.Machine.execUnknownCommandFrame bytes s
  | .token => Sys2Proof.Machine.execToken s
  | .keypadLockoutStart => Sys2Proof.Machine.execKeypadLockoutStart s
  | .test => Sys2Proof.Machine.execTest s
  | .credit => Sys2Proof.Machine.execCredit s
  | .debtAdd => Sys2Proof.Machine.execDebtAdd s
  | .clear => Sys2Proof.Machine.execClear s
  | .setting => Sys2Proof.Machine.execSetting s
  | .windowOpen => Sys2Proof.Machine.execWindowOpen s
  | .tamperClear => Sys2Proof.Machine.execTamperClear s
  | .keyChange => Sys2Proof.Machine.execKeyChange s
  | .remoteOpen => Sys2Proof.Machine.execRemoteOpen s
  | .remoteClose => Sys2Proof.Machine.execRemoteClose s
  | .reconnect => Sys2Proof.Machine.execReconnect s
  | .emergency => Sys2Proof.Machine.execEmergency s
  | .timeSet => Sys2Proof.Machine.execTimeSet s
  | .calendarSubmit => Sys2Proof.Machine.execCalendarSubmit s
  | .calendarSubmitApply => Sys2Proof.Machine.execCalendarSubmitApply s
  | .windowCloseDiscard => Sys2Proof.Machine.execWindowCloseDiscard s
  | .windowCloseCommit => Sys2Proof.Machine.execWindowCloseCommit s
  | .flagClear => Sys2Proof.Machine.execFlagClear s
  | .kindUnknown => Sys2Proof.Machine.execKindUnknown s
  | .publicationEnd => Sys2Proof.Machine.execPublicationEnd s
  | .retentionWriteComplete => Sys2Proof.Machine.execRetentionWriteComplete s
  | .periodicWriteDue => Sys2Proof.Machine.execPeriodicWriteDue s
  | .intervalClose m => Sys2Proof.Machine.execIntervalClose m s
  | .conditionQualified c => Sys2Proof.Machine.execConditionQualified c s
  | .weldObservation => Sys2Proof.Machine.execWeldObservation s
  | .loadTrip => Sys2Proof.Machine.execLoadTrip s
  | .loadRetryExpiry => Sys2Proof.Machine.execLoadRetryExpiry s
  | .cleanRunComplete => Sys2Proof.Machine.execCleanRunComplete s
  | .stuckRetry => Sys2Proof.Machine.execStuckRetry s
  | .coilPulseEnd => Sys2Proof.Machine.execCoilPulseEnd s
  | .confirmationWaitEnd => Sys2Proof.Machine.execConfirmationWaitEnd s
  | .keypadLockoutEnd => Sys2Proof.Machine.execKeypadLockoutEnd s
  | .windowExpiry => Sys2Proof.Machine.execWindowExpiry s
  | .meterSecond pins => Sys2Proof.Machine.execMeterSecond pins s
  | .crystalStop => Sys2Proof.Machine.execCrystalStop s
  | .crystalReturn => Sys2Proof.Machine.execCrystalReturn s
  | .inputQualified input samples => Sys2Proof.Machine.execInputQualified input samples s
  | .holdupEntry p => Sys2Proof.Machine.execHoldupEntry p s
  | .resetNLow p => Sys2Proof.Machine.execResetNLow p s
  | .holdupReturn => Sys2Proof.Machine.execHoldupReturn s
  | .batteryEntry b => Sys2Proof.Machine.execBatteryEntry b s
  | .startEntry u => Sys2Proof.Machine.execStartEntry u s
  | .resetStart u => Sys2Proof.Machine.execResetStart u s
  | .startReady => Sys2Proof.Machine.execStartReady s
  | .batteryDomainLoss => Sys2Proof.Machine.execBatteryDomainLoss s
  | .tokenDecodeEnd => Sys2Proof.Machine.execTokenDecodeEnd s
  | .windowClosePayloadRange => Sys2Proof.Machine.execWindowClosePayloadRange s

end Sys2Proof.Machine
end

