-- ==== Sys2Proof/Machine/Step.lean ====
section
/-! DEFINITION. The step: the command at the front of the queue is taken. -/

namespace Sys2Proof.Machine

/-- The state without the command at the front of its queue. -/
def State.withQueue (s : State) (rest : List Instr) : State := { s with pending := rest }

/-- The command of a whole frame of the host, with the frame's complete bytes (R1), behind the commands that wait. -/
def State.frameArrives (frame : List Byte) (s : State) : State := s.withQueue (s.pending ++ [frameCommand frame])

/-- One step: the command at the front of the queue, with the queue's rest. On an empty queue the part waits: what is due
then is not time's to bring (Assumption 14). -/
def step (s : State) : Host.Outcome State Fault Refusal :=
  match s.pending with
  | [] => .next s
  | c :: rest => exec c (s.withQueue rest)

/-- The state with the command that a word spells at the front of its queue; unchanged where the word spells none. -/
def State.withFetchWord (s : State) (nbits w : Nat) : State :=
  match decodeTableWord nbits w with
  | none => s
  | some c => s.withQueue (c :: s.pending)

end Sys2Proof.Machine
end

