-- ==== Sys2Proof/Safety.lean ====
section
/-! DEFINITION. What holds of the part whenever it stands between two commands, in the terms that statements use: one
predicate for each promise of the reference about the whole machine. -/

namespace Sys2Proof.Safety

open Sys2Proof.Machine

/-! ## The account (R60, R61) -/

/-- The ranges of R60. -/
structure InRange (a : Account) : Prop where
  residue : a.residue < 1000000000
  floor : -9999999999 ≤ a.balance
  limit : a.balance ≤ 9999999999
  debt : a.debt ≤ 9999999999
  grant : a.grant ≤ 10000000

/-- The identities of R61. -/
structure Balanced (a : Account) : Prop where
  balance : a.balance = (a.credited : Int) - a.recoveredTopup - a.energyCharged - a.standingCharged -
    a.recoveredDaily + a.unbilled
  debt : (a.debt : Int) = (a.debtAdded : Int) - a.debtRecovered

/-- An account in its ranges whose totals account for it. -/
def LawfulAccount (a : Account) : Prop := InRange a ∧ Balanced a

/-- Every account that the part holds is lawful: the live one, both copies of the CREDIT section, and the one that a
retention write in progress took. -/
structure AccountsLawful (s : State) : Prop where
  live : LawfulAccount s.credit.account
  copyA : LawfulAccount s.store.image.setA.account.held
  copyB : LawfulAccount s.store.image.setB.account.held
  taken : ∀ w, s.store.writing = some w → LawfulAccount w.sections.account

/-! ## Settings (R130, R131) -/

/-- The ranges of the settings 1 to 16 (the table of R130): id, least and greatest value. -/
def settingRanges : List (Nat × Nat × Nat) :=
  [(1, 0, 2), (2, 0, 99999), (3, 1, 600), (4, 30, 3600), (5, 1, 9), (6, 0, 10000000), (7, 0, 10000000), (8, 0, 10000000),
   (9, 0, 2), (10, 1, 3), (11, 1, 3), (12, 0, 1), (13, 0, 100), (14, 0, 1000000), (15, 0, 99999), (16, 0, 0x3FF)]

/-- The value `v` lies within the range of setting `id` (R130); an input mode has a debounce in bits 7 to 0 that is not 0, and
0 in bits 23 to 10 (R131). -/
abbrev SettingRange (id v : Nat) : Prop :=
  (∃ r ∈ settingRanges, r.1 = id ∧ r.2.1 ≤ v ∧ v ≤ r.2.2) ∨ (17 ≤ id ∧ id ≤ 19 ∧ v % 256 ≠ 0 ∧ v / 1024 = 0)

/-- Every setting of a record is in its range. -/
def LawfulSettings (p : Settings) : Prop := ∀ id, 1 ≤ id → id ≤ 19 → SettingRange id (p.get id)

/-- Every settings record that the part holds is in range: the active one, the staged one, both copies of the SETTINGS
section, and the one that a retention write in progress took. -/
structure SettingsLawful (s : State) : Prop where
  live : LawfulSettings s.settings
  staged : ∀ p, s.window.staged = some p → LawfulSettings p
  copyA : LawfulSettings s.store.image.setA.settings.held
  copyB : LawfulSettings s.store.image.setB.settings.held
  taken : ∀ w, s.store.writing = some w → LawfulSettings w.sections.settings

/-! ## Calendars (R47, R52) -/

/-- The length of a month (R52, step 4). Year 0 stands for every year, and is a leap year by this measure. -/
def daysIn (year month : Nat) : Nat :=
  if month = 2 then (if year % 4 = 0 ∧ (year % 100 ≠ 0 ∨ year % 400 = 0) then 29 else 28)
  else if month = 4 ∨ month = 6 ∨ month = 9 ∨ month = 11 then 30 else 31

/-- A calendar in the ranges of R47, no two of whose switch points share a minute and a day type (R52). -/
structure LawfulTariff (c : Tariff) : Prop where
  id : c.id ≤ 65535
  offset : -720 ≤ c.offset ∧ c.offset ≤ 840
  prices : ∀ p ∈ c.prices.toList, p ≤ 999999
  defaultBand : c.defaultBand ≤ 5
  counts : c.switchPoints.length ≤ 24 ∧ c.holidays.length ≤ 16 ∧ c.windows.length ≤ 8
  points : ∀ p ∈ c.switchPoints, p.minute ≤ 1439 ∧ p.band ≤ 5
  apart : c.switchPoints.Pairwise fun q p => p.minute = q.minute → p.mask &&& q.mask = 0
  holidays : ∀ h ∈ c.holidays, (h.year = 0 ∨ (2000 ≤ h.year ∧ h.year ≤ 2135)) ∧ 1 ≤ h.month ∧ h.month ≤ 12 ∧
    1 ≤ h.day ∧ h.day ≤ daysIn h.year h.month
  windows : ∀ x ∈ c.windows, x.start ≤ 1439 ∧ x.start < x.stop ∧ x.stop ≤ 1440
  standing : c.standing ≤ 10000000
  activation : c.activation ≤ 4294967295

/-- Both calendars of a book are lawful. -/
structure LawfulBook (b : CalendarBook) : Prop where
  active : LawfulTariff b.active
  passive : ∀ c, b.passive = some c → LawfulTariff c

/-- Every calendar that the part holds is lawful: the live ones, those of both copies of the CALENDARS section, and those that
a retention write in progress took. -/
structure CalendarsLawful (s : State) : Prop where
  live : LawfulBook s.book
  copyA : LawfulBook s.store.image.setA.book.held
  copyB : LawfulBook s.store.image.setB.book.held
  taken : ∀ w, s.store.writing = some w → LawfulBook w.sections.book

/-! ## Serial windows (R95) -/

/-- The spent set of a key slot is in rising order without duplicates, holds at most 32 serials, each from F + 2 to
F + 1024 and none above the last serial there is; the floor stays in its range, and the last accepted serial is spent. -/
structure LawfulKey (k : KeySlot) : Prop where
  rising : k.spent.Pairwise (· < ·)
  few : k.spent.length ≤ 32
  inSpan : ∀ n ∈ k.spent, k.floor + 2 ≤ n ∧ n ≤ k.floor + 1024 ∧ n ≤ 1048575
  floor : k.floor ≤ 1048575
  last : k.lastSerial ≤ k.floor ∨ k.lastSerial ∈ k.spent

/-- The four key slots of a decoder are lawful. -/
structure LawfulKeys (d : Decoder) : Prop where
  key0 : LawfulKey d.key0
  key1 : LawfulKey d.key1
  key2 : LawfulKey d.key2
  key3 : LawfulKey d.key3

/-- Every key table that the part holds is lawful. -/
structure KeysLawful (s : State) : Prop where
  live : LawfulKeys s.decoder
  copyA : LawfulKeys s.store.image.setA.decoder.held
  copyB : LawfulKeys s.store.image.setB.decoder.held
  taken : ∀ w, s.store.writing = some w → LawfulKeys w.sections.decoder

/-! ## Energy registers (R29) -/

/-- The import total is the sum of the six band registers. -/
def SumsUp (e : Energy) : Prop :=
  e.total = e.bands.b0 + e.bands.b1 + e.bands.b2 + e.bands.b3 + e.bands.b4 + e.bands.b5

/-- Every set of energy registers that the part holds sums up. -/
structure EnergySumsUp (s : State) : Prop where
  live : SumsUp s.energy
  copyA : SumsUp s.store.image.setA.energy.held
  copyB : SumsUp s.store.image.setB.energy.held
  taken : ∀ w, s.store.writing = some w → SumsUp w.sections.energy

/-- No register of `e` stands above that of `f`. -/
structure NotAbove (e f : Energy) : Prop where
  total : e.total ≤ f.total
  b0 : e.bands.b0 ≤ f.bands.b0
  b1 : e.bands.b1 ≤ f.bands.b1
  b2 : e.bands.b2 ≤ f.bands.b2
  b3 : e.bands.b3 ≤ f.bands.b3
  b4 : e.bands.b4 ≤ f.bands.b4
  b5 : e.bands.b5 ≤ f.bands.b5
  exported : e.exported ≤ f.exported

/-! ## The supply switch (R137, R87, R109, R166) -/

/-- While reasons are handed, the acting set shown is the acting set of the reasons, the hold level and the levels as they
stand; and in CLOSED and in ARMED no disconnect reason is acting (R137). -/
structure SwitchSettled (s : State) : Prop where
  current : handing s = true → s.switch.acting = actingSet s
  closed : s.switch.contactor = .closed → s.switch.acting = Reasons.empty
  armed : s.switch.contactor = .armed → s.switch.acting = Reasons.empty

/-- While reasons are handed, the switch controller holds each reason as its block holds it (R87, R109, R166); and from the
restore of a start on, the CREDIT and TAMPER reasons are those that the account and the records give (R86, R166). -/
structure ReasonsAgree (s : State) : Prop where
  credit : handing s = true → s.switch.reasons.credit = s.credit.reason
  remote : handing s = true → s.switch.reasons.remote = s.decoder.remoteOrder
  tamper : handing s = true → s.switch.reasons.tamper = s.tamper.reason
  creditDerived : monitorReady s = true → s.credit.reason = creditReasonOf s.credit.account
  tamperDerived : monitorReady s = true → s.tamper.reason = tamperReasonOf s.tamper.records

/-! ## Reasons, levels and conditions (R135, R136, R140, R147) -/

/-- A reason is in a reason set. -/
def isIn : Governing → Reasons → Bool
  | .tamper, r => r.tamper
  | .remote, r => r.remote
  | .load, r => r.load
  | .credit, r => r.credit
  | .none, _ => false

/-- The level of a reason (R135). -/
def levelOf (p : Settings) : Governing → Nat
  | .tamper => 3
  | .remote => 3
  | .load => p.loadLevel
  | .credit => p.creditLevel
  | .none => 0

/-- The place of a reason among those of one level (R136). -/
def tieRank : Governing → Nat
  | .none => 0
  | .tamper => 1
  | .remote => 2
  | .load => 3
  | .credit => 4

/-- A reason is auto-permitted (the table of R147). -/
def autoPermitted (s : State) : Governing → Bool
  | .load => !s.switch.kept.loadLatch
  | .credit => s.settings.creditAutoClose = 1
  | _ => false

/-- What the supply switch controller forms from its inputs: the hold level (R135), the acting set, the held set and the
governing reason (R136), the permission of an automatic close (R147), and what confirms an attempt (R140). -/
structure SwitchRules (s : State) : Prop where
  hold : holdLevel s = s.switch.windowHold ∨ (s.switch.friendly = true ∧ holdLevel s = s.settings.friendlyHold)
  holdWindow : s.switch.windowHold ≤ holdLevel s
  holdFriendly : s.switch.friendly = true → s.settings.friendlyHold ≤ holdLevel s
  acting : ∀ r, isIn r (actingSet s) = true ↔ isIn r s.switch.reasons = true ∧ holdLevel s < levelOf s.settings r
  held : ∀ r, isIn r (heldSet s) = true ↔ isIn r s.switch.reasons = true ∧ levelOf s.settings r ≤ holdLevel s
  governs : ∀ r, LawfulSettings s.settings → governingReason s = r → r ≠ .none →
    isIn r (actingSet s) = true ∧ ∀ q, isIn q (actingSet s) = true → levelOf s.settings q < levelOf s.settings r ∨
      (levelOf s.settings q = levelOf s.settings r ∧ tieRank r ≤ tieRank q)
  quiet : governingReason s = .none ↔ ∀ r, isIn r (actingSet s) = false
  permitted : autoClosePermitted s = true ↔ s.switch.kept.manualClose = false ∧
    ∀ r, isIn r s.switch.kept.openedBy = true → autoPermitted s r = true
  opened : openCondition s = true ↔
    s.meter.loadSide.l1 = false ∧ s.meter.loadSide.l2 = false ∧ s.meter.loadSide.l3 = false
  closed : closeCondition s = true ↔
    (s.meter.supplySide.l1 = true ∨ s.meter.supplySide.l2 = true ∨ s.meter.supplySide.l3 = true) ∧
    (s.meter.supplySide.l1 = true → s.meter.loadSide.l1 = true) ∧
    (s.meter.supplySide.l2 = true → s.meter.loadSide.l2 = true) ∧
    (s.meter.supplySide.l3 = true → s.meter.loadSide.l3 = true)
  confirmed : attemptConfirmed .open s = openCondition s ∧ attemptConfirmed .close s = closeCondition s

/-! ## The work slots (R9) -/

/-- A slot number is in the intake list exactly while its owner byte reads POSTED, no number stands there twice, and the
slot that reads TAKEN is the slot in work, so that at most one does (R9, R10). -/
structure SlotsAgree (s : State) : Prop where
  slots : ∀ n ∈ s.intake.list, n < 16
  once : s.intake.list.Nodup
  posted : ∀ n, n < 16 → (ownerOf s.mem n = ownerPosted ↔ n ∈ s.intake.list)
  workSlot : ∀ w, s.intake.work = some w → w.slot < 16
  taken : ∀ n, n < 16 → (ownerOf s.mem n = ownerTaken ↔ ∃ w, s.intake.work = some w ∧ w.slot = n)

/-! ## The pages (R14) -/

/-- The generation counter is odd exactly while a publication is in progress. -/
def CounterTells (s : State) : Prop := generation s.mem % 2 = 1 ↔ s.attn.busy = true

/-! ## What a host finds in a slot (R12) -/

/-- Slot `n` holds a finished result: its owner byte reads DONE, with the result code and the item byte in place. -/
structure Finished (m : Memory) (n : Nat) (code : ResultCode) (item : Nat) : Prop where
  owner : ownerOf m n = ownerDone
  code : m.read (slotBase n + 4) = code.code
  item : m.read (slotBase n + 5) = BitVec.ofNat 8 item

/-- The result body of slot `n` begins with these bytes. -/
def BodyIs (m : Memory) (n : Nat) (bytes : List Byte) : Prop := m.readBytes (slotBase n + 6) bytes.length = bytes

/-! ## What a statement compares -/

/-- The parts of the state. -/
inductive Part where
  | queue
  | agenda
  | answer
  | mem
  | intake
  | attn
  | meter
  | energy
  | clock
  | book
  | credit
  | decoder
  | settings
  | window
  | switch
  | tamper
  | battery
  | store
  | supply
  | pins
  | catchUp
deriving DecidableEq, Repr

/-- A part of `t` is as it is in `s`. -/
def SamePart (s t : State) : Part → Prop
  | .queue => t.pending = s.pending
  | .agenda => t.agenda = s.agenda
  | .answer => t.link = s.link
  | .mem => t.mem = s.mem
  | .intake => t.intake = s.intake
  | .attn => t.attn = s.attn
  | .meter => t.meter = s.meter
  | .energy => t.energy = s.energy
  | .clock => t.clock = s.clock
  | .book => t.book = s.book
  | .credit => t.credit = s.credit
  | .decoder => t.decoder = s.decoder
  | .settings => t.settings = s.settings
  | .window => t.window = s.window
  | .switch => t.switch = s.switch
  | .tamper => t.tamper = s.tamper
  | .battery => t.battery = s.battery
  | .store => t.store = s.store
  | .supply => t.supply = s.supply
  | .pins => t.pins = s.pins
  | .catchUp => t.catchUp = s.catchUp

/-- Every part but those named is unchanged. -/
def SameExcept (ps : List Part) (s t : State) : Prop := ∀ p, p ∉ ps → SamePart s t p

/-- Bit `i` of ATTENTION has been marked between `s` and `t` (R17): it is due, or the publication that has begun carries it. -/
def Marks (s t : State) (i : Nat) : Prop :=
  t.attn.due.getLsbD i = true ∨ (s.attn.busy = false ∧ t.attn.inFlight.getLsbD i = true)

/-- No memory frame of this kind is in progress. -/
def NoFrame (write : Bool) (s : State) : Prop := ∀ f, s.link.frame = some f → f.write ≠ write

/-- A memory frame of this kind stands before a data byte for address `a`, where the link answers. -/
def InFrame (write : Bool) (a : Nat) (s : State) : Prop :=
  s.link.frame = some ⟨write, .data a⟩ ∧ a < 65536 ∧ s.supply.power ≠ .battery

/-! ## What the pages show (sections 11.3, 11.4 and 11.6)

Every field with its address, written from the tables of the Formats chapter. -/

/-- A yes-or-no quantity (R188). -/
def yes (b : Bool) : List Byte := [if b then 1 else 0]

/-- A set or mask, bit 0 first (R188). -/
def bits (l : List Bool) : Nat := (l.mapIdx fun i b => if b then 2 ^ i else 0).sum

/-- The codes of R16. -/
def powerCode : Power → Byte
  | .start => 0 | .mains => 1 | .holdup => 2 | .battery => 3

/-- The codes of R183. -/
def causeCode : StartCause → Byte
  | .powerOn => 0 | .mainsReturn => 1 | .resetPin => 2

/-- The codes of R79. -/
def ecCode : EcState → Byte
  | .unavailable => 0 | .offered => 1 | .inUse => 2 | .exhausted => 3

/-- The codes of R118. -/
def windowCode : WindowState → Byte
  | .closed => 0 | .opened => 1 | .committing => 2

/-- The codes of R118. -/
def endCode : EndCause → Byte
  | .none => 0 | .committed => 1 | .discarded => 2 | .expired => 3 | .holdup => 4

/-- The codes of R138. -/
def contactorCode : Contactor → Byte
  | .closed => 0 | .opening => 1 | .opened => 2 | .armed => 3 | .closing => 4 | .stuck => 5

/-- The codes of R136. -/
def governingCode : Governing → Byte
  | .none => 0 | .tamper => 1 | .remote => 2 | .load => 3 | .credit => 4

/-- The codes of R159. -/
def recordCode : TamperState → Byte
  | .clear => 0 | .active => 1 | .latched => 2

/-- A reason set (R188). -/
def reasonBits (r : Reasons) : List Byte := le 1 (bits [r.tamper, r.remote, r.load, r.credit])

/-- The supply, intake and retention fields, from 0x0004. -/
def supplyShown (s : State) : List (Nat × List Byte) :=
  [(0x0004, [powerCode s.supply.power]), (0x0005, [causeCode s.supply.cause]), (0x0006, [s.supply.failed]),
   (0x0007, yes s.supply.batteryLow), (0x0008, le 1 s.intake.list.length),
   (0x0009, match s.intake.work with | none => [0xFF] | some w => le 1 w.slot),
   (0x000A, le 1 (bits [s.store.writing.isSome, s.store.requested])), (0x000B, le 2 s.store.periodic),
   (0x000D, le 4 s.store.lastNumber.toNat)]

/-- The metering fields. -/
def meterShown (s : State) : List (Nat × List Byte) :=
  let m := s.meter
  let wh (e : Nat) : List Byte := le 8 (e / 1000000)
  [(0x0014, le 2 m.voltage.l1), (0x0016, le 2 m.voltage.l2), (0x0018, le 2 m.voltage.l3),
   (0x001A, le 4 m.current.l1), (0x001E, le 4 m.current.l2), (0x0022, le 4 m.current.l3),
   (0x0026, le 4 m.neutral), (0x002A, le 4 m.residual), (0x002E, le 4 m.frequency),
   (0x0032, leSigned 4 m.power.l1), (0x0036, leSigned 4 m.power.l2), (0x003A, leSigned 4 m.power.l3),
   (0x003E, le 4 m.measured), (0x0042, le 4 m.billed), (0x0046, le 1 m.band),
   (0x0047, le 1 (bits [m.supplySide.l1, m.supplySide.l2, m.supplySide.l3, false, m.loadSide.l1, m.loadSide.l2,
     m.loadSide.l3])),
   (0x0048, yes m.substituted), (0x0049, le 1 m.law),
   (0x004A, le 1 (bits [m.reverse.reported, m.voltageTap.reported, m.bypass.reported])),
   (0x0050, wh s.energy.total), (0x0058, wh s.energy.bands.b0), (0x0060, wh s.energy.bands.b1),
   (0x0068, wh s.energy.bands.b2), (0x0070, wh s.energy.bands.b3), (0x0078, wh s.energy.bands.b4),
   (0x0080, wh s.energy.bands.b5), (0x0088, wh s.energy.exported)]

/-- The calendar fields. -/
def calendarShown (s : State) : List (Nat × List Byte) :=
  let c := s.book.active
  let date := localDate s.clock.time c
  [(0x0090, le 4 s.clock.time), (0x0094, le 2 date), (0x0096, le 2 (minuteOfDay s.clock.time c)),
   (0x0098, le 1 (dayType c date)), (0x0099, yes (!s.clock.certain)), (0x009A, yes (s.clock.source = .backup)),
   (0x009B, yes s.switch.friendly), (0x009C, match s.book.lastCharged with | none => [0xFF, 0xFF] | some d => le 2 d),
   (0x009E, le 2 c.id)] ++
  match s.book.passive with
  | none => []
  | some p => [(0x00A0, [1]), (0x00A1, le 2 p.id), (0x00A3, le 4 p.activation)]

/-- The credit fields. -/
def creditShown (s : State) : List (Nat × List Byte) :=
  let c := s.credit
  let a := c.account
  let n := a.balance.natAbs
  [(0x00A8, leSigned 8 a.balance), (0x00B0, yes (a.balance < 0)),
   (0x00B1, (List.range 7).map fun k =>
     BitVec.ofNat 8 (16 * (n / 10 ^ (13 - 2 * k) % 10) + n / 10 ^ (12 - 2 * k) % 10)),
   (0x00B8, le 4 a.residue), (0x00BC, le 8 a.debt), (0x00C4, le 4 a.grant), (0x00C8, leSigned 8 (a.balance + a.grant)),
   (0x00D0, [ecCode c.ecState]), (0x00D1, yes c.lowCredit), (0x00D2, yes c.reason),
   (0x00D3, le 1 (bits [a.balFloor, a.debtLimit, a.energySat, a.supplyLoss])),
   (0x00D4, le 1 c.lastCharge.band), (0x00D5, le 3 c.lastCharge.price), (0x00D8, le 2 c.lastCharge.charged),
   (0x00DA, le 2 c.lastCharge.unbilled), (0x00DC, le 4 c.lastDayEnd.standing), (0x00E0, le 4 c.lastDayEnd.recovered),
   (0x00E4, le 8 a.credited), (0x00EC, le 8 a.recoveredTopup), (0x00F4, le 8 a.energyCharged),
   (0x00FC, le 8 a.standingCharged), (0x0104, le 8 a.recoveredDaily), (0x010C, le 8 a.unbilled),
   (0x0114, le 8 a.debtAdded), (0x011C, le 8 a.debtRecovered)]

/-- A key slot's twelve bytes. The key value is none of them (R93). -/
def keyShown (base : Nat) (k : KeySlot) : List (Nat × List Byte) :=
  [(base, le 1 (k.authority + if k.present then 128 else 0)), (base + 1, le 1 k.revision),
   (base + 2, le 1 k.spent.length), (base + 3, le 3 k.expiry), (base + 6, le 3 k.floor), (base + 9, le 3 k.lastSerial)]

/-- A settings record: the value of id n at 3 × (n − 1). -/
def settingsShown (base : Nat) (p : Settings) : List (Nat × List Byte) :=
  (List.range 19).map fun i => (base + 3 * i, le 3 (p.toList.getD i 0))

/-- The decoder's, the window's and the settings' fields. -/
def codesShown (s : State) : List (Nat × List Byte) :=
  let d := s.decoder
  keyShown 0x0124 d.key0 ++ keyShown 0x0130 d.key1 ++ keyShown 0x013C d.key2 ++ keyShown 0x0148 d.key3 ++
  [(0x0154, le 1 d.badCount), (0x0155, yes d.remoteOrder), (0x0156, le 2 d.lockout),
   (0x0158, le 1 d.lastToken.source), (0x0159, le 1 d.lastToken.slot), (0x015A, le 1 d.lastToken.cls),
   (0x015B, le 3 d.lastToken.serial), (0x015E, [windowCode s.window.state]), (0x015F, le 1 s.window.rank),
   (0x0160, le 2 s.window.remaining), (0x0162, [endCode s.window.cause])] ++
  settingsShown 0x0167 s.settings ++
  match s.window.staged with
  | none => []
  | some p => [(0x0163, [1]), (0x0164, le 3 (bits (List.zipWith (· != ·) p.toList s.settings.toList)))] ++
      settingsShown 0x01A0 p

/-- The supply switch's fields. -/
def switchShown (s : State) : List (Nat × List Byte) :=
  let w := s.switch
  [(0x01D9, [contactorCode w.contactor]), (0x01DA, le 1 w.attemptCount), (0x01DB, yes w.kept.commandedClosed),
   (0x01DC, [governingCode w.governing]), (0x01DD, reasonBits w.reasons), (0x01DE, reasonBits w.acting),
   (0x01DF, reasonBits w.held), (0x01E0, le 1 w.hold), (0x01E1, le 1 (if w.friendly then s.settings.friendlyHold else 0)),
   (0x01E2, le 1 w.windowHold), (0x01E3, reasonBits w.kept.openedBy), (0x01E4, yes w.kept.manualClose),
   (0x01E5, yes (autoClosePermitted s)), (0x01E6, yes w.fault), (0x01E7, le 1 w.stuckTimer), (0x01E8, le 2 w.overCount),
   (0x01EA, le 1 w.kept.tripCount), (0x01EB, le 2 w.retryTimer), (0x01ED, yes w.kept.loadLatch), (0x01EE, le 2 w.cleanRun)]

/-- A tamper record's 32 bytes (section 11.4). -/
def recordShown (base : Nat) (r : TamperRecord) : List (Nat × List Byte) :=
  [(base, [recordCode r.state]), (base + 1, yes r.disconnect), (base + 2, le 2 r.count), (base + 4, le 4 r.firstTime),
   (base + 8, le 8 r.firstImport), (base + 16, leSigned 8 r.firstBalance), (base + 24, le 4 r.lastTime),
   (base + 28, le 4 r.lastEnd)]

/-- The tamper monitor's fields, on the status page and on the tamper page. (That a raw-level bit reads 1 for a High pin is the
model's choice, log entry 38.) -/
def tamperShown (s : State) : List (Nat × List Byte) :=
  let x := s.tamper
  [(0x01F0, yes x.reason), (0x01F1, le 2 (bits (x.records.toList.map (·.state == .active)))),
   (0x01F3, le 2 (bits (x.records.toList.map (·.state == .latched)))),
   (0x01F5, le 1 (bits [x.caseIn.qualified, x.coverIn.qualified, x.magIn.qualified, false, x.caseIn.raw, x.coverIn.raw,
     x.magIn.raw])),
   (0x01F6, le 3 s.settings.caseInput), (0x01F9, le 3 s.settings.coverInput), (0x01FC, le 3 s.settings.magnetInput)] ++
  (List.finRange 10).flatMap fun k => recordShown (0x0600 + 32 * k.val) x.records[k]

/-- A calendar's view (section 11.6), its lists in their 24, 16 and 8 places. -/
def viewShown (base : Nat) (c : Tariff) : List (Nat × List Byte) :=
  [(base, le 2 c.id), (base + 0x02, leSigned 2 c.offset), (base + 0x04, le 4 c.prices.b0), (base + 0x08, le 4 c.prices.b1),
   (base + 0x0C, le 4 c.prices.b2), (base + 0x10, le 4 c.prices.b3), (base + 0x14, le 4 c.prices.b4),
   (base + 0x18, le 4 c.prices.b5), (base + 0x1C, le 1 c.defaultBand), (base + 0x1D, le 1 c.switchPoints.length),
   (base + 0x1E, le 1 c.holidays.length), (base + 0x1F, le 1 c.windows.length), (base + 0x20, le 4 c.standing),
   (base + 0x24, le 4 c.activation), (base + 0x28, [1])] ++
  ((c.switchPoints.take 24).mapIdx fun i p => (base + 0x30 + 4 * i, [p.mask] ++ le 2 p.minute ++ le 1 p.band)) ++
  ((c.holidays.take 16).mapIdx fun i h => (base + 0x90 + 4 * i, le 2 h.year ++ le 1 h.month ++ le 1 h.day)) ++
  (c.windows.take 8).mapIdx fun i w => (base + 0xD0 + 5 * i, [w.mask] ++ le 2 w.start ++ le 2 w.stop)

/-- Every field of the part-owned pages but the generation counter, each with its address. -/
def pageFields (s : State) : List (Nat × List Byte) :=
  supplyShown s ++ meterShown s ++ calendarShown s ++ creditShown s ++ codesShown s ++ switchShown s ++ tamperShown s ++
  viewShown 0x0C00 s.book.active ++
  match s.book.passive with
  | none => []
  | some c => viewShown 0x1000 c

/-- The part-owned pages show the state as it stands (R14, R188): every field at its address, and 0x00 in every byte that
belongs to none. (That the passive calendar's id and activation time read 0x00 while there is none is the model's choice, log
entry 40; a raw level's bit, entry 38; the figures of a partial interval before any full one, entry 47.) -/
structure PagesShow (s : State) : Prop where
  fields : ∀ f ∈ pageFields s, s.mem.readBytes f.1 f.2.length = f.2
  gaps : ∀ a, inPages a = true → 4 ≤ a → (∀ f ∈ pageFields s, a < f.1 ∨ f.1 + f.2.length ≤ a) → s.mem.read a = 0

/-! ## The calendar image (R52, R189, section 11.6) -/

/-- The unsigned number in `n` bytes of the memory from address `a` on, the least significant byte first (R188). -/
def number (m : Memory) (a n : Nat) : Nat := ((List.range n).map fun i => (m.read (a + i)).toNat * 256 ^ i).sum

/-- The calendar image holds the calendar `c`: every field at its offset (section 11.6), each read whole (R189). -/
structure ImageHolds (m : Memory) (c : Tariff) : Prop where
  id : c.id = number m 0x0800 2
  offset : c.offset = if number m 0x0802 2 < 32768 then (number m 0x0802 2 : Int) else (number m 0x0802 2 : Int) - 65536
  prices : c.prices = ⟨number m 0x0804 4, number m 0x0808 4, number m 0x080C 4, number m 0x0810 4, number m 0x0814 4,
    number m 0x0818 4⟩
  defaultBand : c.defaultBand = number m 0x081C 1
  counts : c.switchPoints.length = number m 0x081D 1 ∧ c.holidays.length = number m 0x081E 1 ∧
    c.windows.length = number m 0x081F 1
  standing : c.standing = number m 0x0820 4
  activation : c.activation = number m 0x0824 4
  points : ∀ (i : Nat) (p : SwitchPoint), c.switchPoints[i]? = some p →
    p = ⟨m.read (0x0830 + 4 * i), number m (0x0831 + 4 * i) 2, number m (0x0833 + 4 * i) 1⟩
  holidays : ∀ (i : Nat) (h : Holiday), c.holidays[i]? = some h →
    h = ⟨number m (0x0890 + 4 * i) 2, number m (0x0892 + 4 * i) 1, number m (0x0893 + 4 * i) 1⟩
  windows : ∀ (i : Nat) (x : FriendlyWindow), c.windows[i]? = some x →
    x = ⟨m.read (0x08D0 + 5 * i), number m (0x08D1 + 5 * i) 2, number m (0x08D3 + 5 * i) 2⟩

/-- The item of the first of some conditions that does not hold. -/
def firstItem : List (Nat × Bool) → Nat
  | [] => 0
  | (item, fine) :: rest => if fine then firstItem rest else item

/-- The fields of a calendar in the order of step 3 of R52, each with its item and whether it is in its range of R47. -/
def fieldItems (c : Tariff) : List (Nat × Bool) :=
  [(0xF0, decide (-720 ≤ c.offset ∧ c.offset ≤ 840)), (0xF1, decide (c.prices.b0 ≤ 999999)),
   (0xF2, decide (c.prices.b1 ≤ 999999)), (0xF3, decide (c.prices.b2 ≤ 999999)), (0xF4, decide (c.prices.b3 ≤ 999999)),
   (0xF5, decide (c.prices.b4 ≤ 999999)), (0xF6, decide (c.prices.b5 ≤ 999999)), (0xF7, decide (c.defaultBand ≤ 5)),
   (0xF8, decide (c.standing ≤ 10000000))] ++
  (c.switchPoints.mapIdx fun i p => (0x10 + i, decide (p.minute ≤ 1439 ∧ p.band ≤ 5))) ++
  (c.holidays.mapIdx fun j h => (0x40 + j, decide (h.year = 0 ∨ (2000 ≤ h.year ∧ h.year ≤ 2135)))) ++
  c.windows.mapIdx fun k x => (0x60 + k, decide (x.start ≤ 1439 ∧ x.start < x.stop ∧ x.stop ≤ 1440))

/-- The holidays in the order of step 4 of R52, each with its item and whether its date exists. -/
def dateItems (c : Tariff) : List (Nat × Bool) :=
  c.holidays.mapIdx fun j h =>
    (0x40 + j, decide (1 ≤ h.month ∧ h.month ≤ 12 ∧ 1 ≤ h.day ∧ h.day ≤ daysIn h.year h.month))

/-- The switch points in the order of step 5 of R52, each with its item and whether it shares no minute and day type with an
earlier one. -/
def pointItems (c : Tariff) : List (Nat × Bool) :=
  c.switchPoints.mapIdx fun i p =>
    (0x10 + i, decide (∀ q ∈ c.switchPoints.take i, p.minute = q.minute → p.mask &&& q.mask = 0))

/-! ## Local time and what a calendar says of it (R41, R48 to R50) -/

/-- The date after a date (Conventions). -/
def nextDate (x : CivilDate) : CivilDate :=
  if x.day < daysIn x.year x.month then { x with day := x.day + 1 }
  else if x.month < 12 then ⟨x.year, x.month + 1, 1⟩
  else ⟨x.year + 1, 1, 1⟩

/-- The local dates of meter time and their days: date 0 is 2000-01-01, each next date its next day, and 49,710 the last one
that meter time and an offset reach (R40, R41, Conventions). -/
def CivilDates : Prop :=
  civilDate 0 = ⟨2000, 1, 1⟩ ∧ ∀ d, d < 49710 → civilDate (d + 1) = nextDate (civilDate d)

/-- What a calendar says of a meter time: local date and minute of day (R41), day type (R48), band in force (R49) and
friendly period (R50). -/
structure CalendarSays (c : Tariff) (now : Nat) : Prop where
  date : localDate now c = ((now : Int) + 60 * c.offset).toNat / 86400
  minute : minuteOfDay now c = ((now : Int) + 60 * c.offset).toNat % 86400 / 60
  holiday : ∀ d, (∃ h ∈ c.holidays, h.month = (civilDate d).month ∧ h.day = (civilDate d).day ∧
    (h.year = 0 ∨ h.year = (civilDate d).year)) → dayType c d = 7
  weekday : ∀ d, (∀ h ∈ c.holidays, ¬(h.month = (civilDate d).month ∧ h.day = (civilDate d).day ∧
    (h.year = 0 ∨ h.year = (civilDate d).year))) → dayType c d = (d + 5) % 7
  point : ∀ p ∈ c.switchPoints, p.mask.getLsbD (dayType c (localDate now c)) = true → p.minute ≤ minuteOfDay now c →
    (∀ q ∈ c.switchPoints, q.mask.getLsbD (dayType c (localDate now c)) = true → q.minute ≤ minuteOfDay now c →
      q = p ∨ q.minute < p.minute) → bandAt c now = p.band
  default : (∀ p ∈ c.switchPoints, p.mask.getLsbD (dayType c (localDate now c)) = true → minuteOfDay now c < p.minute) →
    bandAt c now = c.defaultBand
  friendly : friendlyPeriod c now = true ↔ ∃ w ∈ c.windows,
    w.mask.getLsbD (dayType c (localDate now c)) = true ∧ w.start ≤ minuteOfDay now c ∧ minuteOfDay now c < w.stop

/-! ## An entry in work -/

/-- The entry in work stands in a slot of its own among those that wait: the waiting numbers are slots other than its own.
(`SlotsAgree` gives this.) -/
structure OwnSlot (s : State) (w : Work) : Prop where
  canonical : s.mem.wf = true
  slot : w.slot < 16
  waiting : ∀ n ∈ s.intake.list, n < 16 ∧ n ≠ w.slot

/-- The entry `w` has just been taken, and its step is the next one due, with none behind it. -/
structure Taken (s : State) (w : Work) : Prop extends OwnSlot s w where
  work : s.intake.work = some w
  stage : w.stage = .handed
  due : s.agenda = [dueOf w]

/-- The publication that a completion makes (R12, R14): at once where none is in progress, else behind the one in
progress, with SLOT_DONE due at its end. -/
structure TellsDone (s t : State) : Prop where
  bits : t.attn.bits = s.attn.bits
  mask : t.attn.mask = s.attn.mask
  busy : t.attn.busy = true
  now : s.attn.busy = false → t.attn.inFlight.getLsbD 0 = true
  later : s.attn.busy = true → t.attn.queued = true ∧ t.attn.due.getLsbD 0 = true ∧
    ∀ a, inPages a = true → t.mem.read a = s.mem.read a

/-- The next entry is taken as the slot in work becomes none (R10, R12): the head of the list while the intake is open;
its step is then due. -/
structure TakesNext (s t : State) : Prop where
  head : ∀ n rest, s.intake.list = n :: rest → s.intake.ready = true →
    t.intake = ⟨rest, some (takenWork s.mem n), true⟩ ∧ ownerOf t.mem n = ownerTaken ∧
      t.agenda = [dueOf (takenWork s.mem n)]
  none : s.intake.list = [] ∨ s.intake.ready = false →
    t.intake = { s.intake with work := none } ∧ t.agenda = []

/-- The entry `w` completes between `s` and `t` with a result (R12): the whole slot, what follows at once, and every other
byte of the memory. -/
structure Completes (s t : State) (w : Work) (code : ResultCode) (item : Nat) (body : List Byte) : Prop
    extends TellsDone s t, TakesNext s t where
  finished : Finished t.mem w.slot code item
  body : t.mem.readBytes (slotBase w.slot + 6) 58 = body ++ List.replicate (58 - body.length) 0
  tag : t.mem.readBytes (slotBase w.slot + 2) 2 = [w.byteAt 2, w.byteAt 3]
  kind : t.mem.read (slotBase w.slot + 1) = s.mem.read (slotBase w.slot + 1)
  others : ∀ a, inPages a = false → (a < slotBase w.slot ∨ slotBase w.slot + 64 ≤ a) →
    (∀ n ∈ s.intake.list.head?, s.intake.ready = true → a ≠ slotBase n) → t.mem.read a = s.mem.read a

/-- The publication begins with the state as `t` has it (R14): the pages change as one at its beginning, and at a completion
before the next entry is decided. (The model's choice, log entries 4 and 46.) -/
def Publishes (s t : State) : Prop :=
  s.attn.busy = false → PagesShow t ∧ generation t.mem = (generation s.mem + 1) % 2 ^ 32

/-- A write request finds the store idle, and outside the steps of a start before its start write (R180, R183). -/
def StoreFree (s : State) : Prop := s.store.writing = none ∧ ¬(s.supply.power = .start ∧ s.supply.startStep < 4)

/-- A retention write is requested between `s` and `t` (R180): in an idle store it begins at once, taking the sections `x`
under the next number into the set that does not hold the last completed write; else the request is pending. -/
structure StoreAsked (s t : State) (x : Sections) : Prop where
  begun : StoreFree s →
    t.store = { s.store with
      writing := some ⟨s.store.lastNumber + 1, s.store.lastSet.target, x⟩
      requested := false
      periodic := 0 } ∧
    t.supply = { s.supply with resetWrite := s.supply.resetWrite.begun }
  pending : ¬StoreFree s → t.store = { s.store with requested := true } ∧ t.supply = s.supply

/-- The requesters after a request (R180): one that waited for a write to begin waits on it once it has begun. -/
structure RequestersTold (s t : State) (i : Intake) : Prop where
  begun : StoreFree s → t.intake = { i with work := i.work.map fun w => { w with stage := w.stage.writeBegun } }
  pending : ¬StoreFree s → t.intake = i

/-- The entry `w` now waits for the retention write that its acceptance requests, to complete with `r` (R92, R51, R126). The
write takes every section as `t` holds it. -/
structure AwaitsWrite (s t : State) (w : Work) (r : Result) : Prop extends StoreAsked s t (sectionsOf t) where
  intake : RequestersTold s t { s.intake with work := some { w with stage := .waiting .next r } }

/-! ## One evaluation (R137) -/

/-- A record that stops being ACTIVE at a meter time (R160). -/
def goneAt (time : Nat) (r : TamperRecord) : TamperRecord :=
  if r.state = .active then { r with state := .latched, lastEnd := time } else r

/-- The contactor state that one evaluation between `s` and `t` leaves (the table of R137, with R146 in STUCK). -/
def contactorAfter (s t : State) : Contactor :=
  let quiet : Bool := actingSet t = Reasons.empty
  match s.switch.contactor with
  | .closed => if quiet then .closed else .opening
  | .opened => if !quiet then .opened else if autoClosePermitted s then .closing else .armed
  | .armed => if !quiet then .opened else if autoClosePermitted s then .closing else .armed
  | .stuck => if quiet && s.switch.attempt = .idle && closeCondition t then .closed else .stuck
  | .opening => .opening
  | .closing => .closing

/-- The operation that begins between `s` and `t`. -/
def begins (s t : State) : Option Winding :=
  if t.switch.contactor = s.switch.contactor then none
  else match t.switch.contactor with
  | .opening => some .open
  | .closing => some .close
  | _ => none

/-- A coil pulse begins at once: in MAINS and in START (R139, R154). -/
def driven (s : State) : Bool := s.supply.power = .mains || s.supply.power = .start

/-- STUCK has turned to CLOSED between `s` and `t` (R146). -/
def released (s t : State) : Bool := s.switch.contactor = .stuck && t.switch.contactor = .closed

/-- One evaluation lies between `s`, in which a reason, a level or a hold contribution has its new value already, and `t`. It
names every field of the switch controller, the SWITCH attention that a changed contactor state or governing reason marks
(R137), and the tamper monitor, whose SWITCH record alone it can reach (R146). -/
structure Evaluated (s t : State) : Prop where
  inputs : t.switch.reasons = s.switch.reasons ∧ t.switch.friendly = s.switch.friendly ∧
    t.switch.windowHold = s.switch.windowHold
  hold : t.switch.hold = holdLevel t
  acting : t.switch.acting = actingSet t
  held : t.switch.held = heldSet t
  governing : t.switch.governing = governingReason t
  contactor : t.switch.contactor = contactorAfter s t
  pulse : ∀ w, begins s t = some w → driven s = true →
    t.switch.attempt = .pulse w ∧ t.switch.attemptCount = s.switch.attemptCount + 1
  deferred : ∀ w, begins s t = some w → driven s = false →
    t.switch.attempt = .deferred w ∧ t.switch.attemptCount = s.switch.attemptCount
  still : begins s t = none → t.switch.attempt = s.switch.attempt ∧ t.switch.attemptCount = s.switch.attemptCount
  kept : t.switch.kept = { s.switch.kept with
    openedBy := if released s t then Reasons.empty else s.switch.kept.openedBy.union (actingSet t)
    manualClose := s.switch.kept.manualClose && !released s t
    commandedClosed :=
      if released s t then true
      else match begins s t with
        | none => s.switch.kept.commandedClosed
        | some w => if driven s then decide (w = .close) else s.switch.kept.commandedClosed }
  fault : t.switch.fault = (s.switch.fault && !released s t)
  cleanRun : t.switch.cleanRun = if released s t then 0 else s.switch.cleanRun
  timers : t.switch.stuckTimer = s.switch.stuckTimer ∧ t.switch.overCount = s.switch.overCount ∧
    t.switch.retryTimer = s.switch.retryTimer
  seen : t.switch.seenContactor = t.switch.contactor ∧ t.switch.seenGoverning = t.switch.governing
  told : t.switch.contactor ≠ s.switch.seenContactor ∨ t.switch.governing ≠ s.switch.seenGoverning → Marks s t 1
  tamper : t.tamper =
    if released s t && s.switch.fault then
      let r := goneAt t.clock.time s.tamper.records[kindSwitch]
      { s.tamper with records := s.tamper.records.set kindSwitch r }
    else s.tamper

/-- A change is handed to the switch controller between `s` and `t`, or none is: `v` is `s` with the change in place. -/
structure HandOff (s v t : State) (moved : Prop) : Prop where
  evaluated : moved → Evaluated v t
  otherwise : ¬moved → t.switch = s.switch ∧ t.tamper = v.tamper

/-- The state with another reason set. -/
def withReasons (s : State) (r : Reasons) : State := { s with switch := { s.switch with reasons := r } }

/-- A change of the EC state, the low-credit flag or the CREDIT reason between `s` and `t` marks CREDIT attention (R88). -/
def CreditTold (s t : State) : Prop :=
  t.credit.ecState ≠ s.credit.ecState ∨ t.credit.lowCredit ≠ s.credit.lowCredit ∨ t.credit.reason ≠ s.credit.reason →
    Marks s t 2

/-- The CREDIT reason `on` reaches the switch controller between `s` and `t`, if it is a change (R86, R87), and CREDIT attention
is marked where the derived state changes (R88). -/
structure CreditHanded (s t : State) (on : Bool) : Prop extends
    HandOff s (withReasons s { s.switch.reasons with credit := on }) t
      (on ≠ s.credit.reason ∧ s.switch.reasons.credit ≠ on) where
  told : CreditTold s t

/-! ## Tamper records (R160, R161, R165, R166) -/

/-- A record as a present report leaves it (R160, R165), at a meter time, with the import total in whole Wh, the balance and the
kind's action as they stand. -/
def presentAt (time wh : Nat) (balance : Int) (action : Bool) (r : TamperRecord) : TamperRecord :=
  match r.state with
  | .active => r
  | .clear =>
    { state := .active
      firstTime := time
      firstImport := wh
      firstBalance := balance
      lastTime := time
      lastEnd := 0
      count := 1
      disconnect := action }
  | .latched =>
    { r with state := .active, count := min 65535 (r.count + 1), lastTime := time, disconnect := action }

/-- The record of a kind as a present report leaves it. -/
def presentRecord (s : State) (k : Fin 10) : TamperRecord :=
  presentAt s.clock.time (s.energy.total / 1000000) s.credit.account.balance (s.settings.tamperActions.testBit k)
    s.tamper.records[k]

/-- The record of a kind as a gone report leaves it. -/
def goneRecord (s : State) (k : Fin 10) : TamperRecord := goneAt s.clock.time s.tamper.records[k]

/-- The tamper records after a present report of kind `k`. -/
def presentRecords (s : State) (k : Fin 10) : Vector TamperRecord 10 := s.tamper.records.set k (presentRecord s k)

/-- The state with records in place, the TAMPER reason as they give it, and the reason set with it where it is handed on. -/
def withRecords (s : State) (rs : Vector TamperRecord 10) (handed : Bool) : State :=
  { s with
    tamper := { s.tamper with records := rs, reason := tamperReasonOf rs }
    switch := { s.switch with reasons :=
      if handed then { s.switch.reasons with tamper := tamperReasonOf rs } else s.switch.reasons } }

/-- Tamper records change between `s` and `t`: the TAMPER reason follows them, and a change of it is handed on while reasons
are handed (R166, R167). -/
def RecordsChanged (s t : State) (rs : Vector TamperRecord 10) : Prop :=
  HandOff s (withRecords s rs true) t
    (handing s = true ∧ tamperReasonOf rs ≠ s.tamper.reason ∧ s.switch.reasons.tamper ≠ tamperReasonOf rs)

/-- A present report of kind `k` between `s` and `t` that finds its record not ACTIVE (R160, R161): TAMPER attention due, a
retention write asked for with the records in it, and the TAMPER reason derived. -/
structure Entered (s t : State) (k : Fin 10) : Prop extends
    StoreAsked s t { sectionsOf s with records := presentRecords s k } where
  requesters : RequestersTold s t s.intake
  due : t.attn.due.getLsbD 3 = true
  records : RecordsChanged s t (presentRecords s k)

/-! ## Tokens (R97, R98, R100, R103) -/

/-- The class of a plaintext: bits 71 to 68. -/
def tokenClass (p : Block) : Nat := (p.extractLsb' 68 4).toNat

/-- The serial of a plaintext: bits 67 to 48. -/
def tokenSerial (p : Block) : Nat := (p.extractLsb' 48 20).toNat

/-- The payload of a plaintext: bits 47 to 16. -/
def tokenPayload (p : Block) : Nat := (p.extractLsb' 16 32).toNat

/-- The check field of a plaintext is the CRC-16 of its bits 71 to 16. -/
def Genuine (p : Block) : Prop := p.extractLsb' 0 16 = crc16 (messageBits p)

/-- The key slot that a TOKEN entry selects, as it stands. -/
def tokenKey (s : State) (w : Work) : KeySlot := s.decoder.key w.selector

/-- The TOKEN entry `w` is in its decode, which ends with the plaintext `p`: the body block is T_K of it. -/
structure DecodeEnds (s : State) (w : Work) (p : Block) : Prop extends OwnSlot s w where
  work : s.intake.work = some w
  stage : w.stage = .decoding
  idle : s.agenda = []
  power : s.supply.power = .mains ∨ s.supply.power = .holdup
  body : BitVec.ofNat 72 w.bodyValue = Config.transform (tokenKey s w).key p

/-- The common fields of a result whose plaintext is genuine (R103). -/
def tokenHead (s : State) (w : Work) (p : Block) : List Byte :=
  le 1 w.source ++ le 1 w.selector ++ le 1 (tokenKey s w).revision ++ le 1 (tokenClass p) ++ le 3 (tokenSerial p)

/-- The common fields of a result whose plaintext is not known to be genuine (R103). -/
def bareHead (s : State) (w : Work) : List Byte :=
  le 1 w.source ++ le 1 w.selector ++ le 1 (tokenKey s w).revision ++ [0xFF, 0, 0, 0]

/-- Checks 9 and 10 of R100, in their order: the code of the first one that fails. -/
def serialCheck (k : KeySlot) (cls serial min : Nat) : Option ResultCode :=
  if k.authority < min then some .authority
  else if cls = 0 then (if serial = 0 then none else some .serialForm)
  else if serial = 0 then some .serialForm
  else if serial ≤ k.floor ∧ serial ≠ k.lastSerial then some .serialOld
  else if serial = k.lastSerial ∨ serial ∈ k.spent then some .serialUsed
  else if k.floor + 1024 < serial then some .serialAhead
  else none

/-- A token of class `cls` comes to the checks of its class: its decode ends, checks 7 and 8 let it pass, and 9 and 10 do so
against the class's minimum authority. -/
structure Passes (s : State) (w : Work) (p : Block) (cls min : Nat) : Prop extends DecodeEnds s w p where
  genuine : Genuine p
  named : tokenClass p = cls
  checks : serialCheck (tokenKey s w) cls (tokenSerial p) min = none

/-- A token of class `cls` is refused at its apply with `code` and `item`: nothing but its slot, the intake and the
publication changes. -/
def TokenRefused (c : Instr) (s : State) (w : Work) (p : Block) (code : ResultCode) (item : Nat) : Prop :=
  ∃ t, exec c s = .next t ∧ Completes s t w code item (tokenHead s w p) ∧ Publishes s t ∧
    SameExcept [.mem, .intake, .attn, .agenda] s t

/-- The key table and the rest of the decoder after an accepted token (R96, R102): its serial spent in the decoding slot, the
bad-code count 0, and the token recorded. -/
def acceptedDecoder (s : State) (w : Work) (p : Block) : Decoder :=
  { s.decoder.setKey w.selector ((tokenKey s w).spend (tokenSerial p)) with
    badCount := 0
    lastToken := ⟨w.source, w.selector, tokenClass p, tokenSerial p⟩ }

/-- A token is accepted between `s` and `t` (R102): beside the parts that its effect changes, the decoder records it and the
entry waits for the retention write that is asked for, to complete with these class fields. -/
structure TokenAccepted (s t : State) (w : Work) (p : Block) (fields : List Byte) (parts : List Part) : Prop extends
    AwaitsWrite s t w ⟨.accepted, 0, tokenHead s w p ++ fields⟩ where
  frame : SameExcept ([.intake, .attn, .store, .supply, .decoder] ++ parts) s t

/-- The ten classes, each with its row, its code and its minimum authority (section 6.6). The authority that a SETTING
needs is that of its setting, and is checked with its class (R101). -/
def tokenRows : List (Instr × Nat × Nat) :=
  [(.test, 0, 1), (.credit, 1, 1), (.debtAdd, 2, 3), (.clear, 3, 3), (.setting, 4, 0), (.windowOpen, 5, 2),
    (.tamperClear, 6, 2), (.keyChange, 7, 3), (.remoteOpen, 8, 3), (.remoteClose, 9, 3)]

/-! ## The retention image (R179, R180) -/

/-- The copy set that a write leaves holds every section it took, under its number. -/
def HoldsWrite (c : CopySet) (w : Write) : Prop :=
  c.account = ⟨w.number, true, w.sections.account⟩ ∧ c.energy = ⟨w.number, true, w.sections.energy⟩ ∧
  c.decoder = ⟨w.number, true, w.sections.decoder⟩ ∧ c.settings = ⟨w.number, true, w.sections.settings⟩ ∧
  c.book = ⟨w.number, true, w.sections.book⟩ ∧ c.switch = ⟨w.number, true, w.sections.switch⟩ ∧
  c.records = ⟨w.number, true, w.sections.records⟩ ∧ c.time = ⟨w.number, true, w.sections.time⟩

/-- The image after the completed write `w`: its set and the completion slot not written last hold it, the other set and the
other slot are as they were. (Where neither slot has been written yet it is slot 0: the model's choice, log entry 30.) -/
structure ImageTook (i j : Image) (w : Write) : Prop where
  written : HoldsWrite (j.get w.target) w
  otherA : w.target = .b → j.setA = i.setA
  otherB : w.target = .a → j.setB = i.setB
  slot0 : i.lastSlot ≠ some .slot0 → j.slot0 = ⟨w.number, true⟩ ∧ j.slot1 = i.slot1 ∧ j.lastSlot = some .slot0
  slot1 : i.lastSlot = some .slot0 → j.slot1 = ⟨w.number, true⟩ ∧ j.slot0 = i.slot0 ∧ j.lastSlot = some .slot1

/-- What a section holds after a start (R179): the copy that passes, of two that pass the one with the higher write number, and
its factory value where none does. -/
def Chosen {α : Type} (l : LastWrite) (a b : Copy α) (factory x : α) : Prop :=
  if a.passes l = true ∧ (b.passes l = false ∨ above b.number a.number = false) then x = a.held
  else if b.passes l = true then x = b.held
  else x = factory

/-- Section `i` of a set under a write cut off after `k` sections (R179): written, cut off in its writing, or not reached. -/
def CutAt {α : Type} (k i : Nat) (n : WriteNumber) (x : α) (old new : Copy α) : Prop :=
  (i < k → new = ⟨n, true, x⟩) ∧ (i = k → new = ⟨n, false, x⟩) ∧ (k < i → new = old)

/-! ## The charge of an interval (R22 to R29, R62, R63) -/

/-- The energy of a phase after R22 to R24: 0 below 20 mA, else within ±16,777,215 µWh. -/
def phaseEnergy (e : Int) (i : Nat) : Int :=
  if i < 20 then 0 else if e < -16777215 then -16777215 else if 16777215 < e then 16777215 else e

/-- ΔI of R26. -/
def imported (law : Nat) (a b c : Int) : Nat :=
  if law = 0 then a.natAbs + b.natAbs + c.natAbs
  else if law = 1 then a.toNat + b.toNat + c.toNat
  else (a + b + c).toNat

/-- ΔX of R26. -/
def exported (law : Nat) (a b c : Int) : Nat :=
  if law = 0 then 0
  else if law = 1 then (-a).toNat + (-b).toNat + (-c).toNat
  else (-(a + b + c)).toNat

/-- The billed import of R28 over `t` milliseconds. -/
def billed (s : State) (sum t : Nat) : Nat :=
  if s.tamper.records[kindMagnet].state = .active ∧ 0 < s.meter.magnetPower then
    max sum (s.meter.magnetPower * t * 1000 / 3600)
  else sum

/-- The energy registers after billed import in a band and export (R29). -/
def registered (e : Energy) (band x y : Nat) : Energy where
  total := e.total + x
  bands :=
    { b0 := e.bands.b0 + if band = 0 then x else 0
      b1 := e.bands.b1 + if band = 1 then x else 0
      b2 := e.bands.b2 + if band = 2 then x else 0
      b3 := e.bands.b3 + if band = 3 then x else 0
      b4 := e.bands.b4 + if band = 4 then x else 0
      b5 := e.bands.b5 + if band = 5 then x else 0 }
  exported := e.exported + y

/-- The account after the priced amount `n` of an interval charge (R62, R63). -/
def charged (a : Account) (n : Nat) : Account :=
  let c := n / 1000000000
  let low := (-9999999999 - (a.balance - c)).toNat
  { a with
    balance := if a.balance - c < -9999999999 then -9999999999 else a.balance - c
    residue := n % 1000000000
    energyCharged := a.energyCharged + c
    unbilled := a.unbilled + low
    balFloor := a.balFloor || decide (0 < low) }

/-- The day ends that a catch-up issues as the time becomes `now` in power state MAINS or start step 3 (R56). -/
def dayEndsAt (s : State) (allowed : Bool) (now : Nat) : Nat :=
  match s.book.lastCharged with
  | none => 0
  | some d => if allowed then min 366 (localDate now s.book.active - d) else 0

/-- The account after one day end (R64, R65). -/
def dayEnded (a : Account) (standing daily : Nat) : Account :=
  let low := (-9999999999 - (a.balance - standing)).toNat
  let b := if a.balance - standing < -9999999999 then -9999999999 else a.balance - standing
  let d := min daily (min a.debt b.toNat)
  { a with
    balance := b - d
    debt := a.debt - d
    standingCharged := a.standingCharged + standing
    recoveredDaily := a.recoveredDaily + d
    debtRecovered := a.debtRecovered + d
    unbilled := a.unbilled + low
    balFloor := a.balFloor || decide (0 < low) }

/-- The account and the last day end after `n` day ends, one after another (R56, R64, R65). -/
def afterDays (n standing daily : Nat) (a : Account) (last : LastDayEnd) : Account × LastDayEnd :=
  (fun x => (dayEnded x.1 standing daily, ⟨standing, (dayEnded x.1 standing daily).recoveredDaily - x.1.recoveredDaily⟩))^[n]
    (a, last)

/-- The credit engine with an account and a last day end, and derived from that account (R79, R80, R85, R86). -/
def derivedOf (p : Settings) (x : Credit) (a : Account) (last : LastDayEnd) : Credit :=
  { x with
    account := a
    lastDayEnd := last
    ecState := ecStateOf a p
    lowCredit := decide (a.balance ≤ p.lowCredit)
    reason := decide (a.balance ≤ -(a.grant : Int)) }

/-- How many of the `n` day ends of a catch-up that begins follow one another before another arrival can be taken (R56, R66):
one at least, and all where there is no second one; else how many is the part's own. -/
def daysAtOnce (s : State) (n : Nat) : Nat :=
  if n ≤ 1 then n else min n (1 + Config.dayEndsTogether s.catchUp.choices)

/-- The last charged local date after the first `k` of the `n` day ends of a catch-up on `date` (R56). -/
def chargedDate (s : State) (k n date : Nat) : Option Nat :=
  if k = 0 then s.book.lastCharged else if k = n then some date else s.book.lastCharged.map (· + k)

/-- What the model keeps of a catch-up that begins with `k` of `n` day ends: how many, and whether it read where another arrival
falls between two of them. -/
def catchUpBegun (s : State) (k n : Nat) : CatchUp :=
  if n = 0 then s.catchUp else ⟨k, s.catchUp.choices + if 1 < n then 1 else 0⟩

/-- The day ends still to come of the catch-up in progress in MAINS (R56). -/
def daysToCome (s : State) : Nat :=
  match s.book.lastCharged with
  | none => 0
  | some d =>
    if s.supply.power = .mains ∧ s.clock.certain = true then
      min (366 - s.catchUp.issued) (localDate s.clock.time s.book.active - d)
    else 0

/-- Two day ends of a catch-up have another arrival between them (R56, R66): it waits with `rest` behind it. -/
structure BetweenDays (s : State) (rest : List Due) : Prop where
  waits : s.agenda = .catchUp false :: rest
  left : 0 < daysToCome s

/-- `n` day ends under the active calendar come about one after another between `s` and `t` (R56, R64 to R66, R112): what the
credit engine and the code decoder then hold, and what the switch controller has been told. -/
structure DaysEnded (s t : State) (n : Nat) : Prop where
  decoder : t.decoder = { s.decoder with badCount := if 0 < n then 0 else s.decoder.badCount }
  none : n = 0 → t.credit = s.credit
  credit : 0 < n →
    let x := afterDays n s.book.active.standing s.settings.debtDaily s.credit.account s.credit.lastDayEnd
    t.credit = derivedOf s.settings s.credit x.1 x.2
  told : CreditTold s t
  reasons : t.switch.reasons = { s.switch.reasons with credit := t.switch.reasons.credit }
  handed : handing s = true → s.switch.reasons.credit = s.credit.reason → t.switch.reasons.credit = t.credit.reason
  acting : s.switch.acting = actingSet s → t.switch.acting = actingSet t

/-! ## The close of an interval and the activation at it (R28, R29, R31, R32, R54, R62, R63, R80) -/

/-- A passive calendar is due: its activation time has been reached (R54). -/
def CalendarDue (s : State) : Prop := ∃ c, s.book.passive = some c ∧ c.activation ≤ s.clock.time

/-- The calendar in force at an interval's close (R54): the passive one where it is due, its activation time dropped, else the
active one. -/
def inForce (s : State) : Tariff :=
  match s.book.passive with
  | none => s.book.active
  | some c => if c.activation ≤ s.clock.time then { c with activation := 0 } else s.book.active

/-- The calendars after the activation at an interval's close, if one is due (R54). -/
def activated (s : State) : CalendarBook :=
  match s.book.passive with
  | none => s.book
  | some c => if c.activation ≤ s.clock.time then { s.book with active := inForce s, passive := none } else s.book

/-- The day ends that an activation brings in MAINS (R54, R56); none where none is due. -/
def activationDays (s : State) : Nat :=
  match s.book.passive, s.book.lastCharged with
  | some c, some d =>
    if c.activation ≤ s.clock.time ∧ s.clock.certain = true then min 366 (localDate s.clock.time c - d) else 0
  | _, _ => 0

/-- The account with ENERGY_SAT where some phase was beyond its range (R23). -/
def saturatedIf (a : Account) (sat : Bool) : Account := { a with energySat := a.energySat || sat }

/-- An interval is billed between `s` and `t` (R28, R29, R62, R63, R80) under the calendar in force, behind `days` day ends of
an activation: figures, registers, account and derived state, and what the last charge was. (That an activation's effects come
before the charge is the model's choice, log entry 31.) -/
structure Billed (s t : State) (days sum out ms : Nat) (sat : Bool) : Prop where
  band : t.meter.band = bandAt (inForce s) s.clock.time
  figure : t.meter.billed = billed s sum ms
  substituted : t.meter.substituted =
    decide (s.tamper.records[kindMagnet].state = .active ∧ 0 < s.meter.magnetPower)
  energy : t.energy = registered s.energy t.meter.band t.meter.billed out
  credit :
    let x := afterDays days (inForce s).standing s.settings.debtDaily (saturatedIf s.credit.account sat) s.credit.lastDayEnd
    let price := (inForce s).prices.get t.meter.band
    let n := t.meter.billed * price + x.1.residue
    t.credit = { derivedOf s.settings s.credit (charged x.1 n) x.2 with
      lastCharge := ⟨t.meter.band, price, n / 1000000000,
        (-9999999999 - (x.1.balance - ((n / 1000000000 : Nat) : Int))).toNat⟩ }

/-- A due calendar is activated at an interval's close between `s` and `t` (R54, R50, R87), with `k` of the `n` day ends that it
brings: the calendars, the day ends at the decoder, the friendly state handed on behind the last of them, CALENDAR attention
marked, and what the switch controller then holds. -/
structure Activated (s t : State) (k n : Nat) : Prop where
  book : t.book = { activated s with lastCharged := chargedDate s k n (localDate s.clock.time (inForce s)) }
  friendly : t.switch.friendly =
    if k = n then s.clock.certain && friendlyPeriod (inForce s) s.clock.time else s.switch.friendly
  calendar : Marks s t 5
  told : CreditTold s t
  reasons : t.switch.reasons = { s.switch.reasons with credit := t.switch.reasons.credit }
  handed : s.switch.reasons.credit = s.credit.reason → t.switch.reasons.credit = t.credit.reason
  acting : s.switch.acting = actingSet s → t.switch.acting = actingSet t

/-! ## BATTERY and the start (R169, R183 to R187) -/

/-- The watch of an input after one sample in BATTERY at a meter time (R169). -/
def watched (b : BatteryWatch) (now : Nat) (active : Bool) : BatteryWatch where
  count := if active = true ∧ b.previous = false then min 65535 (b.count + 1) else b.count
  firstTime := if active = true ∧ b.previous = false ∧ b.count = 0 then now else b.firstTime
  previous := active
  mode := b.mode

/-- What a start restores of each section (R179, R184); TIME is judged at POWER_ON only. -/
structure RestoredFrom (j : Image) (on : Bool) (x : Sections) : Prop where
  account : Chosen (j.lastWrite on) j.setA.account j.setB.account Account.factory x.account
  energy : Chosen (j.lastWrite on) j.setA.energy j.setB.energy Energy.factory x.energy
  decoder : Chosen (j.lastWrite on) j.setA.decoder j.setB.decoder Decoder.factory x.decoder
  settings : Chosen (j.lastWrite on) j.setA.settings j.setB.settings Settings.factory x.settings
  book : Chosen (j.lastWrite on) j.setA.book j.setB.book CalendarBook.factory x.book
  switch : Chosen (j.lastWrite on) j.setA.switch j.setB.switch SwitchKept.factory x.switch
  records : Chosen (j.lastWrite on) j.setA.records j.setB.records recordsFactory x.records
  time : on = true → Chosen (j.lastWrite on) j.setA.time j.setB.time 0 x.time

/-- The failed-section mask of a start (R184): the sections of which no copy passes. -/
def failedMask (j : Image) (on : Bool) : Byte :=
  let l := j.lastWrite on
  BitVec.ofNat 8 (bits [!(j.setA.account.passes l || j.setB.account.passes l),
    !(j.setA.energy.passes l || j.setB.energy.passes l), !(j.setA.decoder.passes l || j.setB.decoder.passes l),
    !(j.setA.settings.passes l || j.setB.settings.passes l), !(j.setA.book.passes l || j.setB.book.passes l),
    !(j.setA.switch.passes l || j.setB.switch.passes l), !(j.setA.records.passes l || j.setB.records.passes l),
    on && !(j.setA.time.passes l || j.setB.time.passes l)])

/-- A record with its kind's action as the settings have it (R171, item 4). -/
def withAction (on : Bool) (r : TamperRecord) : TamperRecord := if r.state = .clear then r else { r with disconnect := on }

/-- A record with the battery-time detections of its input merged (R170): `stays` says that detection is LEVEL and the input at
its active level. -/
def mergedAt (time wh : Nat) (balance : Int) (action : Bool) (b : BatteryWatch) (stays : Bool) (r : TamperRecord) :
    TamperRecord :=
  if b.count = 0 then r
  else
    let entered : TamperRecord :=
      if r.state = .clear then
        { state := .active
          firstTime := b.firstTime
          firstImport := wh
          firstBalance := balance
          lastTime := time
          lastEnd := 0
          count := b.count
          disconnect := action }
      else { r with state := .active, count := min 65535 (r.count + b.count), lastTime := time }
    if stays then entered else { entered with state := .latched, lastEnd := time }

/-- What a start stands on when it makes its reports: its cause, what it sampled and restored, the meter time, and the clock
as it was before. -/
structure StartView where
  cause : StartCause
  inputs : StartInputs
  restored : Sections
  time : Nat
  source : Oscillator
  crystalFailed : Bool
  caseWatch : BatteryWatch
  coverWatch : BatteryWatch
  failed : Nat

/-- A present report that a start makes at a record, with the balance as restored. -/
def StartView.present (v : StartView) (k : Fin 10) (r : TamperRecord) : TamperRecord :=
  presentAt v.time (v.restored.energy.total / 1000000) v.restored.account.balance
    (v.restored.settings.tamperActions.testBit k) r

/-- The start report of a sense input (R171, items 2 and 3). -/
def StartView.reported (v : StartView) (k : Fin 10) (mode : Nat) (high : Bool) (r : TamperRecord) : TamperRecord :=
  let active := high != mode.testBit 9
  if mode.testBit 8 then
    if active = true ∧ v.cause = .powerOn then goneAt v.time (v.present k r) else r
  else if active then v.present k r else goneAt v.time r

/-- The record of a watched input after the merge and its start report (R170, R171). -/
def StartView.watched (v : StartView) (k : Fin 10) (mode : Nat) (high : Bool) (b : BatteryWatch) : TamperRecord :=
  v.reported k mode high (mergedAt v.time (v.restored.energy.total / 1000000) v.restored.account.balance
    (v.restored.settings.tamperActions.testBit k) b ((high != mode.testBit 9) && !mode.testBit 8) v.restored.records[k])

/-- The RETENTION record after step 1 (R184): one report, present and then gone, for each failed section. -/
def StartView.retention (v : StartView) : TamperRecord :=
  (fun r => goneAt v.time (v.present kindRetention r))^[v.failed] v.restored.records[kindRetention]

/-- The CLOCK record after step 2 (R59, R171). -/
def StartView.clock (v : StartView) (r : TamperRecord) : TamperRecord :=
  let told := if v.source = .backup ∨ (v.cause ≠ .powerOn ∧ v.crystalFailed = true) then v.present kindClock r else r
  if v.source = .crystal then goneAt v.time told else told

/-- The tamper records after `k` steps of a start, `balance` being that of the account as step 4 finds it (R156, R170, R171,
R184). -/
def StartView.records (v : StartView) (k : Nat) (balance : Int) : Vector TamperRecord 10 :=
  let x := v.restored
  let rs := x.records.set kindRetention v.retention
  if k = 1 then rs
  else
    let told : Vector TamperRecord 10 := Vector.ofFn fun n : Fin 10 =>
      withAction (x.settings.tamperActions.testBit n)
        (if n = kindCase then v.watched n x.settings.caseInput v.inputs.pins.caseHigh v.caseWatch
        else if n = kindCover then v.watched n x.settings.coverInput v.inputs.pins.coverHigh v.coverWatch
        else if n = kindMagnet then v.reported n x.settings.magnetInput v.inputs.pins.magHigh rs[n]
        else if n = kindKeypad then (if 0 < x.decoder.lockout then v.present n rs[n] else goneAt v.time rs[n])
        else if n = kindClock then v.clock rs[n]
        else rs[n])
    if k < 4 then told
    else
      let r := told[kindSwitch]
      told.set kindSwitch (goneAt v.time (if v.inputs.loadSide.any = x.switch.commandedClosed then r
        else presentAt v.time (x.energy.total / 1000000) balance (x.settings.tamperActions.testBit kindSwitch) r))

/-- The account as a start restores it, with the supply-loss mark of the battery domain carried over (R71, R185). -/
def startAccount (s : State) (x : Sections) : Account :=
  { x.account with supplyLoss := x.account.supplyLoss || s.battery.supplyLoss }

/-- The day ends of start step 3 (R55, R56), as `t` has the time. -/
def startDays (t : State) (x : Sections) : Nat :=
  match x.book.lastCharged with
  | none => 0
  | some d => if t.clock.certain then min 366 (localDate t.clock.time x.book.active - d) else 0

/-- The last charged local date after start step 3 (R55, R56). -/
def startDate (t : State) (x : Sections) : Option Nat :=
  match x.book.lastCharged with
  | none => if t.clock.certain then some (localDate t.clock.time x.book.active) else none
  | some d => if 0 < startDays t x then some (localDate t.clock.time x.book.active) else some d

/-- The state that the supply switch controller finds at start step 4 (R156): the marks and the opened-by set. -/
structure ContactorFound (t : State) (i : StartInputs) (x : Sections) : Prop where
  reasons : t.switch.reasons = ⟨t.tamper.reason, t.decoder.remoteOrder, x.switch.loadLatch, t.credit.reason⟩
  friendly : t.switch.friendly = (t.clock.certain && friendlyPeriod t.book.active t.clock.time)
  acting : t.switch.acting = actingSet t
  found : i.loadSide.any = true → t.switch.contactor = if actingSet t = Reasons.empty then .closed else .opening
  opened : i.loadSide.any = false → actingSet t ≠ Reasons.empty → t.switch.contactor = .opened
  armed : i.loadSide.any = false → actingSet t = Reasons.empty →
    t.switch.contactor = if autoClosePermitted t then .closing else .armed
  pulse : t.switch.attempt =
    match t.switch.contactor with
    | .opening => .pulse .open
    | .closing => .pulse .close
    | _ => .idle
  kept : t.switch.kept = { x.switch with
    openedBy := (if i.loadSide.any then Reasons.empty else x.switch.openedBy).union (actingSet t)
    manualClose := !i.loadSide.any && (x.switch.manualClose || x.switch.commandedClosed)
    commandedClosed :=
      match t.switch.contactor with
      | .closed => true
      | .opening => false
      | .closing => true
      | _ => x.switch.commandedClosed }

/-- What a start of `k` steps, at least one, leaves of what it restores (R30, R33, R55, R56, R59, R71, R76, R116, R132, R155,
R156, R169 to R172, R180, R184, R185). (That a commanded position CLOSED stands where the contactor is found OPEN is the
model's choice, log entry 36; the number 0 where no copy passes, entry 39; that the samples of R170 and R171 agree, entry 17.)
-/
structure Restored (s t : State) (cause : StartCause) (i : StartInputs) (j : Image) (k : Nat) (x : Sections) : Prop where
  sections : RestoredFrom j (decide (cause = .powerOn)) x
  same : t.energy = x.energy ∧ t.settings = x.settings ∧ (cause = .powerOn → t.clock.time = x.time)
  failed : t.supply.failed = failedMask j (decide (cause = .powerOn))
  number : t.store.lastNumber =
    if t.supply.failed = (if cause = .powerOn then 0xFF else 0x7F) then 0
    else (j.lastWrite (decide (cause = .powerOn))).number
  credit :
    let y := if k < 3 then (startAccount s x, ⟨0, 0⟩)
      else afterDays (startDays t x) x.book.active.standing x.settings.debtDaily (startAccount s x) ⟨0, 0⟩
    t.credit = { derivedOf x.settings t.credit y.1 y.2 with lastCharge := ⟨0, 0, 0, 0⟩ }
  book : t.book = { x.book with lastCharged := if k < 3 then x.book.lastCharged else startDate t x }
  decoder : t.decoder = { x.decoder with badCount := if k < 3 ∨ startDays t x = 0 then x.decoder.badCount else 0 }
  meter : t.meter.law = x.settings.summationLaw ∧ t.meter.magnetPower = x.settings.magnetPower ∧
    t.meter.reverse = ⟨decide (x.records[kindReverse].state = .active), 0⟩ ∧
    t.meter.voltageTap = ⟨decide (x.records[kindVoltage].state = .active), 0⟩ ∧
    t.meter.bypass = ⟨decide (x.records[kindBypass].state = .active), 0⟩ ∧ t.meter.weld = 0 ∧ t.meter.measured = 0
  records : t.tamper.records = StartView.records
    { cause := cause
      inputs := i
      restored := { x with account := startAccount s x }
      time := t.clock.time
      source := t.clock.source
      crystalFailed := s.clock.crystalFailed
      caseWatch := s.battery.caseIn
      coverWatch := s.battery.coverIn
      failed := ((List.range 8).filter fun n => t.supply.failed.getLsbD n).length } k t.credit.account.balance
  reason : t.tamper.reason = tamperReasonOf t.tamper.records
  battery : t.battery = { s.battery with
    intact := true
    supplyLoss := false
    caseIn := if k < 2 then s.battery.caseIn else
      { s.battery.caseIn with count := 0, firstTime := 0, mode := x.settings.caseInput }
    coverIn := if k < 2 then s.battery.coverIn else
      { s.battery.coverIn with count := 0, firstTime := 0, mode := x.settings.coverInput } }
  inputs : 2 ≤ k →
    t.tamper.caseIn = ⟨i.pins.caseHigh != x.settings.caseInput.testBit 9, 0, i.pins.caseHigh⟩ ∧
    t.tamper.coverIn = ⟨i.pins.coverHigh != x.settings.coverInput.testBit 9, 0, i.pins.coverHigh⟩ ∧
    t.tamper.magIn = ⟨i.pins.magHigh != x.settings.magnetInput.testBit 9, 0, i.pins.magHigh⟩ ∧
    t.clock.crystalFailed = false
  switch : k < 4 → t.switch.kept = x.switch ∧ t.switch.reasons = { Reasons.empty with load := x.switch.loadLatch }
  contactor : 4 ≤ k → ContactorFound t i x
  write : 4 ≤ k → t.store.requested = false ∧
    t.store.writing = some ⟨t.store.lastNumber + 1, t.store.lastSet.target, sectionsOf t⟩

/-- What a start of `k` steps with a cause leaves (R20, R42, R183 to R187), where it finds the image `j`. -/
structure Started (s t : State) (cause : StartCause) (i : StartInputs) (j : Image) (k : Nat) : Prop where
  frame : t.pending = s.pending ∧ t.link = (if k = 5 then { s.link with frame := none } else s.link) ∧ t.agenda = [] ∧
    t.catchUp.choices = s.catchUp.choices
  power : t.supply.power = .start ∧ t.supply.startStep = k ∧ t.supply.cause = cause ∧ t.supply.resetHold = false ∧
    t.supply.resetRemembered = false ∧ t.supply.vsLow = (decide (cause = .resetPin) && s.supply.vsLow) ∧
    t.intake = ⟨[], none, false⟩
  closed : t.window = ⟨.closed, 0, 0, none, .none⟩
  image : t.store.image = j
  clock : t.clock.source = (if cause ≠ .powerOn then s.clock.source else if i.crystalRuns then .crystal else .backup) ∧
    t.clock.certain = (decide (cause ≠ .powerOn) && s.clock.certain) ∧
    (cause ≠ .powerOn → t.clock.time = s.clock.time)
  nothing : k = 0 → t.mem = [] ∧ t.attn = ⟨0, 0x3F, 0, 0, false, false⟩ ∧ t.battery = s.battery
  restored : 1 ≤ k → ∃ x, Restored s t cause i j k x
  pages : k = 5 → PagesShow t ∧ generation t.mem = 2 ∧ (∀ a, inPages a = false → t.mem.read a = 0) ∧
    t.attn = ⟨0, 0x3F, 0, 0, false, false⟩ ∧ t.supply.batteryLow = decide (i.vbat < 2600)

/-! ## Entries decided at once -/

/-- The result of R99's first failing check, for a TOKEN entry: LOCKED_OUT, DIGIT_INVALID, SELECTOR_RANGE, KEY_ABSENT,
BODY_RANGE, KEY_EXPIRED in this order, each with its item and its body (R103). -/
def preCheck (s : State) (w : Work) : Option Result :=
  let unnamed : List Byte := le 1 w.source ++ [0xFF, 0, 0xFF, 0, 0, 0]
  let k := tokenKey s w
  if 0 < s.decoder.lockout then some ⟨.lockedOut, 0, unnamed ++ le 2 s.decoder.lockout⟩
  else if w.digits.any (fun d => 9 < d) then
    some ⟨.digitInvalid, (w.digits.takeWhile fun d => d ≤ 9).length + 1, unnamed⟩
  else if 3 < w.selector then some ⟨.selectorRange, 0, unnamed⟩
  else if k.present = false then some ⟨.keyAbsent, w.selector, bareHead s w⟩
  else if 4722366482869645213696 ≤ w.bodyValue then some ⟨.bodyRange, 0, bareHead s w⟩
  else if s.clock.certain = true ∧ k.expiry ≠ 0 ∧ k.expiry < localDate s.clock.time s.book.active then
    some ⟨.keyExpired, 0, bareHead s w⟩
  else none

/-- The part after step 1 of a RECONNECT (R148): trip count, LOAD latch and manual-close mark cleared, and LOAD with the
latch. -/
def reconnected (s : State) : State :=
  { s with switch := { s.switch with
    reasons := { s.switch.reasons with load := s.switch.reasons.load && !s.switch.kept.loadLatch }
    kept := { s.switch.kept with tripCount := 0, loadLatch := false, manualClose := false } } }

/-- Nothing but what LSO shifted out differs. -/
def OnlyAnswers (s t : State) : Prop := ∃ out, t = { s with link := out }

end Sys2Proof.Safety
end

