-- ==== Sys2Proof/Certificates/Slice0/Obligations.lean ====
section
/-! DEFINITION. The statements for the provers. -/

section

open Sys2Proof Sys2Proof.Machine Sys2Proof.Safety

/-! ## The machine between its commands -/

/-- A step takes the command at the front of the queue and runs it with the queue's rest; on an empty queue the part waits
as it stands (the model's choice, log entry 14). R1 and R4: a whole frame that arrives is the command that its command byte
names, and, for WRITE_REGISTER, its register number. -/
def Obligations.StepTakesFrontCommand : Prop :=
  (∀ c rest s, s.pending = c :: rest → step s = exec c (s.withQueue rest)) ∧
  (∀ s, s.pending = [] → step s = .next s) ∧
  (∀ frame s, s.pending = [] → step (s.frameArrives frame) = exec (frameCommand frame) s) ∧
  (∀ c bytes,
    frameCommand (0x61 :: bytes) = .readMemory ⟨bytes, false⟩ ∧ frameCommand (0x62 :: bytes) = .writeMemory ⟨bytes, false⟩ ∧
    frameCommand (0x71 :: bytes) = .readRegister bytes ∧ frameCommand (0x72 :: 1 :: bytes) = .writeAttention bytes ∧
    frameCommand (0x72 :: 2 :: bytes) = .writeAttentionMask bytes ∧
    (c ≠ 1 → c ≠ 2 → frameCommand (0x72 :: c :: bytes) = .writeRegisterIgnored (c :: bytes)) ∧
    (c ≠ 0x61 → c ≠ 0x62 → c ≠ 0x71 → c ≠ 0x72 → frameCommand (c :: bytes) = .unknownCommandFrame (c :: bytes))) ∧
  (frameCommand [] = .unknownCommandFrame [] ∧ frameCommand [0x72] = .writeRegisterIgnored [])

/-- Every command is answered with a next state, whatever the state is, and leaves the commands that wait as they are. (That a
command whose event has not come about is answered too, and one whose operands are no row's, is the model's choice, log
entries 12 and 15.) -/
def Obligations.EveryCommandIsAnswered : Prop :=
  ∀ c s, ∃ t, exec c s = .next t ∧ t.pending = s.pending

/-- What the reference gives a new part without VS and VBAT: BATTERY, a battery domain found lost (meter time 0, crystal,
UNCERTAIN, supply-loss mark set, intact mark clear, input modes 5), and the factory retention image, every section
of both copies at its factory value under write number 0. (The oscillator source, the previous levels and the battery
first times are the model's choice, log entry 2.) -/
def Obligations.ResetIsANewPart : Prop :=
  State.reset.supply.power = .battery ∧
  State.reset.clock = ⟨0, .crystal, false, false⟩ ∧
  State.reset.battery.intact = false ∧ State.reset.battery.supplyLoss = true ∧
  State.reset.battery.caseIn = ⟨0, 0, false, 5⟩ ∧ State.reset.battery.coverIn = ⟨0, 0, false, 5⟩ ∧
  State.reset.store.image.slot0 = ⟨0, true⟩ ∧ State.reset.store.image.slot1 = ⟨0, true⟩ ∧
  State.reset.store.image.setA = State.reset.store.image.setB ∧
  State.reset.store.image.setA.account = ⟨0, true, ⟨0, 0, 0, 0, 0, 0, 0, 0, 0, 0, 0, 0, false, false, false, false⟩⟩ ∧
  State.reset.store.image.setA.energy = ⟨0, true, ⟨0, ⟨0, 0, 0, 0, 0, 0⟩, 0⟩⟩ ∧
  State.reset.store.image.setA.decoder = ⟨0, true,
    ⟨⟨true, 4, 0, Config.factoryKey, 0, 0, [], 0⟩, ⟨false, 1, 0, 0, 0, 0, [], 0⟩, ⟨false, 1, 0, 0, 0, 0, [], 0⟩,
      ⟨false, 1, 0, 0, 0, 0, [], 0⟩, 0, 0, false, ⟨0, 0, 0, 0⟩⟩⟩ ∧
  State.reset.store.image.setA.settings.number = 0 ∧ State.reset.store.image.setA.settings.ok = true ∧
  State.reset.store.image.setA.settings.held.toList =
    [0, 0, 10, 60, 3, 50000, 20000, 50000, 1, 1, 2, 0, 0, 0, 0, 0x00F, 5, 5, 5] ∧
  State.reset.store.image.setA.book = ⟨0, true, ⟨⟨0, 0, ⟨0, 0, 0, 0, 0, 0⟩, 0, [], [], [], 0, 0⟩, none, none⟩⟩ ∧
  State.reset.store.image.setA.switch = ⟨0, true, ⟨false, ⟨false, false, false, false⟩, false, 0, false⟩⟩ ∧
  State.reset.store.image.setA.records.number = 0 ∧ State.reset.store.image.setA.records.ok = true ∧
  (∀ k : Fin 10, State.reset.store.image.setA.records.held[k] = ⟨.clear, 0, 0, 0, 0, 0, 0, false⟩) ∧
  State.reset.store.image.setA.time = ⟨0, true, 0⟩

/-- Every promise that the later statements say each step keeps holds after reset. -/
def Obligations.ResetKeepsEveryPromise : Prop :=
  State.reset.mem.wf = true ∧ AccountsLawful State.reset ∧ SettingsLawful State.reset ∧ CalendarsLawful State.reset ∧
  KeysLawful State.reset ∧ EnergySumsUp State.reset ∧ SwitchSettled State.reset ∧ ReasonsAgree State.reset ∧ SlotsAgree State.reset ∧
  CounterTells State.reset

/-- No command ever spoils the canonical form of the exchange memory. -/
def Obligations.MemoryStaysCanonical : Prop :=
  ∀ s t, s.mem.wf = true → step s = .next t → t.mem.wf = true

/-- R61 over every step: where the settings are in range, the account, its retained copies and the one that a write took keep
their ranges, and the totals account for the balance and the debt exactly. -/
def Obligations.AccountsStayLawful : Prop :=
  ∀ s t, SettingsLawful s → AccountsLawful s → step s = .next t → AccountsLawful t

/-- R130 over every step: every setting, active, staged, taken or retained, stays in its range. R47 and R52 over every step:
every calendar, active or passive, live, taken or retained, stays in the ranges of its fields, with no two switch points at
one minute of one day type. -/
def Obligations.SettingsStayLawful : Prop :=
  (∀ s t, SettingsLawful s → step s = .next t → SettingsLawful t) ∧
  (∀ s t, CalendarsLawful s → step s = .next t → CalendarsLawful t)

/-- R95 over every step: no spent set outgrows its 32 serials or leaves its span above the floor. -/
def Obligations.KeysStayLawful : Prop :=
  ∀ s t, KeysLawful s → step s = .next t → KeysLawful t

/-- R29 over every step: the import total stays the sum of the six band registers, in the engine and in every copy of it. -/
def Obligations.EnergyStaysSummed : Prop :=
  ∀ s t, EnergySumsUp s → step s = .next t → EnergySumsUp t

/-- R29 over every step: no energy register falls. The steps that lose the registers themselves (BATTERY entry, where they
stay in the image) and those that read the image (a start) stand apart. -/
def Obligations.EnergyNeverFalls : Prop :=
  ∀ c rest s t, s.pending = c :: rest → step s = .next t →
    (match c with
      | .batteryEntry _ => False
      | .startEntry _ => False
      | .resetStart _ => False
      | .startReady => s.supply.power ≠ .start
      | _ => True) → s.supply.power ≠ .start → NotAbove s.energy t.energy

/-- R137 over every step: while reasons are handed, the acting set is that of the reasons, levels and hold contributions as
they stand, and no acting reason stands against a contactor in CLOSED or ARMED. R135, R136, R140 and R147 in every state: what
the hold level, the acting and the held set, the governing reason, the permission of an automatic close and the two conditions
of a judgment are. -/
def Obligations.SwitchStaysSettled : Prop :=
  (∀ s t, SwitchSettled s → step s = .next t → SwitchSettled t) ∧ ∀ s, SwitchRules s

/-- R87, R109 and R166 over every step: while reasons are handed, each block and the switch controller agree on the block's
reason; and from the end of start step 1 on the CREDIT and TAMPER reasons are those of the account and of the records. The
CREDIT reason of an account is that its balance is at or below minus its grant (R86), the TAMPER reason of the records that
some record with the action DISCONNECT is ACTIVE or LATCHED (R166), and the EC state that of the one row of R79 that fits. -/
def Obligations.ReasonsStayAgreed : Prop :=
  (∀ s t, ReasonsAgree s → step s = .next t → ReasonsAgree t) ∧
  (∀ a, creditReasonOf a = true ↔ a.balance ≤ -(a.grant : Int)) ∧
  (∀ rs, tamperReasonOf rs = true ↔
    ∃ k : Fin 10, rs[k].disconnect = true ∧ (rs[k].state = .active ∨ rs[k].state = .latched)) ∧
  (∀ a p,
    (ecStateOf a p = .unavailable ↔ a.grant = 0 ∧ (p.ecAmount = 0 ∨ (p.ecOffer : Int) < a.balance)) ∧
    (ecStateOf a p = .offered ↔ a.grant = 0 ∧ 0 < p.ecAmount ∧ a.balance ≤ p.ecOffer) ∧
    (ecStateOf a p = .inUse ↔ 0 < a.grant ∧ -(a.grant : Int) < a.balance) ∧
    (ecStateOf a p = .exhausted ↔ 0 < a.grant ∧ a.balance ≤ -(a.grant : Int)))

/-- R9 over every step: the intake list and the owner bytes agree, and at most one slot is TAKEN. -/
def Obligations.SlotsStayAgreed : Prop :=
  ∀ s t, s.mem.wf = true → SlotsAgree s → step s = .next t → SlotsAgree t

/-- R14 over every step: the generation counter is odd exactly while a publication is in progress. -/
def Obligations.CounterKeepsTelling : Prop :=
  ∀ s t, s.mem.wf = true → SlotsAgree s → CounterTells s → step s = .next t → CounterTells t

/-! ## The link (section 1.1) and the host's bytes (section 1.3) -/

/-- R2: a READ_MEMORY frame shifts out 0x00 for the command byte and the address, then the bytes from that address on, each
as the memory holds it, 0x00 from 0x1400 on and, after 0xFFFF, from 0x0000 again. Until a start has built the pages
every byte is 0x00, and in BATTERY nothing is shifted out (R6). A frame held open goes on where it stands, and its next
bytes are those that the memory then holds. Nothing else changes. (That a frame comes in one command or in several is the
model's choice, log entry 15.) -/
def Obligations.ReadMemoryReturnsTheMemory : Prop :=
  let found (s : State) (a k : Nat) : Byte :=
    let b := (a + k) % 65536
    if s.supply.power = .start ∧ s.supply.startStep < 5 then 0 else if b < 0x1400 then s.mem.read b else 0
  (∀ hi lo rest s, s.agenda = [] → NoFrame false s →
    exec (.readMemory ⟨hi :: lo :: rest, false⟩) s = .next (answerFrame
      (([0, 0, 0] : List Byte) ++ (List.range rest.length).map (found s (256 * hi.toNat + lo.toNat))) s)) ∧
  (∀ bytes s, s.agenda = [] → NoFrame false s → bytes.length < 2 →
    exec (.readMemory ⟨bytes, false⟩) s = .next (answerFrame (List.replicate (1 + bytes.length) 0) s)) ∧
  (∀ hi lo rest more s, s.agenda = [] → NoFrame false s → s.supply.power ≠ .battery →
    exec (.readMemory ⟨hi :: lo :: rest, more⟩) s = exec (.readMemory ⟨rest, more⟩)
      { s with link := ⟨some [0, 0, 0], some ⟨false, .data (256 * hi.toNat + lo.toNat)⟩⟩ }) ∧
  (∀ rest more a s, s.agenda = [] → InFrame false a s →
    exec (.readMemory ⟨rest, more⟩) s = .next { s with link :=
      ⟨s.link.out.map (· ++ (List.range rest.length).map (found s a)),
        if more then some ⟨false, .data ((a + rest.length) % 65536)⟩ else none⟩ })

/-- R3, R5, R7: in MAINS and HOLDUP, data bytes that lie in the body of one slot whose owner byte reads EMPTY, or in the
calendar image while no CALENDAR_SUBMIT entry is in work, are stored one after another, and no other byte changes. In
general, each byte of a frame is a separate arrival: the frame's first data byte is applied at its address, and the
rest then as a frame from the next address, whatever places it reaches. (That a frame comes in one command or in several
is the model's choice, log entry 15.) -/
def Obligations.WrittenBytesAreStored : Prop :=
  (∀ hi lo data more s, s.agenda = [] → NoFrame true s → s.supply.power ≠ .battery →
    exec (.writeMemory ⟨hi :: lo :: data, more⟩) s = exec (.writeMemory ⟨data, more⟩)
      { s with link := ⟨some [0, 0, 0], some ⟨true, .data (256 * hi.toNat + lo.toNat)⟩⟩ }) ∧
  (∀ v rest more a s, s.agenda = [] → InFrame true a s →
    ∃ t, exec (.writeMemory ⟨[v], true⟩) s = .next t ∧
      t.link = ⟨s.link.out.map (· ++ [0]), some ⟨true, .data ((a + 1) % 65536)⟩⟩ ∧
      (rest ≠ [] → exec (.writeMemory ⟨v :: rest, more⟩) s = exec (.writeMemory ⟨rest, more⟩) t)) ∧
  ∀ hi lo data s, s.agenda = [] → NoFrame true s → s.mem.wf = true → (s.supply.power = .mains ∨ s.supply.power = .holdup) →
    let a := 256 * hi.toNat + lo.toNat
    ((∃ n, n < 16 ∧ slotBase n < a ∧ a + data.length ≤ slotBase n + 64 ∧ ownerOf s.mem n = ownerEmpty) ∨
      (0x800 ≤ a ∧ a + data.length ≤ 0xC00 ∧ ∀ w, s.intake.work = some w → w.kind ≠ 5)) →
    ∃ t, exec (.writeMemory ⟨hi :: lo :: data, false⟩) s = .next t ∧ SameExcept [.mem, .answer] s t ∧
      t.link = ⟨some (List.replicate (3 + data.length) 0), none⟩ ∧
      ∀ b, t.mem.read b = if a ≤ b ∧ b < a + data.length then data.getD (b - a) 0 else s.mem.read b

/-- R4, R5, R6, R7: data bytes change nothing where every address they reach is in a part-owned page or above 0x13FF, in the
body of a slot whose owner byte does not read EMPTY, or in the calendar image while a CALENDAR_SUBMIT entry is in work; and in
START and BATTERY none does. A frame cut off within its address has no data bytes. A write to ATTENTION or ATTENTION_MASK
changes nothing in START and BATTERY and without a data byte. A frame with another command byte, and a write to a register
that cannot be written, shift out 0x00 for every byte and change nothing. -/
def Obligations.WrittenBytesAreIgnored : Prop :=
  (∀ hi lo data s, s.agenda = [] → NoFrame true s →
    (s.supply.power = .start ∨ s.supply.power = .battery ∨ ∀ k, k < data.length →
      let a := (256 * hi.toNat + lo.toNat + k) % 65536
      inPages a = true ∨ 0x1400 ≤ a ∨
        (∃ n, n < 16 ∧ slotBase n < a ∧ a < slotBase n + 64 ∧ ownerOf s.mem n ≠ ownerEmpty) ∨
        (0x800 ≤ a ∧ a < 0xC00 ∧ ∃ w, s.intake.work = some w ∧ w.kind = 5)) →
    exec (.writeMemory ⟨hi :: lo :: data, false⟩) s = .next (answerFrame (List.replicate (3 + data.length) 0) s)) ∧
  (∀ bytes s, s.agenda = [] → NoFrame true s → bytes.length < 2 →
    exec (.writeMemory ⟨bytes, false⟩) s = .next (answerFrame (List.replicate (1 + bytes.length) 0) s)) ∧
  (∀ data s, s.agenda = [] → (s.supply.power = .start ∨ s.supply.power = .battery ∨ data = []) →
    exec (.writeAttention data) s = .next (answerFrame (List.replicate (2 + data.length) 0) s) ∧
    exec (.writeAttentionMask data) s = .next (answerFrame (List.replicate (2 + data.length) 0) s)) ∧
  (∀ bytes s, s.agenda = [] →
    exec (.unknownCommandFrame bytes) s = .next (answerFrame (List.replicate bytes.length 0) s) ∧
    exec (.writeRegisterIgnored bytes) s = .next (answerFrame (List.replicate (1 + bytes.length) 0) s))

/-- R8 and R10: POSTED written over EMPTY in MAINS. The slot number joins the tail of the list; where nothing is in work, the
intake is open and the list is empty, the entry is taken at once: TAKEN, its body snapshot, and its step due. No byte
but the owner byte changes. -/
def Obligations.PostingAnEntry : Prop :=
  ∀ hi lo n s, s.agenda = [] → NoFrame true s → s.mem.wf = true → s.supply.power = .mains → n < 16 →
    256 * hi.toNat + lo.toNat = slotBase n → ownerOf s.mem n = ownerEmpty →
    ∃ t, exec (.writeMemory ⟨[hi, lo, ownerPosted], false⟩) s = .next t ∧
      SameExcept [.mem, .answer, .intake, .agenda] s t ∧
      (s.intake.work ≠ none ∨ s.intake.ready = false ∨ s.intake.list = [] →
        ∀ b, b ≠ slotBase n → t.mem.read b = s.mem.read b) ∧
      (s.intake.work ≠ none ∨ s.intake.ready = false →
        ownerOf t.mem n = ownerPosted ∧ t.agenda = [] ∧
        t.intake = { s.intake with list := s.intake.list ++ [n] }) ∧
      (s.intake.work = none → s.intake.ready = true → s.intake.list = [] →
        ownerOf t.mem n = ownerTaken ∧
        t.intake = ⟨[], some ⟨n, s.mem.readBytes (slotBase n + 1) 63, .handed⟩, true⟩ ∧
        t.agenda = [dueOf ⟨n, s.mem.readBytes (slotBase n + 1) 63, .handed⟩])

/-- R8, the whole table: POSTED written over EMPTY in MAINS makes the owner byte POSTED and appends the number to the tail of
the intake list, before the intake looks at it; EMPTY over POSTED withdraws the slot, the other numbers keeping their order;
EMPTY over DONE returns it; and any other byte over any other owner state, and POSTED over EMPTY in HOLDUP or START, changes
nothing. The owner byte becomes TAKEN when the intake takes the entry, and DONE when the entry completes. (The two rows of
EMPTY are stated for MAINS and HOLDUP, the power states in which the link takes data bytes.) -/
def Obligations.OwnerBytesWithdrawAndReturn : Prop :=
  (∀ hi lo n v s, s.agenda = [] → NoFrame true s → s.mem.wf = true → s.supply.power ≠ .battery → n < 16 →
    256 * hi.toNat + lo.toNat = slotBase n →
    ∃ t, exec (.writeMemory ⟨[hi, lo, v], false⟩) s = .next t ∧
      (v = ownerPosted → ownerOf s.mem n = ownerEmpty → s.supply.power = .mains →
        ∃ u, SameExcept [.mem, .answer, .intake] s u ∧ t = takeNext u ∧ ownerOf u.mem n = ownerPosted ∧
          u.intake = { s.intake with list := s.intake.list ++ [n] } ∧
          ∀ b, b ≠ slotBase n → u.mem.read b = s.mem.read b) ∧
      (v = ownerEmpty → ownerOf s.mem n = ownerPosted → s.supply.power ≠ .start →
        SameExcept [.mem, .answer, .intake] s t ∧ ownerOf t.mem n = ownerEmpty ∧
        t.intake = { s.intake with list := s.intake.list.filter (fun k => k ≠ n) } ∧
        ∀ b, b ≠ slotBase n → t.mem.read b = s.mem.read b) ∧
      (v = ownerEmpty → ownerOf s.mem n = ownerDone → s.supply.power ≠ .start →
        SameExcept [.mem, .answer] s t ∧ ownerOf t.mem n = ownerEmpty ∧
        ∀ b, b ≠ slotBase n → t.mem.read b = s.mem.read b) ∧
      (¬(v = ownerEmpty ∧ (ownerOf s.mem n = ownerPosted ∨ ownerOf s.mem n = ownerDone)) →
        ¬(v = ownerPosted ∧ ownerOf s.mem n = ownerEmpty ∧ s.supply.power = .mains) → SameExcept [.answer] s t)) ∧
  (∀ s n rest, s.mem.wf = true → n < 16 → s.intake.work = none → s.intake.ready = true → s.intake.list = n :: rest →
    ownerOf (takeNext s).mem n = ownerTaken) ∧
  (∀ s w r, OwnSlot s w → s.intake.work = some w → ownerOf (completeEntry r s).mem w.slot = ownerDone)

/-- R4 and R16: a READ_REGISTER frame shifts out two bytes of 0x00, then the register captured whole, then 0x00: the power
state, READY, the intake count and the slot in work for register 0, ATTENTION for 1, its mask for 2, nothing for 3 to
255. Nothing else changes. -/
def Obligations.ReadRegisterReturnsTheRegister : Prop :=
  (∀ r rest s, s.agenda = [] →
    exec (.readRegister (r :: rest)) s = .next (answerFrame
      (([0, 0] : List Byte) ++ (List.range rest.length).map fun k =>
        if r = 0 then
          [ (match s.supply.power with
              | .start => 0
              | .mains => 1
              | .holdup => 2
              | .battery => 3),
            (if s.intake.ready then 1 else 0),
            BitVec.ofNat 8 s.intake.list.length,
            (match s.intake.work with
              | none => 0xFF
              | some w => BitVec.ofNat 8 w.slot)].getD k 0
        else if r = 1 ∧ k = 0 then s.attn.bits.setWidth 8
        else if r = 2 ∧ k = 0 then s.attn.mask.setWidth 8
        else 0) s)) ∧
  (∀ s, s.agenda = [] → exec (.readRegister []) s = .next (answerFrame [0] s))

/-- R18 and R19. A WRITE_REGISTER to ATTENTION clears the bits that its data byte holds as 1 and no other, one to ATTENTION_MASK
sets each mask bit to that of its data byte; bits 6 and 7 count for nothing, and nothing else changes. Reading leaves both as
they are, and shows bits 6 and 7 of the mask as 0. Of a clear and a raise of one bit that come together, the later one decides:
a raise after the clear sets the bit, and the line shows it where the mask lets it; a clear after the raise removes it. A raise
needs no mask bit. ATTN_N is Low exactly while some bit stands in both registers, in every state but BATTERY; so it follows
every raise, clear and mask write, and a mask bit set over a bit that stands drives it at once. (A raise is the end of the
publication that carries the bit or, for SUPPLY, HOLDUP entered or left for MAINS.) -/
def Obligations.RegisterWritesReachAttention : Prop :=
  let answers (s : State) : Prop := s.agenda = [] ∧ (s.supply.power = .mains ∨ s.supply.power = .holdup)
  let raises (c : Instr) (s : State) (i : Nat) : Prop :=
    (c = .publicationEnd ∧ s.attn.busy = true ∧ s.attn.inFlight.getLsbD i = true) ∨
    (i = 4 ∧ s.supply.power = .mains ∧
      match c with
      | .holdupEntry _ => True
      | .resetNLow _ => True
      | _ => False) ∨
    (i = 4 ∧ s.supply.power = .holdup ∧ s.supply.resetHold = false ∧ s.intake.list = [] ∧ c = .holdupReturn)
  (∀ v rest s, answers s →
    (∃ t, exec (.writeAttention (v :: rest)) s = .next t ∧ SameExcept [.attn, .answer] s t ∧
      t.attn = { s.attn with bits := t.attn.bits } ∧
      ∀ i, i < 6 → t.attn.bits.getLsbD i = (s.attn.bits.getLsbD i && !v.getLsbD i)) ∧
    (∃ t, exec (.writeAttentionMask (v :: rest)) s = .next t ∧ SameExcept [.attn, .answer] s t ∧
      t.attn = { s.attn with mask := t.attn.mask } ∧
      (∀ i, i < 6 → t.attn.mask.getLsbD i = v.getLsbD i) ∧
      (∀ i, i < 6 → s.attn.bits.getLsbD i = true → v.getLsbD i = true → attnLow t = true))) ∧
  (∀ x s, answers s →
    (∃ t, exec (.readRegister [1, x]) s = .next t ∧ SameExcept [.answer] s t) ∧
    (∃ t, exec (.readRegister [2, x]) s = .next t ∧ SameExcept [.answer] s t ∧
      t.link.out = some [0, 0, s.attn.mask.setWidth 8])) ∧
  (∀ v rest c s i, answers s → i < 6 → v.getLsbD i = true → raises c s i →
    (∃ t, exec (.writeAttention (v :: rest)) s = .next t ∧ ∃ u, exec c t = .next u ∧
      u.attn.bits.getLsbD i = true ∧ (u.attn.mask.getLsbD i = true → attnLow u = true)) ∧
    (∃ t, exec c s = .next t ∧ t.attn.bits.getLsbD i = true ∧
      ∃ u, exec (.writeAttention (v :: rest)) t = .next u ∧ u.attn.bits.getLsbD i = false)) ∧
  (∀ s, attnLow s = true ↔
    s.supply.power ≠ .battery ∧ ∃ i, i < 6 ∧ s.attn.bits.getLsbD i = true ∧ s.attn.mask.getLsbD i = true)

/-! ## The entries that their blocks decide at once -/

/-- R11, R12, R124, R72: a taken entry of kind 0 or 8 to 255 completes with KIND_UNKNOWN, item 0 and a body of zeros; a
WINDOW_CLOSE with another action than 0 and 1 completes with PAYLOAD_RANGE and reports the window; neither changes a block. A
FLAG_CLEAR whose mask has bits above 3 is refused and clears nothing; any other clears exactly the flags it selects; both
report the flags before and after. (When the pages change, and what some bytes of them read, is the model's choice, log
entries 4, 38, 40 and 46.) -/
def Obligations.PlainEntriesComplete : Prop :=
  (∀ s w, Taken s w → (w.kind = 0 ∨ 8 ≤ w.kind) →
    ∃ t, exec .kindUnknown s = .next t ∧ Completes s t w .kindUnknown 0 [] ∧ Publishes s t ∧
      SameExcept [.mem, .intake, .attn, .agenda] s t) ∧
  (∀ s w, Taken s w → w.kind = 6 → w.byteAt 4 ≠ 0 → w.byteAt 4 ≠ 1 →
    ∃ t, exec .windowClosePayloadRange s = .next t ∧
      Completes s t w .payloadRange 0
        ([w.byteAt 4] ++ le 1 s.window.state.code ++ le 1 s.window.rank ++ le 2 s.window.remaining ++ [0, 0, 0] ++
          le 1 s.window.cause.code) ∧
      Publishes s t ∧ SameExcept [.mem, .intake, .attn, .agenda] s t) ∧
  (∀ s w, Taken s w → w.kind = 7 →
    let m := w.byteAt 4
    let a := s.credit.account
    let b : Account := if 16 ≤ m.toNat then a else { a with
      balFloor := a.balFloor && !m.getLsbD 0
      debtLimit := a.debtLimit && !m.getLsbD 1
      energySat := a.energySat && !m.getLsbD 2
      supplyLoss := a.supplyLoss && !m.getLsbD 3 }
    ∃ t, exec .flagClear s = .next t ∧
      Completes s t w (if 16 ≤ m.toNat then .payloadRange else .accepted) 0 (le 1 a.flagBits ++ le 1 b.flagBits) ∧
      Publishes s t ∧ SameExcept [.mem, .intake, .attn, .agenda, .credit] s t ∧
      t.credit = { s.credit with account := b })

/-- R99, R112: a taken TOKEN entry completes with the result of the first pre-check that fails, which alone changes nothing
but the bad-code count at BODY_RANGE; the increase to 5 makes the keypad lockout due, behind which the entry completes. An
entry that passes all six begins its decode. (When the pages change, and what some bytes of them read, is the model's choice,
log entries 4, 38, 40 and 46.) -/
def Obligations.TokenPreChecks : Prop :=
  ∀ s w, Taken s w → w.kind = 1 →
    match preCheck s w with
    | none =>
      exec .token s = .next { s with
        agenda := []
        intake := { s.intake with work := some { w with stage := .decoding } } }
    | some r =>
      if r.code = .bodyRange ∧ 4 ≤ s.decoder.badCount then
        exec .token s = .next { s with agenda := [.keypadLockoutStart, .complete r] }
      else
        ∃ t, exec .token s = .next t ∧ Completes s t w r.code r.item r.body ∧ Publishes s t ∧
          SameExcept [.mem, .intake, .attn, .agenda, .decoder] s t ∧
          t.decoder = { s.decoder with
            badCount := if r.code = .bodyRange then s.decoder.badCount + 1 else s.decoder.badCount }

/-- R112, R113: the lockout starts with 1800 seconds and the count at 0, KEYPAD is reported present, and the entry that
brought the fifth bad code completes. At its end it stops, KEYPAD is reported gone, and the close of the interval goes on with
what is due behind (`advance`). (The place of the end in a close is the model's choice, log entry 5; when the pages change, and
what some bytes of them read, log entries 4, 38, 40 and 46.) -/
def Obligations.KeypadLockoutStartsAndEnds : Prop :=
  (∀ s w r, OwnSlot s w → s.intake.work = some w → s.agenda = [.keypadLockoutStart, .complete r] →
    ∃ t, exec .keypadLockoutStart s = .next t ∧
      t.decoder = { s.decoder with lockout := 1800, badCount := 0 } ∧
      Completes s t w r.code r.item (r.body.take 58) ∧ Publishes s t ∧
      SameExcept [.mem, .intake, .attn, .agenda, .decoder, .tamper, .switch, .store, .supply] s t ∧
      (s.tamper.records[kindKeypad].state ≠ .active →
        StoreAsked s t { sectionsOf s with
          decoder := { s.decoder with lockout := 1800, badCount := 0 }
          records := presentRecords s kindKeypad } ∧
        RecordsChanged s t (presentRecords s kindKeypad)) ∧
      (s.tamper.records[kindKeypad].state = .active →
        SameExcept [.mem, .intake, .attn, .agenda, .decoder] s t)) ∧
  (∀ s rest, s.agenda = .keypadLockoutEnd :: rest →
    exec .keypadLockoutEnd s = .next (advance { s with
      agenda := rest
      decoder := { s.decoder with lockout := 0 }
      tamper := { s.tamper with records := s.tamper.records.set kindKeypad (goneRecord s kindKeypad) } }))

/-- R148: a taken RECONNECT clears what bars a close, whether or not it is accepted; it is accepted exactly where the
contactor stood OPEN or ARMED and nothing acts, and a close operation then begins: its pulse at once in MAINS, deferred in
HOLDUP (R154). Otherwise it is refused with NOT_ARMED and the governing reason. (When the pages change, and what some bytes of
them read, is the model's choice, log entries 4, 38, 40 and 46.) -/
def Obligations.ReconnectClosesOrTellsWhy : Prop :=
  ∀ s w, Taken s w → w.kind = 2 → (s.supply.power = .mains ∨ s.supply.power = .holdup) →
    let u := reconnected s
    let accepted := (s.switch.contactor = .opened ∨ s.switch.contactor = .armed) ∧ actingSet u = Reasons.empty
    ∃ t, exec .reconnect s = .next t ∧
      Completes s t w (if accepted then .accepted else .notArmed)
        (if accepted then 0 else (governingReason u).code)
        (le 1 s.switch.contactor.code ++ le 1 t.switch.contactor.code ++ le 1 (actingSet u).code ++
          le 1 (heldSet u).code ++ le 1 (if s.switch.kept.loadLatch then 1 else 0) ++ le 1 s.switch.kept.tripCount) ∧
      Publishes s t ∧
      SameExcept [.mem, .intake, .attn, .agenda, .switch, .tamper] s t ∧
      t.switch.reasons = u.switch.reasons ∧ t.switch.acting = actingSet u ∧ t.switch.held = heldSet u ∧
      t.switch.governing = governingReason u ∧
      t.switch.kept.tripCount = 0 ∧ t.switch.kept.loadLatch = false ∧ t.switch.kept.manualClose = false ∧
      (accepted → t.tamper = s.tamper ∧ t.switch.contactor = .closing ∧
        (s.supply.power = .mains → t.switch.attempt = .pulse .close ∧
          t.switch.attemptCount = s.switch.attemptCount + 1 ∧ t.switch.kept.commandedClosed = true) ∧
        (s.supply.power = .holdup → t.switch.attempt = .deferred .close)) ∧
      (¬accepted → s.switch.contactor ≠ .closing → t.switch.contactor ≠ .closing)

/-- R81: a taken EMERGENCY entry is accepted exactly in the EC state OFFERED. The grant becomes EC_AMOUNT, nothing else of the
account changes, and the EC state, the low-credit flag and the CREDIT reason follow from the account as it then stands, a
change of the reason reaching the switch controller before the entry completes. Refused, it changes no block and names the
state found. (When the pages change, and what some bytes of them read, is the model's choice, log entries 4, 38, 40 and 46.) -/
def Obligations.EmergencyGrantsOrRefuses : Prop :=
  ∀ s w, Taken s w → w.kind = 3 → (s.supply.power = .mains ∨ s.supply.power = .holdup) →
    let a := s.credit.account
    let offered := a.grant = 0 ∧ 0 < s.settings.ecAmount ∧ a.balance ≤ s.settings.ecOffer
    let b : Account := if offered then { a with grant := s.settings.ecAmount } else a
    ∃ t, exec .emergency s = .next t ∧
      Completes s t w (if offered then .accepted else .ecNotOffered)
        (if offered then 0 else (ecStateOf a s.settings).code)
        (le 1 (ecStateOf a s.settings).code ++ le 1 (ecStateOf b s.settings).code ++ le 4 b.grant ++
          leSigned 8 b.balance ++ le 1 (if b.balance ≤ -(b.grant : Int) then 1 else 0)) ∧
      Publishes s t ∧
      SameExcept [.mem, .intake, .attn, .agenda, .credit, .switch, .tamper] s t ∧
      (offered →
        t.credit = { s.credit with
          account := b
          ecState := ecStateOf b s.settings
          lowCredit := decide (b.balance ≤ s.settings.lowCredit)
          reason := decide (b.balance ≤ -(b.grant : Int)) } ∧
        CreditHanded s t t.credit.reason) ∧
      (¬offered → SameExcept [.mem, .intake, .attn, .agenda] s t)

/-- R45, R46, R55 to R57: a taken TIME_SET is accepted within 300 seconds, while a window exists, or while the time is
UNCERTAIN. All within its apply the clock takes the new time as CERTAIN; an absent last charged local date is set without a
day end; in MAINS a later local date brings one day end for each date, at most 366, and none where it is not later; and the
friendly state follows the new local time. The entry then completes, and its result reports the old and new time, the change
of certainty and the day ends. Refused, it changes nothing. (When the pages change, and what some bytes of them read, is the
model's choice, log entries 4, 38, 40 and 46.) -/
def Obligations.TimeSetMovesTheClock : Prop :=
  ∀ s w, Taken s w → w.kind = 4 → (s.supply.power = .mains ∨ s.supply.power = .holdup) →
    let old := s.clock.time
    let new := w.field 4 4
    let accepted := (new ≤ old + 300 ∧ old ≤ new + 300) ∨ s.window.state ≠ .closed ∨ s.clock.certain = false
    let date := localDate new s.book.active
    let n := match s.book.lastCharged with
      | none => 0
      | some d => if s.supply.power = .mains then min 366 (date - d) else 0
    ∃ t, exec .timeSet s = .next t ∧ Publishes s t ∧
      (accepted →
        Completes s t w .accepted 0 (le 4 old ++ le 4 new ++ le 1 (if s.clock.certain then 0 else 1) ++ le 2 n) ∧
        SameExcept [.mem, .intake, .attn, .agenda, .clock, .book, .credit, .decoder, .switch, .tamper, .catchUp] s t ∧
        t.clock = { s.clock with time := new, certain := true } ∧
        t.book = { s.book with
          lastCharged := match s.book.lastCharged with
            | none => some date
            | some _ => chargedDate s n n date } ∧
        DaysEnded s t n ∧ t.catchUp = (if n = 0 then s.catchUp else ⟨n, s.catchUp.choices⟩) ∧
        t.switch.friendly = friendlyPeriod s.book.active new) ∧
      (¬accepted →
        Completes s t w .timeTolerance 0 (le 4 old ++ le 4 new ++ [0, 0, 0]) ∧
        SameExcept [.mem, .intake, .attn, .agenda] s t)

/-- R124, R125: a WINDOW_CLOSE with action 0 taken in CLOSED is refused with WINDOW_NOT_OPEN; else the window becomes CLOSED
with rank, remaining seconds and staged record gone and end cause DISCARDED, its hold contribution falls to 0 with one
evaluation, the active settings stand, and no retention write is asked for. (When the pages change, and what some bytes of
them read, is the model's choice, log entries 4, 38, 40 and 46.) -/
def Obligations.DiscardDropsTheWindow : Prop :=
  ∀ s w, Taken s w → w.kind = 6 → w.byteAt 4 = 0 →
    ∃ t, exec .windowCloseDiscard s = .next t ∧ Publishes s t ∧
      (s.window.state = .closed →
        Completes s t w .windowNotOpen 0
          (le 1 0 ++ le 1 0 ++ le 1 s.window.rank ++ le 2 s.window.remaining ++ [0, 0, 0] ++ le 1 s.window.cause.code) ∧
        SameExcept [.mem, .intake, .attn, .agenda] s t) ∧
      (s.window.state ≠ .closed →
        Completes s t w .accepted 0
          (le 1 0 ++ le 1 s.window.state.code ++ le 1 s.window.rank ++ le 2 s.window.remaining ++
            le 3 (match s.window.staged with
              | none => 0
              | some p => changedMask p s.settings) ++ [2]) ∧
        SameExcept [.mem, .intake, .attn, .agenda, .window, .switch, .tamper] s t ∧
        t.window = ⟨.closed, 0, 0, none, .discarded⟩ ∧
        Evaluated { s with switch := { s.switch with windowHold := 0 } } t)

/-- R124, R126, R127: a WINDOW_CLOSE with action 1 taken in CLOSED is refused with WINDOW_NOT_OPEN. Else the window becomes
COMMITTING with its rank, seconds, staged record and hold contribution as they are, the staged record becomes the active one,
the credit engine derives under it, the records' actions and the battery domain's three modes follow it, the debounce of an
input whose mode changes begins again, and the switch controller evaluates: at a change of the CREDIT reason, at a change of
the TAMPER reason, and at the commit. The entry waits for its retention write, which takes all of this. (When the pages
change, and what some bytes of them read, is the model's choice, log entries 4, 38, 40 and 46; the order of the evaluations,
entry 20.) -/
def Obligations.CommitActivatesTheStaged : Prop :=
  ∀ s w, Taken s w → w.kind = 6 → w.byteAt 4 = 1 → (s.supply.power = .mains ∨ s.supply.power = .holdup) →
    ∃ t, exec .windowCloseCommit s = .next t ∧
      (s.window.state = .closed →
        Completes s t w .windowNotOpen 0
          (le 1 1 ++ le 1 0 ++ le 1 s.window.rank ++ le 2 s.window.remaining ++ [0, 0, 0] ++ le 1 s.window.cause.code) ∧
        Publishes s t ∧ SameExcept [.mem, .intake, .attn, .agenda] s t) ∧
      (∀ p, s.window.state ≠ .closed → s.window.staged = some p →
        SameExcept [.agenda, .intake, .attn, .credit, .settings, .window, .switch, .tamper, .battery, .store, .supply]
          s t ∧ t.agenda = [] ∧
        t.settings = p ∧ t.window = { s.window with state := .committing } ∧
        AwaitsWrite s t w ⟨.accepted, 0, le 1 1 ++ le 1 s.window.state.code ++ le 1 s.window.rank ++
          le 2 s.window.remaining ++ le 3 (changedMask p s.settings) ++ [1]⟩ ∧
        t.credit = { s.credit with
          ecState := ecStateOf s.credit.account p
          lowCredit := decide (s.credit.account.balance ≤ p.lowCredit)
          reason := creditReasonOf s.credit.account } ∧
        CreditTold s t ∧
        t.battery = { s.battery with
          caseIn := { s.battery.caseIn with mode := p.caseInput }
          coverIn := { s.battery.coverIn with mode := p.coverInput }
          magMode := p.magnetInput } ∧
        (let again (old new : Nat) (x : InputState) : InputState := if old = new then x else { x with debounce := 0 }
         let u : State := { s with
           settings := p
           credit := t.credit
           tamper := { s.tamper with
             caseIn := again s.settings.caseInput p.caseInput s.tamper.caseIn
             coverIn := again s.settings.coverInput p.coverInput s.tamper.coverIn
             magIn := again s.settings.magnetInput p.magnetInput s.tamper.magIn } }
         let changed := t.credit.reason ≠ s.credit.reason ∧ s.switch.reasons.credit ≠ t.credit.reason
         ∃ v, SameExcept [.switch, .tamper, .attn] u v ∧
           HandOff u (withReasons u { u.switch.reasons with credit := t.credit.reason }) v changed ∧
           let rs := Vector.ofFn fun k : Fin 10 => withAction (p.tamperActions.testBit k) v.tamper.records[k]
           ∃ x, SameExcept [.switch, .tamper, .attn] v x ∧ RecordsChanged v x rs ∧ Evaluated x t))

/-! ## Calendars (R51 to R53) -/

/-- R51, R52, R53: a taken CALENDAR_SUBMIT waits for its apply, and the image is locked meanwhile. The apply names the first
condition of R52 that fails, in the order rank, counts, fields, dates, duplicates, and changes no calendar; an image that
passes all becomes the passive calendar, and the entry waits for a retention write that takes it. The item is that of the
first condition that fails in the lists of R52's items (`fieldItems`, `dateItems`, `pointItems`), and every field is read at its
offset of section 11.6 (`ImageHolds`). (When the pages change, and
what some bytes of them read, is the model's choice, log entries 4, 38, 40 and 46.) -/
def Obligations.CalendarSubmissionsAreJudged : Prop :=
  (∀ s w, Taken s w → w.kind = 5 →
    exec .calendarSubmit s = .next { s with
      agenda := []
      intake := { s.intake with work := some { w with stage := .calendar } } }) ∧
  (∀ s w, OwnSlot s w → s.intake.work = some w → w.stage = .calendar → s.agenda = [] →
    let m := s.mem
    let points := number m 0x081D 1
    let holidays := number m 0x081E 1
    let windows := number m 0x081F 1
    let refused (code : ResultCode) (item : Nat) : Prop :=
      ∃ t, exec .calendarSubmitApply s = .next t ∧ Completes s t w code item [] ∧ Publishes s t ∧
        SameExcept [.mem, .intake, .attn, .agenda] s t
    if s.window.state = .closed ∨ s.window.rank < 3 then refused .calRank 0
    else if 24 < points then refused .calCount 0x10
    else if 16 < holidays then refused .calCount 0x40
    else if 8 < windows then refused .calCount 0x60
    else
      let c := imageTariff m
      let fieldsFine :=
        -720 ≤ c.offset ∧ c.offset ≤ 840 ∧ (∀ p ∈ c.prices.toList, p ≤ 999999) ∧ c.defaultBand ≤ 5 ∧
        c.standing ≤ 10000000 ∧ (∀ p ∈ c.switchPoints, p.minute ≤ 1439 ∧ p.band ≤ 5) ∧
        (∀ h ∈ c.holidays, h.year = 0 ∨ (2000 ≤ h.year ∧ h.year ≤ 2135)) ∧
        (∀ x ∈ c.windows, x.start < x.stop ∧ x.start ≤ 1439 ∧ x.stop ≤ 1440)
      let datesFine := ∀ h ∈ c.holidays, 1 ≤ h.month ∧ h.month ≤ 12 ∧ 1 ≤ h.day ∧ h.day ≤ daysIn h.year h.month
      let clash := ¬c.switchPoints.Pairwise fun q p => ¬(p.minute = q.minute ∧ p.mask &&& q.mask ≠ 0)
      if ¬fieldsFine then refused .calField (firstItem (fieldItems c))
      else if ¬datesFine then refused .calDate (firstItem (dateItems c))
      else if clash then refused .calDuplicate (firstItem (pointItems c))
      else
        ∃ t, exec .calendarSubmitApply s = .next t ∧
          SameExcept [.intake, .book, .store, .supply] s t ∧
          t.book = { s.book with passive := some c } ∧
          AwaitsWrite s t w ⟨.accepted, 0, le 2 c.id ++ le 4 c.activation⟩) ∧
  ∀ m, ImageHolds m (imageTariff m)

/-! ## Tokens (sections 6.4 to 6.6) -/

/-- R100: a genuine token of each of the ten classes is refused, before the checks of its class, by the first of AUTHORITY,
SERIAL_FORM, SERIAL_OLD, SERIAL_USED and SERIAL_AHEAD that applies; nothing else changes. (When the pages change, and what
some bytes of them read, is the model's choice, log entries 4, 38, 40 and 46.) -/
def Obligations.AuthorityAndSerialRefuse : Prop :=
  ∀ c cls min, (c, cls, min) ∈ tokenRows → ∀ s w p, DecodeEnds s w p → Genuine p → tokenClass p = cls →
    match serialCheck (tokenKey s w) cls (tokenSerial p) min with
    | none => True
    | some code => TokenRefused c s w p code 0

/-- R100, R103, R104, R112: a decode that ends without a genuine plaintext completes with CHECK_FAIL, its class byte 0xFF and
its serial 0, and counts as a bad code; the increase to 5 makes the lockout due, behind which the entry completes. A genuine
plaintext of class 10 to 15 completes with CLASS_UNKNOWN and counts as none. A TEST token with payload 0 completes at once
with its key's authority and expiry, the bad-code count becomes 0 and the token is recorded, and no window, no serial and no
write is touched; with another payload it is refused. (When the pages change, and what some bytes of them read, is the model's
choice, log entries 4, 38, 40 and 46.) -/
def Obligations.TestsAndFailedDecodesComplete : Prop :=
  (∀ s w p, DecodeEnds s w p →
    (¬Genuine p → s.decoder.badCount < 4 →
      ∃ t, exec .tokenDecodeEnd s = .next t ∧ Completes s t w .checkFail 0 (bareHead s w) ∧ Publishes s t ∧
        SameExcept [.mem, .intake, .attn, .agenda, .decoder] s t ∧
        t.decoder = { s.decoder with badCount := s.decoder.badCount + 1 }) ∧
    (¬Genuine p → 4 ≤ s.decoder.badCount →
      exec .tokenDecodeEnd s = .next { s with
        agenda := [.keypadLockoutStart, .complete ⟨.checkFail, 0, bareHead s w⟩] }) ∧
    (Genuine p → 10 ≤ tokenClass p → TokenRefused .tokenDecodeEnd s w p .classUnknown 0)) ∧
  (∀ s w p, Passes s w p 0 1 →
    (tokenPayload p ≠ 0 → TokenRefused .test s w p .payloadRange 0) ∧
    (tokenPayload p = 0 →
      ∃ t, exec .test s = .next t ∧
        Completes s t w .accepted 0 (tokenHead s w p ++ le 1 (tokenKey s w).authority ++ le 3 (tokenKey s w).expiry) ∧
        Publishes s t ∧ SameExcept [.mem, .intake, .attn, .agenda, .decoder] s t ∧
        t.decoder = { s.decoder with badCount := 0, lastToken := ⟨w.source, w.selector, 0, 0⟩ }))

/-- R105, R67, R68: a CREDIT token of 1 to 99,999,999 hundredths adds A = 100 × payload to the balance, less the debt share
min(debt, A × DEBT_RATE / 100), which leaves the debt; a balance above 0 ends the grant; the derived state follows, a change
of the CREDIT reason reaching the switch controller; and the entry waits for its write. A top-up beyond 9,999,999,999 cu is
refused whole with CREDIT_LIMIT. (When the pages change, and what some bytes of them read, is the model's choice, log entries
4, 38, 40 and 46.) -/
def Obligations.CreditTokensTopUp : Prop :=
  ∀ s w p, Passes s w p 1 1 →
    let a := s.credit.account
    let A := tokenPayload p * 100
    let share := min a.debt (A * s.settings.debtRate / 100)
    let B := a.balance + A - share
    (¬(1 ≤ tokenPayload p ∧ tokenPayload p ≤ 99999999) → TokenRefused .credit s w p .payloadRange 0) ∧
    (1 ≤ tokenPayload p → tokenPayload p ≤ 99999999 → 9999999999 < B →
      TokenRefused .credit s w p .creditLimit 0) ∧
    (1 ≤ tokenPayload p → tokenPayload p ≤ 99999999 → B ≤ 9999999999 →
      ∃ t, exec .credit s = .next t ∧
        TokenAccepted s t w p (le 8 A ++ le 8 share ++ leSigned 8 B ++ le 8 (a.debt - share))
          [.credit, .switch, .tamper] ∧
        t.decoder = acceptedDecoder s w p ∧
        t.credit.account = { a with
          balance := B
          debt := a.debt - share
          credited := a.credited + A
          recoveredTopup := a.recoveredTopup + share
          debtRecovered := a.debtRecovered + share
          grant := if 0 < B then 0 else a.grant } ∧
        t.credit = { s.credit with
          account := t.credit.account
          ecState := ecStateOf t.credit.account s.settings
          lowCredit := decide (B ≤ s.settings.lowCredit)
          reason := decide (B ≤ -(t.credit.account.grant : Int)) } ∧
        CreditHanded s t t.credit.reason)

/-- R105, R69, R70: a DEBT_ADD token adds A = 100 × payload to the debt, up to the limit of 9,999,999,999 cu, past which the
DEBT_LIMIT flag is set, and the balance stays. A CLEAR token with payload 1 or 3 sets the credit group to 0, with payload 2 or
3 the debt group; the sticky flags stay. Other payloads are refused. The derived state follows either token. (When the pages
change, and what some bytes of them read, is the model's choice, log entries 4, 38, 40 and 46.) -/
def Obligations.DebtAddAndClearTokens : Prop :=
  (∀ s w p, Passes s w p 2 3 → s.credit.account.debt ≤ 9999999999 →
    let a := s.credit.account
    let A := tokenPayload p * 100
    let added := min A (9999999999 - a.debt)
    (¬(1 ≤ tokenPayload p ∧ tokenPayload p ≤ 99999999) → TokenRefused .debtAdd s w p .payloadRange 0) ∧
    (1 ≤ tokenPayload p → tokenPayload p ≤ 99999999 →
      ∃ t, exec .debtAdd s = .next t ∧
        TokenAccepted s t w p (le 8 added ++ le 8 (a.debt + added) ++
          le 1 (if 9999999999 < a.debt + A then 1 else 0)) [.credit, .switch, .tamper] ∧
        t.decoder = acceptedDecoder s w p ∧
        t.credit.account = { a with
          debt := a.debt + added
          debtAdded := a.debtAdded + added
          debtLimit := a.debtLimit || decide (9999999999 < a.debt + A) } ∧
        t.credit = { s.credit with
          account := t.credit.account
          ecState := ecStateOf a s.settings
          lowCredit := decide (a.balance ≤ s.settings.lowCredit)
          reason := decide (a.balance ≤ -(a.grant : Int)) } ∧
        CreditHanded s t t.credit.reason)) ∧
  (∀ s w p, Passes s w p 3 3 →
    let a := s.credit.account
    let n := tokenPayload p
    let b : Account := if n = 1 ∨ n = 3 then
        ⟨0, 0, a.debt, 0, 0, 0, 0, 0, 0, 0, a.debtAdded, a.debtRecovered, a.balFloor, a.debtLimit, a.energySat,
          a.supplyLoss⟩ else a
    let c : Account := if n = 2 ∨ n = 3 then { b with debt := 0, debtAdded := 0, debtRecovered := 0 } else b
    (n = 0 ∨ 3 < n → TokenRefused .clear s w p .payloadRange 0) ∧
    (1 ≤ n → n ≤ 3 →
      ∃ t, exec .clear s = .next t ∧ TokenAccepted s t w p (le 1 n) [.credit, .switch, .tamper] ∧
        t.decoder = acceptedDecoder s w p ∧
        t.credit = { s.credit with
          account := c
          ecState := ecStateOf c s.settings
          lowCredit := decide (c.balance ≤ s.settings.lowCredit)
          reason := decide (c.balance ≤ -(c.grant : Int)) } ∧
        CreditHanded s t t.credit.reason))

/-- R106, R123: a SETTING token needs a staged record in an open or committing window (WINDOW_REQUIRED), the setting's
authority in the window's rank and in its key (WINDOW_RANK), a known id (SETTING_ID) and a value in range (PAYLOAD_RANGE), in
this order, the ranges of the ids 1 to 16 being those of the table of R130 and of the input modes those of R131; then the
value stands in the staged record, and the active one is as before. (When the pages change, and what some bytes of them read,
is the model's choice, log entries 4, 38, 40 and 46.) -/
def Obligations.SettingTokensStage : Prop :=
  ∀ s w p, Passes s w p 4 0 →
    let id := tokenPayload p / 16777216
    let v := tokenPayload p % 16777216
    let known := 1 ≤ id ∧ id ≤ 19
    let need := if (2 ≤ id ∧ id ≤ 5) ∨ 17 ≤ id then 2 else 3
    if s.window.state = .closed then TokenRefused .setting s w p .windowRequired 0
    else match s.window.staged with
    | none => TokenRefused .setting s w p .windowRequired 0
    | some q =>
      if known ∧ (s.window.rank < need ∨ (tokenKey s w).authority < need) then
        TokenRefused .setting s w p .windowRank id
      else if ¬known then TokenRefused .setting s w p .settingId id
      else if ¬SettingRange id v then TokenRefused .setting s w p .payloadRange id
      else
        ∃ t, exec .setting s = .next t ∧
          TokenAccepted s t w p (le 1 id ++ le 3 (q.toList.getD (id - 1) 0) ++ le 3 v) [.window] ∧
          t.decoder = acceptedDecoder s w p ∧
          t.window = { s.window with staged := t.window.staged } ∧
          t.window.staged.map Settings.toList = some (q.toList.set (id - 1) v)

/-- R107, R119, R122: a WINDOW_OPEN token of 1 to 240 minutes opens a CLOSED window with the key's authority as its rank, the
minutes as seconds and the active settings staged; its hold contribution 2 reaches the switch controller with one evaluation.
Another payload and another window state are refused. (When the pages change, and what some bytes of them read, is the model's
choice, log entries 4, 38, 40 and 46.) -/
def Obligations.WindowOpenTokensOpen : Prop :=
  ∀ s w p, Passes s w p 5 2 →
    let n := tokenPayload p
    (¬(1 ≤ n ∧ n ≤ 240) → TokenRefused .windowOpen s w p .payloadRange 0) ∧
    (1 ≤ n → n ≤ 240 → s.window.state ≠ .closed → TokenRefused .windowOpen s w p .windowBusy 0) ∧
    (1 ≤ n → n ≤ 240 → s.window.state = .closed →
      ∃ t, exec .windowOpen s = .next t ∧
        TokenAccepted s t w p (le 1 (tokenKey s w).authority ++ le 2 (n * 60)) [.window, .switch, .tamper] ∧
        t.decoder = acceptedDecoder s w p ∧
        t.window = ⟨.opened, (tokenKey s w).authority, n * 60, some s.settings, s.window.cause⟩ ∧
        Evaluated { s with switch := { s.switch with windowHold := 2 } } t)

/-- R108, R168: a TAMPER_CLEAR token clears every selected LATCHED record and reports the selected kinds cleared and refused;
ACTIVE records and the others stay, and the TAMPER reason follows. A payload with bits above 9 is refused. (When the pages
change, and what some bytes of them read, is the model's choice, log entries 4, 38, 40 and 46.) -/
def Obligations.TamperClearTokensClear : Prop :=
  ∀ s w p, Passes s w p 6 2 →
    let n := tokenPayload p
    let picked (x : TamperState) (k : Nat) : Bool :=
      n.testBit k && (s.tamper.records.toList.map fun r => decide (r.state = x)).getD k false
    let maskOfKinds (f : Nat → Bool) : Nat := ((List.range 10).map fun k => if f k then 2 ^ k else 0).sum
    (1024 ≤ n → TokenRefused .tamperClear s w p .payloadRange 0) ∧
    (n < 1024 →
      ∃ t, exec .tamperClear s = .next t ∧
        TokenAccepted s t w p (le 2 (maskOfKinds (picked .latched)) ++ le 2 (maskOfKinds (picked .active)))
          [.tamper, .switch] ∧
        t.decoder = acceptedDecoder s w p ∧
        RecordsChanged s t (Vector.ofFn fun k : Fin 10 =>
          if n.testBit k ∧ s.tamper.records[k].state = .latched then ⟨.clear, 0, 0, 0, 0, 0, 0, false⟩
          else s.tamper.records[k]))

/-- R110, R111: a KEY_CHANGE token needs an authority that reaches the new one and that of the slot it replaces (KEY_TARGET),
and a revision above the target's (KEY_REVISION). Its serial is spent in the decoding slot, and then the target holds the new
key: the low 64 bits of T_K of the plaintext with its check field 0, with the authority, revision and expiry of the payload
and an empty window. (When the pages change, and what some bytes of them read, is the model's choice, log entries 4, 38, 40
and 46.) -/
def Obligations.KeyChangeTokensInstall : Prop :=
  ∀ s w p, Passes s w p 7 3 →
    let n := tokenPayload p
    let target := n / 1073741824
    let authority := n / 268435456 % 4 + 1
    let revision := n / 1048576 % 256
    let expiry := n % 1048576
    let k := tokenKey s w
    let old := s.decoder.key target
    let fits := authority ≤ k.authority ∧ (old.present = true → old.authority ≤ k.authority)
    (¬fits → TokenRefused .keyChange s w p .keyTarget target) ∧
    (fits → revision ≤ old.revision → TokenRefused .keyChange s w p .keyRevision target) ∧
    (fits → old.revision < revision →
      ∃ t, exec .keyChange s = .next t ∧
        TokenAccepted s t w p (le 1 target ++ le 1 authority ++ le 1 revision ++ le 3 expiry) [] ∧
        t.decoder = (acceptedDecoder s w p).setKey target
          ⟨true, authority, revision, (Config.transform k.key (p.extractLsb' 16 56 ++ (0 : BitVec 16))).extractLsb' 0 64,
            expiry, 0, [], 0⟩)

/-- R109: a REMOTE_OPEN token with payload 0 sets the REMOTE order and a REMOTE_CLOSE token clears it; both report the order
before and after, and a change of it raises or clears the REMOTE reason with one evaluation, whose change of contactor state
or governing reason makes SWITCH attention due (R137). An order that stands already changes nothing. (When the pages change,
and what some bytes of them read, is the model's choice, log entries 4, 38, 40 and 46.) -/
def Obligations.RemoteTokensOrder : Prop :=
  ∀ on s w p, Passes s w p (if on then 8 else 9) 3 →
    let c : Instr := if on then .remoteOpen else .remoteClose
    (tokenPayload p ≠ 0 → TokenRefused c s w p .payloadRange 0) ∧
    (tokenPayload p = 0 →
      ∃ t, exec c s = .next t ∧
        TokenAccepted s t w p
          (le 1 (if s.decoder.remoteOrder then 1 else 0) ++ le 1 (if on then 1 else 0)) [.switch, .tamper] ∧
        t.decoder = { acceptedDecoder s w p with remoteOrder := on } ∧
        HandOff s (withReasons s { s.switch.reasons with remote := on }) t
          (s.decoder.remoteOrder ≠ on ∧ s.switch.reasons.remote ≠ on) ∧
        (s.decoder.remoteOrder ≠ on → s.switch.reasons.remote ≠ on →
          t.switch.contactor ≠ s.switch.seenContactor ∨ t.switch.governing ≠ s.switch.seenGoverning →
          t.attn.due.getLsbD 1 = true))

/-- R95, R96: after a serial has been spent, the same serial is never let past check 10 again, and neither is one that was
turned away as old or used before; the floor never falls, and the spent set keeps its order and its 32 places. -/
def Obligations.SpentSerialsStaySpent : Prop :=
  ∀ k cls n min, LawfulKey k → n < 1048576 → serialCheck k cls n min = none → cls ≠ 0 →
    let l := k.spend n
    LawfulKey l ∧ k.floor ≤ l.floor ∧ l.lastSerial = n ∧
    l.present = k.present ∧ l.authority = k.authority ∧ l.revision = k.revision ∧ l.key = k.key ∧ l.expiry = k.expiry ∧
    serialCheck l cls n min = some .serialUsed ∧
    ∀ m, serialCheck k cls m min ≠ none → ¬k.floor + 1024 < m → serialCheck l cls m min ≠ none

/-! ## Publications and retention writes -/

/-- R14, R17: a publication that ends makes the counter even and raises the bits it carries; where a further one is queued, it
begins at once: the counter is odd again, the pages show the state as it stands, and it carries the bits that were due.
Without one in progress nothing happens. (That the pages change as one at its beginning, and what some bytes of them read, is
the model's choice, log entries 4, 38 and 40; that an event which has not come about does nothing, entry 12.) -/
def Obligations.PublicationsEnd : Prop :=
  ∀ s, s.agenda = [] → s.mem.wf = true →
    (s.attn.busy = false → exec .publicationEnd s = .next s) ∧
    (s.attn.busy = true →
      ∃ t, exec .publicationEnd s = .next t ∧ SameExcept [.mem, .attn] s t ∧
        (s.attn.queued = false →
          t.attn = { s.attn with bits := s.attn.bits ||| s.attn.inFlight, inFlight := 0, busy := false, queued := false } ∧
          generation t.mem = (generation s.mem + 1) % 4294967296 ∧ ∀ a, 4 ≤ a → t.mem.read a = s.mem.read a) ∧
        (s.attn.queued = true →
          t.attn = { s.attn with
            bits := s.attn.bits ||| s.attn.inFlight, inFlight := s.attn.due, due := 0, busy := true, queued := false } ∧
          generation t.mem = (generation s.mem + 2) % 4294967296 ∧ PagesShow t ∧
          ∀ a, inPages a = false → t.mem.read a = s.mem.read a))

/-- R180, R181, R126: the write in progress completes: the image takes it whole, its number and set become those of the last
completed write, and a reset write that waited on it is done. The entry that waited on it completes with its result, a window
commit ending the window first. Requests made meanwhile begin one further write, under the next number, of the other set, from
the sections as they then stand. In START the last step of the start is then due. (The order of the completion and the next
write is the model's choice, log entry 7, the completion slot where neither has been written entry 30, and when the pages
change, and what some bytes of them read, entries 4, 38, 40 and 46.) -/
def Obligations.RetentionWritesComplete : Prop :=
  ∀ s w, s.agenda = [] → s.store.writing = some w →
    ∃ t, exec .retentionWriteComplete s = .next t ∧
      ImageTook s.store.image t.store.image w ∧ t.store.lastNumber = w.number ∧
      (w.target = .a → t.store.lastSet = .a) ∧ (w.target = .b → t.store.lastSet = .b) ∧
      (s.supply.resetWrite = .waiting .current → t.supply.resetWrite = .done) ∧
      (s.store.requested = false →
        t.store = { s.store with
          image := t.store.image, writing := none, lastNumber := w.number, lastSet := t.store.lastSet } ∧
        t.supply = { s.supply with resetWrite := t.supply.resetWrite } ∧
        (s.supply.resetWrite ≠ .waiting .current → t.supply.resetWrite = s.supply.resetWrite)) ∧
      (s.store.requested = true →
        t.store = { s.store with
          image := t.store.image
          writing := some ⟨w.number + 1, (match w.target with | .a => .b | .b => .a), sectionsOf t⟩
          requested := false
          lastNumber := w.number
          lastSet := t.store.lastSet
          periodic := 0 } ∧
        (s.supply.resetWrite = .waiting .next → t.supply.resetWrite = .waiting .current)) ∧
      ((∀ x, s.intake.work = some x → ∀ r, x.stage ≠ .waiting .current r) →
        SameExcept [.agenda, .intake, .store, .supply] s t ∧
        t.agenda = (if s.supply.power = .start then [.startReady] else []) ∧
        t.intake.list = s.intake.list ∧ t.intake.ready = s.intake.ready ∧
        t.intake.work = s.intake.work.map (fun x => { x with
          stage := if s.store.requested then x.stage.writeBegun else x.stage })) ∧
      (∀ x r, OwnSlot s x → s.intake.work = some x → x.stage = .waiting .current r → s.supply.power ≠ .start →
        Completes s t x r.code r.item (r.body.take 58) ∧
        (s.store.requested = false → Publishes s t) ∧
        (x.kind ≠ 6 → SameExcept [.mem, .intake, .attn, .agenda, .store, .supply] s t) ∧
        (x.kind = 6 → SameExcept [.mem, .intake, .attn, .agenda, .store, .supply, .window, .switch, .tamper] s t ∧
          t.window = ⟨.closed, 0, 0, none, .committed⟩ ∧
          Evaluated { s with switch := { s.switch with windowHold := 0 } } t))

/-! ## Metering (chapter 2) -/

/-- R22 to R31, R54, R62, R63: in MAINS a full interval's close takes the measurements in, activates a calendar that is due,
registers and charges its billed import in the band in force, and goes on with the judgment of an attempt, the timers and
counters of the load limiter and of STUCK, the run counters, the countdowns and the publication, in this order. A phase beyond
the range sets ENERGY_SAT. An activation asks for a retention write, brings the day ends of the new calendar and its friendly
state, and marks CALENDAR attention; a write that begins there takes the account before the charge. The close can fall between
two day ends of a catch-up in progress (R66), which then goes on behind it. Outside MAINS there is no interval. The calendars
are in the ranges of R47, which every step keeps. (The order of the countdowns behind the run counters is the model's choice,
log entry 5; that an activation's effects come before the charge entry 31, how other arrivals meet its catch-up entry 32, and
that VBAT is sampled before the publication entry 44.) -/
def Obligations.IntervalsMeasureAndCharge : Prop :=
  (∀ m s, s.agenda = [] → s.supply.power ≠ .mains → exec (.intervalClose m) s = .next s) ∧
  (∀ m s, (s.agenda = [] ∨ ∃ rest, BetweenDays s rest) → LawfulBook s.book → s.supply.power = .mains →
      let n := if s.agenda = [] then activationDays s else 0
      let k := daysAtOnce s n
      ∃ t, exec (.intervalClose m) s = .next (advance t) ∧
        t.agenda = [.judge, .stuckTimer, .stuckTest, .retryTimer, .overCount, .cleanRun, .condition .reverse,
          .condition .voltage, .condition .bypass, .weld, .lockoutCount, .windowCount, .periodicCount, .publish] ++
          (if k < n then [.catchUp true, .friendly] else s.agenda) ∧
        (let e1 := phaseEnergy m.energy.l1 m.current.l1
         let e2 := phaseEnergy m.energy.l2 m.current.l2
         let e3 := phaseEnergy m.energy.l3 m.current.l3
         let sum := imported s.meter.law e1 e2 e3
         let volt (v : Nat) : Nat := min v 5000
         Billed s t k sum (exported s.meter.law e1 e2 e3) 1000
           (decide (16777215 < m.energy.l1.natAbs ∨ 16777215 < m.energy.l2.natAbs ∨ 16777215 < m.energy.l3.natAbs)) ∧
         t.meter = { s.meter with
           energies := ⟨e1, e2, e3⟩
           voltage := ⟨volt m.voltage.l1, volt m.voltage.l2, volt m.voltage.l3⟩
           current := ⟨min m.current.l1 200000, min m.current.l2 200000, min m.current.l3 200000⟩
           neutral := min m.neutral 200000
           residual := min m.residual 600000
           frequency := if m.voltage.l1 ≤ 800 ∧ m.voltage.l2 ≤ 800 ∧ m.voltage.l3 ≤ 800 then 0
             else max 40000 (min m.frequency 70000)
           power := ⟨(e1 * 3600).tdiv 1000000, (e2 * 3600).tdiv 1000000, (e3 * 3600).tdiv 1000000⟩
           measured := sum * 3600 / 1000000
           billed := t.meter.billed
           band := t.meter.band
           substituted := t.meter.substituted
           supplySide := ⟨decide (800 < m.voltage.l1), decide (800 < m.voltage.l2), decide (800 < m.voltage.l3)⟩
           loadSide := m.loadSide }) ∧
        (let sat := decide (16777215 < m.energy.l1.natAbs ∨ 16777215 < m.energy.l2.natAbs ∨ 16777215 < m.energy.l3.natAbs)
         let u : State := { s with supply := { s.supply with batteryLow := decide (m.vbat < 2600) } }
         (¬CalendarDue s →
           SameExcept [.agenda, .attn, .meter, .energy, .credit, .switch, .tamper, .supply] s t ∧
           t.supply = u.supply ∧ CreditHanded s t t.credit.reason) ∧
         (CalendarDue s →
           SameExcept [.agenda, .intake, .attn, .meter, .energy, .book, .credit, .decoder, .switch, .tamper, .store,
             .supply, .catchUp] s t ∧
           Activated s t k n ∧ t.catchUp = catchUpBegun s k n ∧
           t.decoder = { s.decoder with badCount := if 0 < k then 0 else s.decoder.badCount } ∧
           StoreAsked u t { sectionsOf s with
             account := saturatedIf s.credit.account sat
             book := activated s } ∧
           RequestersTold s t s.intake)))

/-- R21, R34, R38, R113, R120, R146, R149, R151, R152, R181: what each counter and countdown does within an interval's close,
and which step it makes due; when STUCK turns to CLOSED of itself; what the publication at the end latches for the next
interval; and R35 to R37, the three conditions on the results of the last full interval. (When the pages change, and what some
bytes of them read, is the model's choice, log entries 4, 38 and 40; the order of the steps of a close, entry 5.) -/
def Obligations.IntervalCountersCount : Prop :=
  (∀ s r, s.agenda = r →
    let w := s.switch
    runDue .stuckTimer s =
      (if w.contactor = .stuck ∧ w.attempt = .idle ∧ 0 < w.stuckTimer then
        { s with
          switch := { w with stuckTimer := w.stuckTimer - 1 }
          agenda := if w.stuckTimer = 1 then .stuckRetry :: r else r }
      else s) ∧
    runDue .retryTimer s =
      (if w.reasons.load = true ∧ w.kept.loadLatch = false ∧ 0 < w.retryTimer then
        { s with
          switch := { w with retryTimer := w.retryTimer - 1 }
          agenda := if w.retryTimer = 1 then .loadRetryExpiry :: r else r }
      else s) ∧
    runDue .overCount s =
      (let exceeds := w.contactor = .closed ∧ 0 < s.settings.loadLimit ∧ w.reasons.load = false ∧
          s.settings.loadLimit < s.meter.measured
       let n := if exceeds then w.overCount + 1 else 0
       { s with
          switch := { w with overCount := n }
          agenda := if exceeds ∧ s.settings.loadTripDelay ≤ n then .loadTrip :: r else r }) ∧
    runDue .cleanRun s =
      (if w.contactor = .closed then
        { s with
          switch := { w with cleanRun := w.cleanRun + 1 }
          agenda := if 1800 ≤ w.cleanRun + 1 then .cleanRunComplete :: r else r }
      else { s with switch := { w with cleanRun := 0 } }) ∧
    (∀ c, runDue (.condition c) s =
      (let q := qualification c s.meter
       let n := if conditionHolds c s.meter = q.reported then 0 else q.run + 1
       { s with
          meter := setQualification c ⟨q.reported, n⟩ s.meter
          agenda := if 10 ≤ n then .conditionQualified c :: r else r })) ∧
    runDue .weld s =
      (let evidence := s.meter.loadSide.l1 = true ∨ s.meter.loadSide.l2 = true ∨ s.meter.loadSide.l3 = true ∨
          100 < s.meter.current.l1 ∨ 100 < s.meter.current.l2 ∨ 100 < s.meter.current.l3
       let n := if w.contactor = .opened ∧ evidence then s.meter.weld + 1 else 0
       { s with
          meter := { s.meter with weld := n }
          agenda := if 3 ≤ n then .weldObservation :: r else r }) ∧
    runDue .lockoutCount s =
      { s with
        decoder := { s.decoder with lockout := s.decoder.lockout - 1 }
        agenda := if s.decoder.lockout = 1 then .keypadLockoutEnd :: r else r } ∧
    runDue .windowCount s =
      (if s.window.state = .closed then s else
        { s with
          window := { s.window with remaining := s.window.remaining - 1 }
          agenda := if s.window.remaining = 1 then .windowExpiry :: r else r }) ∧
    runDue .periodicCount s =
      { s with
        store := { s.store with periodic := s.store.periodic + 1 }
        agenda := if s.store.periodic + 1 = 3600 then .periodicWriteDue :: r else r } ∧
    runDue .stuckTest s =
      (if w.contactor = .stuck ∧ w.acting = Reasons.empty ∧ w.attempt = .idle ∧ closeCondition s = true then
        let t : State := { s with
          switch := { w with
            contactor := .closed
            cleanRun := 0
            fault := false
            kept := { w.kept with commandedClosed := true, openedBy := Reasons.empty, manualClose := false } }
          tamper := if w.fault then { s.tamper with
              records := s.tamper.records.set kindSwitch (goneRecord s kindSwitch) } else s.tamper }
        markSwitch t
      else s) ∧
    SameExcept [.mem, .attn, .meter] s (runDue .publish s) ∧ Publishes s (runDue .publish s) ∧
    (s.attn.busy = true → (runDue .publish s).mem = s.mem ∧ (runDue .publish s).attn.queued = true) ∧
    (runDue .publish s).meter = { s.meter with law := s.settings.summationLaw, magnetPower := s.settings.magnetPower }) ∧
  (∀ m : Meter,
    (conditionHolds .reverse m = true ↔ (m.law = 0 ∨ m.law = 1) ∧
      (m.energies.l1 ≤ -13889 ∨ m.energies.l2 ≤ -13889 ∨ m.energies.l3 ≤ -13889) ∧
      (13889 ≤ m.energies.l1 ∨ 13889 ≤ m.energies.l2 ∨ 13889 ≤ m.energies.l3)) ∧
    (conditionHolds .voltage m = true ↔ (m.voltage.l1 < 400 ∧ 500 < m.current.l1) ∨
      (m.voltage.l2 < 400 ∧ 500 < m.current.l2) ∨ (m.voltage.l3 < 400 ∧ 500 < m.current.l3)) ∧
    (conditionHolds .bypass m = true ↔
      (if 4000 < m.neutral then m.neutral else 4000) <
        8 * (if m.residual ≤ m.neutral then m.neutral - m.residual else m.residual - m.neutral)))

/-- R34, R160: a condition whose run counter has reached 10 changes its reported state, its counter returns to 0, and the tamper
monitor is told: present, which enters a record that is not ACTIVE and leaves an ACTIVE one as it is; or gone. -/
def Obligations.ConditionsQualify : Prop :=
  ∀ c s rest, s.agenda = .conditionQualified c :: rest →
    let k := conditionKind c
    let q := qualification c s.meter
    let m := setQualification c ⟨!q.reported, 0⟩ s.meter
    (q.reported = true →
      exec (.conditionQualified c) s = .next (advance { s with
        agenda := rest
        meter := m
        tamper := { s.tamper with records := s.tamper.records.set k (goneRecord s k) } })) ∧
    (q.reported = false → s.tamper.records[k].state = .active →
      exec (.conditionQualified c) s = .next (advance { s with agenda := rest, meter := m })) ∧
    (q.reported = false → s.tamper.records[k].state ≠ .active →
      ∃ t, exec (.conditionQualified c) s = .next (advance t) ∧ t.agenda = rest ∧ t.meter = m ∧
        Entered { s with meter := m } t k ∧
        SameExcept [.agenda, .intake, .attn, .meter, .switch, .tamper, .store, .supply] s t)

/-! ## The load limiter and the contactor (chapter 8) -/

/-- R150 to R152: a trip zeroes the over-count and the clean-run count, counts up to 9, sets the retry timer and raises LOAD;
the timer's expiry clears LOAD below LOAD_LOCKOUT_TRIPS trips and sets the latch from there on, each with one evaluation; and
a complete clean run zeroes its count and the trip count. (That a trip at a count of 9 leaves it at 9 is the model's choice,
log entry 35.) -/
def Obligations.LoadLimiterTripsAndRecovers : Prop :=
  (∀ s rest, s.agenda = .loadTrip :: rest →
    let w : Switch := { s.switch with
      overCount := 0
      retryTimer := s.settings.loadRetryDelay
      cleanRun := 0
      kept := { s.switch.kept with tripCount := min 9 (s.switch.kept.tripCount + 1) } }
    ∃ t, exec .loadTrip s = .next (advance t) ∧ t.agenda = rest ∧ SameExcept [.agenda, .attn, .switch, .tamper] s t ∧
      HandOff { s with switch := w } { s with switch := { w with reasons := { w.reasons with load := true } } } t
        (s.switch.reasons.load = false)) ∧
  (∀ s rest, s.agenda = .loadRetryExpiry :: rest →
    ∃ t, exec .loadRetryExpiry s = .next (advance t) ∧ t.agenda = rest ∧
      SameExcept [.agenda, .attn, .switch, .tamper] s t ∧
      (s.switch.kept.tripCount < s.settings.loadLockoutTrips →
        HandOff s (withReasons s { s.switch.reasons with load := false }) t (s.switch.reasons.load = true)) ∧
      (s.settings.loadLockoutTrips ≤ s.switch.kept.tripCount →
        Evaluated { s with switch := { s.switch with kept := { s.switch.kept with loadLatch := true } } } t)) ∧
  (∀ s rest, s.agenda = .cleanRunComplete :: rest →
    exec .cleanRunComplete s = .next (advance { s with
      agenda := rest
      switch := { s.switch with cleanRun := 0, kept := { s.switch.kept with tripCount := 0 } } }))

/-- R139, R140, R145, R154: the end of a coil pulse begins the confirmation wait, which HOLDUP puts off; the end of the wait
leaves the attempt to be judged; and the STUCK retry timer's end begins one attempt, open while a reason acts and close
otherwise, that leaves the commanded position. Outside these states of an attempt none of the three does anything (the
model's choice for events that have not come about, log entry 12). That the end of a pulse begun before HOLDUP entry begins a
wait where MAINS has returned meanwhile is the model's choice, log entry 41. -/
def Obligations.PulsesAndWaitsEnd : Prop :=
  (∀ s, s.agenda = [] →
    exec .coilPulseEnd s = .next { s with switch := { s.switch with
      attempt := match s.switch.attempt with
        | .pulse w => if s.supply.power = .holdup then .rewait w else .wait w
        | x => x } }) ∧
  (∀ s, s.agenda = [] →
    exec .confirmationWaitEnd s = .next { s with switch := { s.switch with
      attempt := match s.switch.attempt with
        | .wait w => .judge w
        | x => x } }) ∧
  (∀ s rest, s.agenda = .stuckRetry :: rest →
    let w : Winding := if s.switch.acting = Reasons.empty then .close else .open
    exec .stuckRetry s = .next (advance { s with
      agenda := rest
      switch :=
        if s.switch.contactor = .stuck ∧ s.switch.attempt = .idle then
          if driven s then { s.switch with attempt := .pulse w, attemptCount := s.switch.attemptCount + 1 }
          else { s.switch with attempt := .deferred w }
        else s.switch }))

/-- R139 to R142, R145: the judgment of an attempt whose wait has ended. Unconfirmed, the third attempt of an operation fails
it, an earlier one is followed by another, and one in STUCK starts the retry timer again. A confirmed open leads to OPEN
or ARMED and an evaluation; a confirmed close to CLOSED, or on to OPENING where a reason acts. A failed open ends in STUCK
with the fault present; a failed close in OPEN, with the position OPEN and the manual-close mark set. -/
def Obligations.AttemptsAreJudged : Prop :=
  ∀ s w, s.switch.attempt = .judge w → s.supply.power = .mains → s.switch.acting = actingSet s →
    let t := runDue .judge s
    let confirmed := attemptConfirmed w s = true
    let quiet := actingSet s = Reasons.empty
    let done : Switch := { s.switch with attempt := .idle, attemptCount := 0 }
    let sound : Switch := { done with fault := false }
    let told : Tamper := if s.switch.fault then { s.tamper with
      records := s.tamper.records.set kindSwitch (goneRecord s kindSwitch) } else s.tamper
    let shut : Switch := { sound with
      contactor := .closed
      cleanRun := 0
      kept := { s.switch.kept with commandedClosed := true, openedBy := Reasons.empty, manualClose := false } }
    let reopening : Switch := { sound with
      contactor := .opening
      attempt := .pulse .open
      attemptCount := 1
      kept := { s.switch.kept with commandedClosed := false } }
    (confirmed → w = .open →
      Evaluated { s with
        switch := { sound with contactor := if quiet then .armed else .opened }, tamper := told } t) ∧
    (confirmed → w = .close → s.switch.contactor ≠ .stuck →
      t.tamper = told ∧ t.switch = { (if quiet then shut else reopening) with
        seenContactor := t.switch.contactor, seenGoverning := s.switch.governing }) ∧
    (confirmed → w = .close → s.switch.contactor = .stuck →
      Evaluated { s with switch := if quiet then shut else reopening, tamper := told } t) ∧
    (¬confirmed → s.switch.contactor = .stuck →
      Evaluated { s with switch := { done with stuckTimer := 60 } } t) ∧
    (¬confirmed → s.switch.contactor ≠ .stuck → s.switch.attemptCount < 3 →
      t = { s with switch := { s.switch with
        attempt := .pulse w
        attemptCount := s.switch.attemptCount + 1
        kept := { s.switch.kept with commandedClosed := decide (w = .close) } } }) ∧
    (¬confirmed → w = .open → s.switch.contactor ≠ .stuck → 3 ≤ s.switch.attemptCount →
      t.tamper.reason = s.tamper.reason →
      t.switch = { done with
        contactor := .stuck
        stuckTimer := 60
        fault := true
        seenContactor := .stuck
        seenGoverning := s.switch.governing } ∧
      t.tamper.records = if s.switch.fault then s.tamper.records else presentRecords s kindSwitch) ∧
    (¬confirmed → w = .close → s.switch.contactor ≠ .stuck → 3 ≤ s.switch.attemptCount →
      t.switch.kept.manualClose = true ∧ t.switch.kept.commandedClosed = false ∧ t.switch.fault = true ∧
      t.switch.attempt = .idle ∧ t.switch.attemptCount = 0 ∧ t.switch.acting = actingSet t ∧
      (actingSet t = Reasons.empty → t.switch.contactor = .armed) ∧
      (actingSet t ≠ Reasons.empty → t.switch.contactor = .opened) ∧
      t.tamper.records = if s.switch.fault then s.tamper.records else presentRecords s kindSwitch)

/-- R38, R144, R146: a weld observation zeroes the weld counter; in OPEN it takes the contactor to STUCK with the retry timer at
60 and the switch fault present, which the SWITCH record tells; where that makes the TAMPER reason active and H is below 3,
TAMPER acts at once. Elsewhere nothing else changes. -/
def Obligations.WeldsAreObserved : Prop :=
  ∀ s rest, s.agenda = .weldObservation :: rest →
    let m : Meter := { s.meter with weld := 0 }
    (s.switch.contactor ≠ .opened →
      exec .weldObservation s = .next (advance { s with agenda := rest, meter := m })) ∧
    (s.switch.contactor = .opened → s.switch.fault = true →
      ∃ t, exec .weldObservation s = .next (advance t) ∧ SameExcept [.agenda, .attn, .meter, .switch] s t ∧
        t.agenda = rest ∧ t.meter = m ∧
        t.switch = { s.switch with
          contactor := .stuck, stuckTimer := 60, seenContactor := .stuck, seenGoverning := s.switch.governing }) ∧
    (s.switch.contactor = .opened → s.switch.fault = false →
      let u : State := { s with
        meter := m, switch := { s.switch with contactor := .stuck, stuckTimer := 60, fault := true } }
      ∃ t, exec .weldObservation s = .next (advance t) ∧ t.agenda = rest ∧
        SameExcept [.agenda, .intake, .attn, .meter, .switch, .tamper, .store, .supply] s t ∧ t.meter = m ∧
        (s.tamper.records[kindSwitch].state ≠ .active →
          StoreAsked u t { sectionsOf s with records := presentRecords s kindSwitch } ∧
          RequestersTold s t s.intake ∧ t.attn.due.getLsbD 3 = true) ∧
        (tamperReasonOf (presentRecords s kindSwitch) = s.tamper.reason →
          t.tamper = { s.tamper with records := presentRecords s kindSwitch } ∧
          t.switch = { s.switch with
            contactor := .stuck, stuckTimer := 60, fault := true, seenContactor := .stuck,
            seenGoverning := s.switch.governing }) ∧
        (tamperReasonOf (presentRecords s kindSwitch) = true → s.tamper.reason = false → s.switch.reasons.tamper = false →
          handing s = true → holdLevel s < 3 → s.tamper.records[kindSwitch].state ≠ .active →
          t.tamper = { s.tamper with records := presentRecords s kindSwitch, reason := true } ∧
          t.switch.contactor = .stuck ∧ t.switch.fault = true ∧ t.switch.stuckTimer = 60 ∧
          t.switch.reasons.tamper = true ∧ t.switch.acting.tamper = true))

/-! ## The ends of countdowns -/

/-- R118, R121, R122: the expiry drops an OPEN window with end cause EXPIRED, its hold contribution falling to 0 with one
evaluation; in COMMITTING and in CLOSED it does nothing. R180, R181: the periodic write is asked for like any other; and
where no write is in progress, none completes (the model's choice, log entry 12). -/
def Obligations.CountdownsEnd : Prop :=
  (∀ s rest, s.agenda = .windowExpiry :: rest →
    (s.window.state ≠ .opened → exec .windowExpiry s = .next (advance { s with agenda := rest })) ∧
    (s.window.state = .opened →
      ∃ t, exec .windowExpiry s = .next (advance t) ∧ t.agenda = rest ∧
        SameExcept [.agenda, .attn, .window, .switch, .tamper] s t ∧
        t.window = ⟨.closed, 0, 0, none, .expired⟩ ∧
        Evaluated { s with switch := { s.switch with windowHold := 0 } } t)) ∧
  (∀ s rest, s.agenda = .periodicWriteDue :: rest →
    ∃ t, exec .periodicWriteDue s = .next (advance t) ∧ t.agenda = rest ∧
      StoreAsked s t (sectionsOf s) ∧ RequestersTold s t s.intake ∧
      SameExcept [.agenda, .intake, .store, .supply] s t) ∧
  (∀ s, s.agenda = [] → s.store.writing = none → exec .retentionWriteComplete s = .next s)

/-! ## Time (chapter 3) and the sense inputs (section 9.3) -/

/-- R40, R41, R48 to R50, R56, R64 to R66, R112: a second advances meter time to its end at 2^32 − 1 at most. In MAINS and at
start step 3, while the time is CERTAIN, each local date passed since the last charged one brings a day end, at most 366: the
standing charge, then the debt recovery out of what is left above 0; and the bad-code count becomes 0. The friendly state goes
to the switch controller when it differs from the one last handed. In MAINS, where a catch-up has two day ends or more, other
arrivals fall between them (R66) at points that are the part's own: a token's apply between two has the effect that it has
alone, and the catch-up then goes on to its last day end, on the current local date, and to what stands behind it, fewer
than 128 steps. Local date
and minute, day type, band and friendly period are those that the active calendar says, and local dates are the days from
2000-01-01 on. (That the day ends come before the friendly evaluation is the model's choice, log entry 33; how other arrivals
meet a catch-up entry 32; that no run has 128 steps due behind one, entry 29.) -/
def Obligations.SecondsPass : Prop :=
  CivilDates ∧ (∀ c now, CalendarSays c now) ∧
  (∀ pins s, s.agenda = [] → s.supply.power ≠ .battery →
    let now := min 4294967295 (s.clock.time + 1)
    let n := dayEndsAt s
      (s.clock.certain && (decide (s.supply.power = .mains) ||
        (decide (s.supply.power = .start) && decide (s.supply.startStep = 2)))) now
    let k := if s.supply.power = .start then n else daysAtOnce s n
    let friendly := s.clock.certain && friendlyPeriod s.book.active now
    ∃ t, exec (.meterSecond pins) s = .next t ∧
      SameExcept [.agenda, .clock, .book, .credit, .decoder, .switch, .tamper, .attn, .catchUp] s t ∧
      t.clock = { s.clock with time := now } ∧
      t.book = { s.book with lastCharged := chargedDate s k n (localDate now s.book.active) } ∧
      DaysEnded s t k ∧
      t.agenda = (if k < n then [.catchUp false, .friendly] else []) ∧
      (s.supply.power ≠ .start → t.catchUp = catchUpBegun s k n) ∧
      t.switch.friendly = (if handing s = true ∧ k = n then friendly else s.switch.friendly) ∧
      (n = 0 →
        HandOff s { s with switch := { s.switch with friendly := friendly } } t
          (handing s = true ∧ friendly ≠ s.switch.friendly))) ∧
  (∀ x ∈ tokenRows, ∀ s rest, BetweenDays s rest →
    ∃ t, exec x.1 { s with agenda := [] } = .next t ∧
      exec x.1 s = .next (advance { t with agenda := t.agenda ++ s.agenda })) ∧
  (∀ s rest, BetweenDays s rest → rest.length < 128 → s.attn.busy = false →
    let n := daysToCome s
    let k := min n (Config.dayEndsTogether s.catchUp.choices)
    ∃ u : State, exec .publicationEnd s = .next (if k < n then u else advance { u with agenda := rest }) ∧
      SameExcept [.book, .credit, .decoder, .switch, .tamper, .attn, .catchUp] s u ∧
      u.book = { s.book with lastCharged := chargedDate s k n (localDate s.clock.time s.book.active) } ∧
      DaysEnded s u k ∧
      u.catchUp = ⟨s.catchUp.issued + k, s.catchUp.choices + 1⟩)

/-- R40, R169: in BATTERY a second advances meter time and takes one sample of the case and the cover pin: a change to the
active level is counted, up to 65,535, and the first of them leaves its time. R175: the domain is lost when VBAT fails in
BATTERY. (That the sample is taken after the second's advance of meter time is the model's choice, log entry 43; that a lost
domain keeps no time, log entry 21; the values at which it stands, log entry 2; that BATTERY_DOMAIN_LOSS does nothing outside
BATTERY, log entry 12.) -/
def Obligations.BatteryKeepsTime : Prop :=
  (∀ p s, s.agenda = [] → s.supply.power = .battery → s.battery.intact = true →
    let now := min 4294967295 (s.clock.time + 1)
    let active (mode : Nat) (high : Bool) : Bool := high != mode.testBit 9
    exec (.meterSecond p) s = .next { s with
      clock := { s.clock with time := now }
      battery := { s.battery with
        caseIn := watched s.battery.caseIn now (active s.battery.caseIn.mode p.caseHigh)
        coverIn := watched s.battery.coverIn now (active s.battery.coverIn.mode p.coverHigh) } }) ∧
  (∀ p s, s.agenda = [] → s.supply.power = .battery → s.battery.intact = false →
    exec (.meterSecond p) s = .next s) ∧
  (∀ s, s.agenda = [] →
    exec .batteryDomainLoss s = .next (if s.supply.power = .battery then { s with
      clock := ⟨0, .crystal, false, false⟩
      battery := ⟨false, true, ⟨0, 0, false, 5⟩, ⟨0, 0, false, 5⟩, 5⟩ } else s))

/-- R42, R43: when the crystal stops, the time base moves to the backup oscillator and the time becomes UNCERTAIN. In BATTERY
the failure is marked; elsewhere CALENDAR attention is due if the time was CERTAIN, a friendly period ends, and once the
tamper section is restored CLOCK is reported present. When the crystal returns, the time base moves back, CLOCK is
reported gone, and the certainty stays. A battery domain that is lost has no time base. (That a stop of a crystal not in use
and a return to one in use do nothing is the model's choice, log entry 12; a lost battery domain, log entry 21; that the CLOCK
report and the write that it asks for come before the friendly evaluation, log entry 33; and that in START before step 1 has
ended a stop and a return leave the tamper records as they are, since a CLOCK report reaches no record there, log entry 34.) -/
def Obligations.CrystalsStopAndReturn : Prop :=
  ∀ s, s.agenda = [] →
    (s.supply.power = .battery → s.battery.intact = false →
      exec .crystalStop s = .next s ∧ exec .crystalReturn s = .next s) ∧
    ((s.supply.power = .battery → s.battery.intact = true) →
    let early := s.supply.power = .battery ∨ (s.supply.power = .start ∧ s.supply.startStep = 0)
    (s.clock.source = .backup → exec .crystalStop s = .next s) ∧
    (s.clock.source = .crystal → exec .crystalReturn s = .next s) ∧
    (s.clock.source = .backup →
      exec .crystalReturn s = .next { s with
        clock := { s.clock with source := .crystal }
        tamper := if early then s.tamper else
          { s.tamper with records := s.tamper.records.set kindClock (goneRecord s kindClock) } }) ∧
    (s.clock.source = .crystal → s.supply.power = .battery →
      exec .crystalStop s = .next { s with clock := ⟨s.clock.time, .backup, false, true⟩ }) ∧
    (s.clock.source = .crystal → s.supply.power = .start → s.supply.startStep = 0 →
      exec .crystalStop s = .next { s with
        clock := { s.clock with source := .backup, certain := false }
        attn := if s.clock.certain then { s.attn with due := s.attn.due ||| 0x20 } else s.attn }) ∧
    (s.clock.source = .crystal → ¬early →
      ∃ t, exec .crystalStop s = .next t ∧
        SameExcept [.intake, .attn, .clock, .switch, .tamper, .store, .supply] s t ∧
        t.clock = { s.clock with source := .backup, certain := false } ∧
        (s.clock.certain = true → t.attn.due.getLsbD 5 = true) ∧
        t.switch.friendly = (if handing s then false else s.switch.friendly) ∧
        (s.tamper.records[kindClock].state = .active →
          t.store = s.store ∧ t.intake = s.intake ∧ t.supply = s.supply ∧
          HandOff s { s with switch := { s.switch with friendly := false } } t
            (handing s = true ∧ s.switch.friendly = true)) ∧
        (s.tamper.records[kindClock].state ≠ .active →
          StoreAsked s t { sectionsOf s with records := presentRecords s kindClock } ∧
          RequestersTold s t s.intake ∧ t.attn.due.getLsbD 3 = true ∧
          (s.switch.friendly = false ∨ handing s = false → RecordsChanged s t (presentRecords s kindClock)))))

/-- R131, R162, R163: one 10 ms sample of a sense input. A sample at the qualified level zeroes the debounce count; another one
counts, and the one that reaches the mode's debounce makes its level the qualified one. In LEVEL detection an active level
is reported present and an inactive one gone; in EDGE detection an active level is reported present and gone at once.
The samples of a command come one after another, and none is taken in BATTERY and before start step 2 has ended. -/
def Obligations.InputsQualify : Prop :=
  (∀ i s, s.agenda = [] → exec (.inputQualified i []) s = .next s) ∧
  (∀ i h rest s t, s.agenda = [] → exec (.inputQualified i [h]) s = .next t →
    exec (.inputQualified i (h :: rest)) s = exec (.inputQualified i rest) t) ∧
  (∀ i h s, s.agenda = [] →
    s.supply.power = .battery ∨ (s.supply.power = .start ∧ s.supply.startStep < 2) →
    exec (.inputQualified i [h]) s = .next s) ∧
  (∀ i h s, s.agenda = [] → s.supply.power ≠ .battery → (s.supply.power = .start → 2 ≤ s.supply.startStep) →
    let mode := match i with
      | .caseIn => s.settings.caseInput
      | .coverIn => s.settings.coverInput
      | .magIn => s.settings.magnetInput
    let k : Fin 10 := match i with
      | .caseIn => kindCase
      | .coverIn => kindCover
      | .magIn => kindMagnet
    let x := inputState s i
    let level := h != mode.testBit 9
    let u := setInput i ⟨level, 0, h⟩ s
    let r := s.tamper.records[k]
    (level = x.qualified → exec (.inputQualified i [h]) s = .next (setInput i ⟨x.qualified, 0, h⟩ s)) ∧
    (level ≠ x.qualified → x.debounce + 1 < mode % 256 →
      exec (.inputQualified i [h]) s = .next (setInput i ⟨x.qualified, x.debounce + 1, h⟩ s)) ∧
    (level ≠ x.qualified → mode % 256 ≤ x.debounce + 1 →
      (level = false → mode.testBit 8 = true → exec (.inputQualified i [h]) s = .next u) ∧
      (level = false → mode.testBit 8 = false →
        exec (.inputQualified i [h]) s = .next { u with
          tamper := { u.tamper with records := u.tamper.records.set k (goneRecord s k) } }) ∧
      (level = true → r.state = .active →
        exec (.inputQualified i [h]) s = .next (if mode.testBit 8 then { u with
          tamper := { u.tamper with records := u.tamper.records.set k (goneRecord s k) } } else u)) ∧
      (level = true → r.state ≠ .active →
        ∃ t, exec (.inputQualified i [h]) s = .next t ∧
          SameExcept [.intake, .attn, .switch, .tamper, .store, .supply] s t ∧
          StoreAsked s t { sectionsOf s with records := presentRecords s k } ∧ RequestersTold s t s.intake ∧
          t.attn.due.getLsbD 3 = true ∧
          RecordsChanged u t (if mode.testBit 8
            then (presentRecords s k).set k (goneAt s.clock.time (presentRecord s k)) else presentRecords s k))))

/-! ## The supply (chapter 10) -/

/-- R174, R176, R182, R115, R32, R113, R129, R154: VS falls, or RESET_N goes Low, in MAINS. HOLDUP is entered, READY cleared
and SUPPLY raised; a wait or a judgment due becomes a wait to come; an entry in its decode or before its apply completes with
POWER_FAIL; the interval in progress is closed and charged as a partial one with its counters at 0; the lockout counts; an
open window ends; and the hold-up write is asked for, with all of this in it, as the reset write for RESET_N. A calendar that
is due is activated at the close: its write is asked for before the charge, and the hold-up write behind it; no day end comes
in HOLDUP. The calendars are in the ranges of R47, which every step keeps. Of the memory, the pages and the slot of an entry
that so completes may change, and no other byte. (The order of the blocks' actions, the lockout's end among them, is the
model's choice, log entry 8; that an activation's effects come before the charge entry 31; when the pages change, and what
some bytes of them read, entries 4, 38, 40 and 47.) -/
def Obligations.HoldupBegins : Prop :=
  ∀ (reset : Bool) (p : PartMeasurement) s, s.agenda = [] → s.supply.power = .mains → LawfulBook s.book →
    let c : Instr := if reset then .resetNLow p else .holdupEntry p
    let u : State := { s with supply := { s.supply with
      power := .holdup, resetHold := reset, resetWrite := if reset then .waiting .next else .none
      vsLow := if reset then s.supply.vsLow else true } }
    let idle := p.elapsed = 0
    let e1 := if idle then 0 else phaseEnergy p.energy.l1 p.current.l1
    let e2 := if idle then 0 else phaseEnergy p.energy.l2 p.current.l2
    let e3 := if idle then 0 else phaseEnergy p.energy.l3 p.current.l3
    let sat := decide (p.elapsed ≠ 0 ∧
      (16777215 < p.energy.l1.natAbs ∨ 16777215 < p.energy.l2.natAbs ∨ 16777215 < p.energy.l3.natAbs))
    let leaves := ∃ w, s.intake.work = some w ∧ (w.stage = .decoding ∨ w.stage = .calendar)
    ∃ t, exec c s = .next t ∧
      SameExcept [.mem, .intake, .attn, .meter, .energy, .book, .credit, .decoder, .window, .switch, .tamper, .store,
        .supply] s t ∧
      (¬CalendarDue s → t.book = s.book ∧ StoreAsked u t (sectionsOf t)) ∧
      (CalendarDue s →
        Activated s t 0 0 ∧ t.supply = u.supply ∧
        (StoreFree s → t.store = { s.store with
          writing := some ⟨s.store.lastNumber + 1, s.store.lastSet.target, { sectionsOf s with
            account := saturatedIf s.credit.account sat
            book := activated s }⟩
          requested := true
          periodic := 0 }) ∧
        (¬StoreFree s → t.store = { s.store with requested := true })) ∧
      t.attn.bits = s.attn.bits ||| 0x10 ∧
      t.intake.ready = false ∧ t.intake.list = s.intake.list ∧
      Billed s t 0 (imported s.meter.law e1 e2 e3) (exported s.meter.law e1 e2 e3) (min 1000 p.elapsed) sat ∧
      CreditTold s t ∧
      t.meter = { s.meter with
        billed := t.meter.billed
        band := t.meter.band
        substituted := t.meter.substituted
        reverse := { s.meter.reverse with run := 0 }
        voltageTap := { s.meter.voltageTap with run := 0 }
        bypass := { s.meter.bypass with run := 0 }
        weld := 0 } ∧
      t.decoder = { s.decoder with lockout := s.decoder.lockout - 1 } ∧
      t.window = (if s.window.state = .opened then ⟨.closed, 0, 0, none, .holdup⟩ else s.window) ∧
      (s.decoder.lockout = 1 → t.tamper.records[kindKeypad] = goneRecord s kindKeypad) ∧
      (¬CalendarDue s → s.window.state ≠ .opened →
        let v := { s with
          tamper := if s.decoder.lockout = 1 then
              { s.tamper with records := s.tamper.records.set kindKeypad (goneRecord s kindKeypad) }
            else s.tamper
          switch := { s.switch with
            attempt := match s.switch.attempt with
              | .wait w => .rewait w
              | .judge w => .rewait w
              | x => x } }
        HandOff v { v with
          supply := { v.supply with power := .holdup }
          switch := { v.switch with reasons := { v.switch.reasons with credit := t.credit.reason } } } t
          (t.credit.reason ≠ s.credit.reason ∧ s.switch.reasons.credit ≠ t.credit.reason)) ∧
      (s.window.state = .opened → t.switch.windowHold = 0 ∧ t.switch.acting = actingSet t) ∧
      (s.mem.wf = true → ∀ a, inPages a = false →
        (∀ w, s.intake.work = some w → (w.stage = .decoding ∨ w.stage = .calendar) →
          a < slotBase w.slot ∨ slotBase w.slot + 64 ≤ a) → t.mem.read a = s.mem.read a) ∧
      (¬leaves → s.attn.busy = false → PagesShow t) ∧
      (¬leaves → RequestersTold u t { s.intake with ready := false }) ∧
      (∀ w, OwnSlot s w → s.intake.work = some w → w.stage = .decoding →
        Finished t.mem w.slot .powerFail 0 ∧ BodyIs t.mem w.slot (bareHead s w) ∧
        t.intake = { s.intake with work := none, ready := false }) ∧
      (∀ w, OwnSlot s w → s.intake.work = some w → w.stage = .calendar →
        Finished t.mem w.slot .powerFail 0 ∧ BodyIs t.mem w.slot [] ∧
        t.intake = { s.intake with work := none, ready := false })

/-- R174, R182, R186: what VS and RESET_N do in the other power states: START remembers either, and HOLDUP a low VS; a
hold-up in progress becomes a reset hold-up with a further write as its reset write, once; BATTERY knows neither. (How a low
VS is remembered in START and HOLDUP, and that HOLDUP_RETURN ends it, is the model's choice, log entry 11; that the commands
do nothing in MAINS and in BATTERY, entry 12.) -/
def Obligations.OtherPowerStatesRemember : Prop :=
  ∀ p s, s.agenda = [] →
    (s.supply.power = .start →
      exec (.holdupEntry p) s = .next { s with supply := { s.supply with vsLow := true } } ∧
      exec (.resetNLow p) s = .next { s with supply := { s.supply with resetRemembered := true } } ∧
      exec .holdupReturn s = .next { s with supply := { s.supply with vsLow := false } }) ∧
    (s.supply.power = .battery →
      exec (.holdupEntry p) s = .next s ∧ exec (.resetNLow p) s = .next s ∧ exec .holdupReturn s = .next s) ∧
    (s.supply.power = .mains → exec .holdupReturn s = .next s) ∧
    (s.supply.power = .holdup → exec (.holdupEntry p) s = .next { s with supply := { s.supply with vsLow := true } }) ∧
    (s.supply.power = .holdup → s.supply.resetHold = true →
      exec (.resetNLow p) s = .next s ∧
      exec .holdupReturn s = .next { s with supply := { s.supply with vsLow := false } }) ∧
    (s.supply.power = .holdup → s.supply.resetHold = false →
      let u : State := { s with supply := { s.supply with resetHold := true, resetWrite := .waiting .next } }
      ∃ t, exec (.resetNLow p) s = .next t ∧ SameExcept [.intake, .store, .supply] s t ∧
        StoreAsked u t (sectionsOf s) ∧ RequestersTold u t s.intake)

/-- R177, R154, R56: VS returns in HOLDUP without a reset hold-up. MAINS is entered, SUPPLY raised, the intake opens and takes
the head of its list where nothing is in work, an interval begins under the settings as they stand, a deferred pulse and a
wait to come begin, and the missed days are charged. (The order of these effects is the model's choice, log entry 37; how
other arrivals meet a catch-up entry 32; that a pulse still running at the return goes on, its wait to begin at its end, entry
41.) -/
def Obligations.HoldupReturns : Prop :=
  ∀ s, s.agenda = [] → s.mem.wf = true → s.supply.power = .holdup → s.supply.resetHold = false →
    let days := dayEndsAt s s.clock.certain s.clock.time
    let k := daysAtOnce s days
    ∃ t, exec .holdupReturn s = .next t ∧
      SameExcept [.agenda, .mem, .intake, .attn, .meter, .book, .credit, .decoder, .switch, .tamper, .supply, .catchUp] s t ∧
      t.supply = { s.supply with power := .mains, vsLow := false } ∧
      t.attn.bits = s.attn.bits ||| 0x10 ∧
      t.meter = { s.meter with law := s.settings.summationLaw, magnetPower := s.settings.magnetPower } ∧
      (s.intake.work ≠ none ∨ s.intake.list = [] →
        t.intake = { s.intake with ready := true } ∧ t.mem = s.mem ∧
        t.agenda = if k < days then [.catchUp false] else []) ∧
      (∀ n rest, s.intake.work = none → s.intake.list = n :: rest →
        t.intake = ⟨rest, some (takenWork s.mem n), true⟩ ∧ ownerOf t.mem n = ownerTaken ∧
        (∀ a, a ≠ slotBase n → t.mem.read a = s.mem.read a) ∧
        t.agenda = dueOf (takenWork s.mem n) :: if k < days then [.catchUp true] else []) ∧
      t.book = { s.book with lastCharged := chargedDate s k days (localDate s.clock.time s.book.active) } ∧
      DaysEnded s t k ∧ t.catchUp = catchUpBegun s k days ∧
      (days = 0 → t.tamper = s.tamper ∧
        t.switch = match s.switch.attempt with
          | .rewait w => { s.switch with attempt := .wait w }
          | .deferred w => { s.switch with
              attempt := .pulse w
              attemptCount := s.switch.attemptCount + 1
              kept := { s.switch.kept with commandedClosed :=
                if s.switch.contactor = .stuck then s.switch.kept.commandedClosed else decide (w = .close) } }
          | _ => s.switch)

/-- R178, R169, R179: BATTERY is entered from HOLDUP and from START. Everything outside the battery domain and the image is
lost; the supply-loss mark is set, and the watched inputs keep their qualified level, or in START before step 2 a sample; and
a write in progress is cut off: sections before it written, the one in its writing without a match, the rest as before. A
frame in progress is cut off. (The values at which what BATTERY loses stands are the model's choice, log entry 16; the order
of the sections and of the completion slot entry 13; which slot that is where neither has been written, and that a slot cut
off is not the one written last, entry 30; that BATTERY_ENTRY does nothing in MAINS and BATTERY entry 12.) -/
def Obligations.SupplyFails : Prop :=
  ∀ b s, s.agenda = [] →
    (s.supply.power = .mains ∨ s.supply.power = .battery → exec (.batteryEntry b) s = .next s) ∧
    (s.supply.power = .holdup ∨ s.supply.power = .start →
      let early := s.supply.power = .start ∧ s.supply.startStep < 2
      ∃ t, exec (.batteryEntry b) s = .next t ∧
        t = State.powered .battery s.pending { s.link with frame := none } s.clock t.battery t.store.image s.catchUp ∧
        t.battery = { s.battery with
          supplyLoss := true
          caseIn := { s.battery.caseIn with previous :=
            if early then b.caseHigh != s.battery.caseIn.mode.testBit 9 else s.tamper.caseIn.qualified }
          coverIn := { s.battery.coverIn with previous :=
            if early then b.coverHigh != s.battery.coverIn.mode.testBit 9 else s.tamper.coverIn.qualified } } ∧
        (s.store.writing = none → t.store.image = s.store.image) ∧
        (∀ w, s.store.writing = some w →
          let old := s.store.image.get w.target
          let new := t.store.image.get w.target
          let n := w.number
          let x := w.sections
          CutAt b.written 0 n x.account old.account new.account ∧ CutAt b.written 1 n x.energy old.energy new.energy ∧
          CutAt b.written 2 n x.decoder old.decoder new.decoder ∧
          CutAt b.written 3 n x.settings old.settings new.settings ∧
          CutAt b.written 4 n x.book old.book new.book ∧ CutAt b.written 5 n x.switch old.switch new.switch ∧
          CutAt b.written 6 n x.records old.records new.records ∧ CutAt b.written 7 n x.time old.time new.time ∧
          (w.target = .a → t.store.image.setB = s.store.image.setB) ∧
          (w.target = .b → t.store.image.setA = s.store.image.setA) ∧
          t.store.image.lastSlot = s.store.image.lastSlot ∧
          t.store.image.slot0 =
            (if 8 ≤ b.written ∧ s.store.image.lastSlot ≠ some .slot0 then ⟨n, false⟩ else s.store.image.slot0) ∧
          t.store.image.slot1 =
            (if 8 ≤ b.written ∧ s.store.image.lastSlot = some .slot0 then ⟨n, false⟩ else s.store.image.slot1)))

/-- R174, R179, R182 to R185: a start from BATTERY, with cause MAINS_RETURN while the battery domain is intact and POWER_ON
else; and the start of a reset hold-up whose reset write has completed, with cause RESET_PIN. Each makes as many of its five
steps as the command says, and finds the copies damaged that it names. Step 5 leaves no frame in progress (R20). (The model's
choices: how far a start has come, log entry 17, and what it samples and finds damaged, 18; the pages and the counter of step
5, 9, 4, 38 and 40; the write number where no copy passes, 39; the image at a RESET_PIN start, 10, and the low VS that it
carries, 11; the copies' order, 13; the commanded position of a contactor found OPEN, 36; the day ends of step 3 within the
step, 32; the values at which what is lost stands, 2 and 16; that START_ENTRY and RESET_START do nothing where no start is
due, 12; that a coil pulse still running at START entry ends there, 42, and that a request pending behind the write in progress
is dropped, 45.) -/
def Obligations.StartsRestore : Prop :=
  ∀ i s, s.agenda = [] →
    (s.supply.power = .battery →
      ∃ t, exec (.startEntry i) s = .next t ∧
        Started s t (if s.battery.intact then .mainsReturn else .powerOn) i (s.store.image.damage i.damage) (min 5 i.steps)) ∧
    (s.supply.power ≠ .battery → exec (.startEntry i) s = .next s) ∧
    (s.supply.power = .holdup → s.supply.resetHold = true → s.supply.resetWrite = .done →
      ∃ t, exec (.resetStart i) s = .next t ∧
        Started s t .resetPin i ((imageAtReset s.store).damage i.damage) (min 5 i.steps)) ∧
    (¬(s.supply.power = .holdup ∧ s.supply.resetHold = true ∧ s.supply.resetWrite = .done) →
      exec (.resetStart i) s = .next s)

/-- R185, R186: START_READY in START after its five steps. The start write in progress completes as RETENTION_WRITE_COMPLETE
completes it; then MAINS is entered, READY is set, an interval begins and the missed days are charged. A RESET_N that START
remembered, or a VS that is then below 4.40 V, leads on to HOLDUP at once. Outside START nothing happens. (How a low VS is
known, and the order of RESET_N and VS, are the model's choice, log entry 11; that nothing happens outside START, and the
write's completion as part of the command, entry 12; the order at MAINS entry 37; how other arrivals meet a catch-up, 32.) -/
def Obligations.StartsEndInMains : Prop :=
  (∀ s, s.agenda = [] → s.supply.power ≠ .start → exec .startReady s = .next s) ∧
  (∀ s t, s.agenda = [] → s.supply.power = .start → s.supply.startStep = 5 → s.store.writing ≠ none →
    exec .retentionWriteComplete s = .next t → exec .startReady s = exec .startReady t) ∧
  (∀ s, s.agenda = [.startReady] → s.supply.power = .start → s.supply.startStep = 5 → s.intake = ⟨[], none, false⟩ →
    let days := dayEndsAt s s.clock.certain s.clock.time
    let k := daysAtOnce s days
    ∃ t, exec .startReady s = .next t ∧
      (s.supply.vsLow = false → s.supply.resetRemembered = false →
        SameExcept [.agenda, .intake, .attn, .meter, .book, .credit, .decoder, .switch, .tamper, .supply, .catchUp] s t ∧
        t.agenda = (if k < days then [.catchUp false] else []) ∧ t.intake = ⟨[], none, true⟩ ∧
        t.supply = { s.supply with power := .mains } ∧
        t.meter = { s.meter with law := s.settings.summationLaw, magnetPower := s.settings.magnetPower } ∧
        t.book = { s.book with lastCharged := chargedDate s k days (localDate s.clock.time s.book.active) } ∧
        DaysEnded s t k ∧ t.catchUp = catchUpBegun s k days ∧
        (days = 0 → SameExcept [.agenda, .intake, .meter, .supply] s t)) ∧
      (s.supply.vsLow = true ∨ s.supply.resetRemembered = true →
        t.supply.power = .holdup ∧ t.supply.resetHold = s.supply.resetRemembered ∧ t.supply.vsLow = s.supply.vsLow ∧
        t.supply.resetRemembered = false ∧ t.intake.ready = false ∧ t.attn.bits.getLsbD 4 = true))

end
end

