-- ==== Sys2Proof/Laws/Memory.lean ====
section
/-! SUPPORT. The exchange memory: what a read gives after a write or a block write, and that both keep the canonical
form. -/

namespace Sys2Proof.Machine

/-! ## The canonical form -/

/-- The canonical form as a statement about the list: rising addresses, and no 0x00 listed. -/
theorem Memory.wf_iff (m : Memory) :
    m.wf = true ↔ m.Pairwise (fun c d => c.1 < d.1) ∧ ∀ c ∈ m, c.2 ≠ 0 := by
  induction m with
  | nil => simp [Memory.wf]
  | cons c t ih =>
    obtain ⟨a, v⟩ := c
    cases t with
    | nil => simp [Memory.wf]
    | cons d t =>
      obtain ⟨b, w⟩ := d
      simp only [Memory.wf, Bool.and_eq_true, decide_eq_true_eq, bne_iff_ne, ne_eq, ih,
        List.pairwise_cons, List.mem_cons, forall_eq_or_imp, Prod.forall]
      constructor
      · rintro ⟨⟨hv, hab⟩, ⟨hb, ht⟩, hw, hz⟩
        exact ⟨⟨⟨hab, fun a' v' h => lt_trans hab (hb a' v' h)⟩, hb, ht⟩, hv, hw, hz⟩
      · rintro ⟨⟨⟨hab, -⟩, hb, ht⟩, hv, hw, hz⟩
        exact ⟨⟨hv, hab⟩, ⟨hb, ht⟩, hw, hz⟩

/-- An address that is not listed reads 0x00. -/
theorem Memory.read_unlisted {m : Memory} {a : Nat} (h : ∀ c ∈ m, c.1 ≠ a) : m.read a = 0 := by
  induction m with
  | nil => rfl
  | cons c t ih =>
    obtain ⟨b, v⟩ := c
    have hb : b ≠ a := h (b, v) (by simp)
    simp [Memory.read, hb, ih fun c hc => h c (by simp [hc])]

/-- In a memory with rising addresses every listed byte is what its address reads as. -/
theorem Memory.read_listed {m : Memory} (h : m.Pairwise fun c d => c.1 < d.1) {a : Nat} {v : Byte}
    (hm : (a, v) ∈ m) : m.read a = v := by
  induction m with
  | nil => simp at hm
  | cons c t ih =>
    obtain ⟨b, w⟩ := c
    simp only [List.pairwise_cons] at h
    rcases List.mem_cons.1 hm with he | ht
    · simp_all [Memory.read]
    · have : b < a := h.1 _ ht
      simp [Memory.read, Nat.ne_of_lt this, ih h.2 ht]

/-! ## One byte -/

/-- A write leaves every other address alone. -/
theorem Memory.read_write_other (m : Memory) {a c : Nat} (v : Byte) (h : c ≠ a) :
    (m.write a v).read c = m.read c := by
  induction m with
  | nil => simp only [Memory.write]; split_ifs <;> simp [Memory.read, h.symm]
  | cons d t ih =>
    obtain ⟨b, w⟩ := d
    simp only [Memory.write]
    split_ifs with h1 h2 h3 h4
    · rfl
    · simp [Memory.read, h.symm]
    · subst h3; simp [Memory.read, h.symm]
    · subst h3; simp [Memory.read, h.symm]
    · simp [Memory.read, ih]

/-- A read after a write to the same address gives the byte written. -/
theorem Memory.read_write_same {m : Memory} (hm : m.wf = true) (a : Nat) (v : Byte) :
    (m.write a v).read a = v := by
  obtain ⟨hp, hz⟩ := (Memory.wf_iff m).1 hm
  clear hm hz
  induction m with
  | nil => simp only [Memory.write]; split_ifs with hv <;> simp [Memory.read, hv]
  | cons d t ih =>
    obtain ⟨b, w⟩ := d
    simp only [List.pairwise_cons] at hp
    simp only [Memory.write]
    split_ifs with h1 h2 h3 h4
    · subst h2
      refine Memory.read_unlisted fun c hc => ?_
      rcases List.mem_cons.1 hc with rfl | hc
      · exact (Nat.ne_of_lt h1).symm
      · have := hp.1 c hc; omega
    · simp [Memory.read]
    · subst h4
      refine Memory.read_unlisted fun c hc => ?_
      have := hp.1 c hc; omega
    · simp [Memory.read]
    · have : b ≠ a := fun h => h3 h.symm
      simp [Memory.read, this, ih hp.2]

/-- Every cell of a written memory is the written one or was listed before. -/
theorem Memory.mem_write {m : Memory} {a : Nat} {v : Byte} {c : Host.Cell} (h : c ∈ m.write a v) :
    (c = (a, v) ∧ v ≠ 0) ∨ c ∈ m := by
  induction m with
  | nil =>
    simp only [Memory.write] at h
    split_ifs at h with hv
    · simp at h
    · exact .inl ⟨by simpa using h, hv⟩
  | cons d t ih =>
    obtain ⟨b, w⟩ := d
    simp only [Memory.write] at h
    split_ifs at h with h1 h2 h3 h4
    · exact .inr h
    · rcases List.mem_cons.1 h with h | h
      · exact .inl ⟨h, h2⟩
      · exact .inr h
    · exact .inr (List.mem_cons_of_mem _ h)
    · rcases List.mem_cons.1 h with h | h
      · exact .inl ⟨h, h4⟩
      · exact .inr (List.mem_cons_of_mem _ h)
    · rcases List.mem_cons.1 h with h | h
      · exact .inr (by simp [h])
      · exact (ih h).imp id (List.mem_cons_of_mem _)

/-- A write keeps the canonical form. -/
theorem Memory.wf_write {m : Memory} (hm : m.wf = true) (a : Nat) (v : Byte) : (m.write a v).wf = true := by
  rw [Memory.wf_iff] at hm ⊢
  obtain ⟨hp, hz⟩ := hm
  constructor
  · induction m with
    | nil => simp only [Memory.write]; split_ifs <;> simp
    | cons d t ih =>
      obtain ⟨b, w⟩ := d
      simp only [List.pairwise_cons] at hp
      simp only [Memory.write]
      split_ifs with h1 h2 h3 h4
      · exact List.pairwise_cons.2 hp
      · refine List.pairwise_cons.2 ⟨fun c hc => ?_, List.pairwise_cons.2 hp⟩
        rcases List.mem_cons.1 hc with rfl | hc
        · exact h1
        · exact lt_trans h1 (hp.1 c hc)
      · exact hp.2
      · subst h3; exact List.pairwise_cons.2 hp
      · refine List.pairwise_cons.2 ⟨fun c hc => ?_, ih hp.2 fun c hc => hz c (by simp [hc])⟩
        rcases Memory.mem_write hc with ⟨rfl, -⟩ | hc
        · simp; omega
        · exact hp.1 c hc
  · intro c hc
    rcases Memory.mem_write hc with ⟨rfl, hv⟩ | hc
    · exact hv
    · exact hz c hc

/-! ## A block of bytes -/

/-- The cells of a block lie in the block, in rising order, and none lists 0x00. -/
theorem cellsFrom_spec (a : Nat) (vs : List Byte) :
    (cellsFrom a vs).Pairwise (fun c d => c.1 < d.1) ∧
      ∀ c ∈ cellsFrom a vs, a ≤ c.1 ∧ c.1 < a + vs.length ∧ c.2 ≠ 0 := by
  induction vs generalizing a with
  | nil => simp [cellsFrom]
  | cons v vs ih =>
    obtain ⟨hp, hb⟩ := ih (a + 1)
    simp only [cellsFrom]
    split_ifs with hv
    · exact ⟨hp, fun c hc => by have := hb c hc; exact ⟨by omega, by simp only [List.length_cons]; omega, this.2.2⟩⟩
    · refine ⟨List.pairwise_cons.2 ⟨fun c hc => (hb c hc).1, hp⟩, fun c hc => ?_⟩
      rcases List.mem_cons.1 hc with rfl | hc
      · exact ⟨le_rfl, by simp, hv⟩
      · have := hb c hc; exact ⟨by omega, by simp only [List.length_cons]; omega, this.2.2⟩

/-- What the cells of a block read as. -/
theorem cellsFrom_read (a : Nat) (vs : List Byte) (i : Nat) :
    (cellsFrom a vs : Memory).read (a + i) = vs.getD i 0 := by
  induction vs generalizing a i with
  | nil => simp [cellsFrom, Memory.read]
  | cons v vs ih =>
    cases i with
    | zero =>
      simp only [cellsFrom]
      split_ifs with hv
      · refine (Memory.read_unlisted fun c hc => ?_).trans (by simp [hv])
        have := (cellsFrom_spec (a + 1) vs).2 c hc; omega
      · simp [Memory.read]
    | succ i =>
      have h := ih (a + 1) i
      have e : a + 1 + i = a + (i + 1) := by omega
      rw [e] at h
      simp only [cellsFrom]
      split_ifs with hv
      · simpa using h
      · simp [Memory.read, h]

/-- Reading in a list of cells whose first part lists nothing at the address. -/
theorem Memory.read_append_right {m n : Memory} {a : Nat} (h : ∀ c ∈ m, c.1 ≠ a) :
    (m ++ n : Memory).read a = n.read a := by
  induction m with
  | nil => rfl
  | cons c t ih =>
    obtain ⟨b, v⟩ := c
    have hb : b ≠ a := h (b, v) (by simp)
    simpa [Memory.read, hb] using ih fun c hc => h c (by simp [hc])

/-- Reading in a list of cells whose second part lists nothing at the address. -/
theorem Memory.read_append_left {m n : Memory} {a : Nat} (h : ∀ c ∈ n, c.1 ≠ a) :
    (m ++ n : Memory).read a = m.read a := by
  induction m with
  | nil => exact Memory.read_unlisted h
  | cons c t ih =>
    obtain ⟨b, v⟩ := c
    by_cases hb : b = a
    · simp [Memory.read, hb]
    · simpa [Memory.read, hb] using ih

/-- A filter that keeps every cell of an address leaves its reading alone. -/
theorem Memory.read_filter {m : Memory} {p : Host.Cell → Bool} {a : Nat} (h : ∀ v, p (a, v) = true) :
    Memory.read (m.filter p) a = m.read a := by
  induction m with
  | nil => rfl
  | cons c t ih =>
    obtain ⟨b, v⟩ := c
    by_cases hb : b = a
    · subst hb; simp [h, Memory.read]
    · by_cases hp : p (b, v) = true <;> simp [hp, Memory.read, hb, ih]

/-- A block write leaves every address outside the block alone. -/
theorem Memory.read_splice_other (m : Memory) (base : Nat) (bytes : List Byte) {a : Nat}
    (h : a < base ∨ base + bytes.length ≤ a) : (m.splice base bytes).read a = m.read a := by
  have hb := (cellsFrom_spec base bytes).2
  unfold Memory.splice
  rcases h with h | h
  · rw [Memory.read_append_left, Memory.read_append_left, Memory.read_filter]
    · simp [h]
    · intro c hc; have := hb c hc; omega
    · intro c hc; simp at hc; omega
  · rw [List.append_assoc, Memory.read_append_right, Memory.read_append_right, Memory.read_filter]
    · simp [h]
    · intro c hc; have := hb c hc; omega
    · intro c hc; simp at hc; omega

/-- A block write stores each byte of the block at its place. -/
theorem Memory.read_splice (m : Memory) (base : Nat) (bytes : List Byte) {i : Nat} (h : i < bytes.length) :
    (m.splice base bytes).read (base + i) = bytes.getD i 0 := by
  unfold Memory.splice
  rw [Memory.read_append_left, Memory.read_append_right, cellsFrom_read]
  · intro c hc; simp at hc; omega
  · intro c hc; simp at hc; omega

/-- A block write keeps the canonical form. -/
theorem Memory.wf_splice {m : Memory} (hm : m.wf = true) (base : Nat) (bytes : List Byte) :
    (m.splice base bytes).wf = true := by
  rw [Memory.wf_iff] at hm ⊢
  obtain ⟨hp, hz⟩ := hm
  obtain ⟨hq, hb⟩ := cellsFrom_spec base bytes
  unfold Memory.splice
  refine ⟨?_, fun c hc => ?_⟩
  · simp only [List.pairwise_append]
    refine ⟨⟨hp.filter _, hq, fun c hc d hd => ?_⟩, hp.filter _, fun c hc d hd => ?_⟩
    · have := hb d hd; simp at hc; omega
    · simp only [List.mem_append, List.mem_filter, decide_eq_true_eq] at hc hd
      rcases hc with hc | hc
      · omega
      · have := hb c hc; omega
  · simp only [List.mem_append, List.mem_filter, decide_eq_true_eq] at hc
    rcases hc with (hc | hc) | hc
    · exact hz c hc.1
    · exact (hb c hc).2.2
    · exact hz c hc.1

/-- Bytes read as a block are the addresses' bytes in order. -/
theorem Memory.readBytes_eq (m : Memory) (a n : Nat) :
    m.readBytes a n = (List.range n).map fun i => m.read (a + i) := by
  induction n generalizing a with
  | zero => rfl
  | succ n ih =>
    simp only [Memory.readBytes, ih, List.range_succ_eq_map, List.map_cons, List.map_map, Nat.add_zero,
      List.cons.injEq, true_and]
    refine List.map_congr_left fun i _ => ?_
    simp only [Function.comp_apply]
    congr 1
    omega

/-- A block read has the length asked for. -/
@[simp] theorem Memory.readBytes_length (m : Memory) (a n : Nat) : (m.readBytes a n).length = n := by
  simp [Memory.readBytes_eq]

/-- A block read after a block write to the same place gives the bytes written. -/
theorem Memory.readBytes_splice (m : Memory) (base : Nat) (bytes : List Byte) :
    (m.splice base bytes).readBytes base bytes.length = bytes := by
  rw [Memory.readBytes_eq]
  refine List.ext_getElem (by simp) fun i h1 h2 => ?_
  simp only [List.getElem_map, List.getElem_range]
  rw [Memory.read_splice m base bytes h2]
  simp [h2]

end Sys2Proof.Machine
end

