-- ==== Sys2Proof/Laws/Calendar.lean ====
section
/-! SUPPORT. The calendar image: what an image that passes the checks of R52 holds. -/

namespace Sys2Proof.Machine

open Sys2Proof.Safety

/-- Checks of which none fails all pass. -/
theorem firstFailing_none (checks : List (Nat × Bool)) (h : firstFailing checks = none) :
    ∀ c ∈ checks, c.2 = true := by
  simpa [firstFailing] using h

/-- Where every numbered check of a list passes, its condition holds of every entry. -/
theorem itemsFrom_all {α : Type} (n : Nat) (ok : α → Bool) (xs : List α)
    (h : ∀ c ∈ itemsFrom n ok xs, c.2 = true) : ∀ x ∈ xs, ok x = true := by
  intro x hx
  obtain ⟨i, hi, rfl⟩ := List.mem_iff_getElem.1 hx
  exact h (n + i, ok xs[i]) (List.mem_iff_getElem.2 ⟨i, by simpa [itemsFrom] using hi, by simp [itemsFrom]⟩)

/-- A number read from bytes is below the next power of 256. -/
theorem ofLe_lt (l : List Byte) : ofLe l < 256 ^ l.length := by
  induction l with
  | nil => simp [ofLe]
  | cons b l ih => simp only [ofLe, List.length_cons, pow_succ]; have := b.isLt; omega

/-- The two spellings of the length of a month agree. -/
theorem monthLength_eq (y m : Nat) : monthLength y m = daysIn y m := by
  unfold monthLength daysIn leapYear
  split <;> simp_all
  by_cases h : y = 0 <;> grind

/-- An image that passes the checks of R52 holds a calendar in the ranges of R47. -/
theorem submitRefusal_lawful (w : Window) (m : Memory) (h : submitRefusal w m = none) : LawfulTariff (imageTariff m) := by
  unfold submitRefusal at h
  split at h
  · cases h
  split at h
  · cases h
  rename_i hc
  dsimp only at h
  split at h <;> try cases h
  rename_i hf hd hp
  have hc := firstFailing_none _ hc
  have hf := firstFailing_none _ hf
  have hd := firstFailing_none _ hd
  have hp := firstFailing_none _ hp
  simp only [countChecks, List.forall_mem_cons, decide_eq_true_eq] at hc
  simp only [fieldChecks, List.forall_mem_append, List.forall_mem_cons, Bool.and_eq_true, decide_eq_true_eq] at hf
  obtain ⟨⟨⟨⟨⟨⟨ho, -⟩, hpr⟩, hdb, hst, -⟩, hsp⟩, hho⟩, hw⟩ := hf
  have hpr := itemsFrom_all _ _ _ hpr
  have hsp := itemsFrom_all _ _ _ hsp
  have hho := itemsFrom_all _ _ _ hho
  have hw := itemsFrom_all _ _ _ hw
  have hd := itemsFrom_all _ _ _ hd
  refine ⟨?_, ho, by simpa using hpr, hdb, ?_, by simpa using hsp, ?_, ?_, ?_, hst, ?_⟩
  · have := ofLe_lt (m.readBytes (0x0800 + 0x00) 2)
    rw [Memory.readBytes_length] at this
    exact Nat.le_of_lt_succ this
  · simpa [imageTariff] using hc
  · rw [List.pairwise_iff_getElem]
    intro i j hi hj hij hm
    have := hp (0x10 + j, !((imageTariff m).switchPoints.take j).any fun q => pointsClash q (imageTariff m).switchPoints[j])
      (List.mem_iff_getElem.2 ⟨j, by simpa [duplicateChecks] using hj, by simp [duplicateChecks]⟩)
    simp only [Bool.not_eq_true', List.any_eq_false, pointsClash] at this
    have := this (imageTariff m).switchPoints[i] (List.mem_take_iff_getElem.2 ⟨i, by omega, rfl⟩)
    simp only [hm, beq_self_eq_true, Bool.true_and, bne_iff_ne, ne_eq, not_not] at this
    rw [BitVec.and_comm]; exact this
  · intro h hh
    have := hho h hh; have := hd h hh; simp [← monthLength_eq] at *; omega
  · intro x hx; have := hw x hx; simp at this; omega
  · have := ofLe_lt (m.readBytes (0x0800 + 0x24) 4)
    rw [Memory.readBytes_length] at this
    exact Nat.le_of_lt_succ this

end Sys2Proof.Machine
end

