-- ==== Sys2Proof/Laws/State.lean ====
section
/-! SUPPORT. What each plain update of the state leaves alone, and what it writes. -/

namespace Sys2Proof.Machine

/-- What `onAgenda` leaves alone. -/
@[simp] theorem onAgenda_keeps (f : List Due → List Due) (s : State) :
    (onAgenda f s).pending = s.pending ∧ (onAgenda f s).link = s.link ∧ (onAgenda f s).mem = s.mem ∧
    (onAgenda f s).intake = s.intake ∧ (onAgenda f s).attn = s.attn ∧ (onAgenda f s).meter = s.meter ∧
    (onAgenda f s).energy = s.energy ∧ (onAgenda f s).clock = s.clock ∧ (onAgenda f s).book = s.book ∧
    (onAgenda f s).credit = s.credit ∧ (onAgenda f s).decoder = s.decoder ∧ (onAgenda f s).settings = s.settings ∧
    (onAgenda f s).window = s.window ∧ (onAgenda f s).switch = s.switch ∧ (onAgenda f s).tamper = s.tamper ∧
    (onAgenda f s).battery = s.battery ∧ (onAgenda f s).store = s.store ∧ (onAgenda f s).supply = s.supply ∧
    (onAgenda f s).catchUp = s.catchUp ∧ (onAgenda f s).pins = s.pins := by
  and_intros <;> rfl

/-- What `onLink` leaves alone. -/
@[simp] theorem onLink_keeps (f : Link → Link) (s : State) :
    (onLink f s).pending = s.pending ∧ (onLink f s).agenda = s.agenda ∧ (onLink f s).mem = s.mem ∧
    (onLink f s).intake = s.intake ∧ (onLink f s).attn = s.attn ∧ (onLink f s).meter = s.meter ∧
    (onLink f s).energy = s.energy ∧ (onLink f s).clock = s.clock ∧ (onLink f s).book = s.book ∧
    (onLink f s).credit = s.credit ∧ (onLink f s).decoder = s.decoder ∧ (onLink f s).settings = s.settings ∧
    (onLink f s).window = s.window ∧ (onLink f s).switch = s.switch ∧ (onLink f s).tamper = s.tamper ∧
    (onLink f s).battery = s.battery ∧ (onLink f s).store = s.store ∧ (onLink f s).supply = s.supply ∧
    (onLink f s).catchUp = s.catchUp ∧ (onLink f s).pins = s.pins := by
  and_intros <;> rfl

/-- What `onMem` leaves alone. -/
@[simp] theorem onMem_keeps (f : Memory → Memory) (s : State) :
    (onMem f s).pending = s.pending ∧ (onMem f s).agenda = s.agenda ∧ (onMem f s).link = s.link ∧
    (onMem f s).intake = s.intake ∧ (onMem f s).attn = s.attn ∧ (onMem f s).meter = s.meter ∧
    (onMem f s).energy = s.energy ∧ (onMem f s).clock = s.clock ∧ (onMem f s).book = s.book ∧
    (onMem f s).credit = s.credit ∧ (onMem f s).decoder = s.decoder ∧ (onMem f s).settings = s.settings ∧
    (onMem f s).window = s.window ∧ (onMem f s).switch = s.switch ∧ (onMem f s).tamper = s.tamper ∧
    (onMem f s).battery = s.battery ∧ (onMem f s).store = s.store ∧ (onMem f s).supply = s.supply ∧
    (onMem f s).catchUp = s.catchUp ∧ (onMem f s).pins = s.pins := by
  and_intros <;> rfl

/-- What `onIntake` leaves alone. -/
@[simp] theorem onIntake_keeps (f : Intake → Intake) (s : State) :
    (onIntake f s).pending = s.pending ∧ (onIntake f s).agenda = s.agenda ∧
    (onIntake f s).link = s.link ∧ (onIntake f s).mem = s.mem ∧ (onIntake f s).attn = s.attn ∧
    (onIntake f s).meter = s.meter ∧ (onIntake f s).energy = s.energy ∧ (onIntake f s).clock = s.clock ∧
    (onIntake f s).book = s.book ∧ (onIntake f s).credit = s.credit ∧ (onIntake f s).decoder = s.decoder ∧
    (onIntake f s).settings = s.settings ∧ (onIntake f s).window = s.window ∧ (onIntake f s).switch = s.switch ∧
    (onIntake f s).tamper = s.tamper ∧ (onIntake f s).battery = s.battery ∧ (onIntake f s).store = s.store ∧
    (onIntake f s).supply = s.supply ∧ (onIntake f s).catchUp = s.catchUp ∧ (onIntake f s).pins = s.pins := by
  and_intros <;> rfl

/-- What `onAttn` leaves alone. -/
@[simp] theorem onAttn_keeps (f : Attn → Attn) (s : State) :
    (onAttn f s).pending = s.pending ∧ (onAttn f s).agenda = s.agenda ∧ (onAttn f s).link = s.link ∧
    (onAttn f s).mem = s.mem ∧ (onAttn f s).intake = s.intake ∧ (onAttn f s).meter = s.meter ∧
    (onAttn f s).energy = s.energy ∧ (onAttn f s).clock = s.clock ∧ (onAttn f s).book = s.book ∧
    (onAttn f s).credit = s.credit ∧ (onAttn f s).decoder = s.decoder ∧ (onAttn f s).settings = s.settings ∧
    (onAttn f s).window = s.window ∧ (onAttn f s).switch = s.switch ∧ (onAttn f s).tamper = s.tamper ∧
    (onAttn f s).battery = s.battery ∧ (onAttn f s).store = s.store ∧ (onAttn f s).supply = s.supply ∧
    (onAttn f s).catchUp = s.catchUp ∧ (onAttn f s).pins = s.pins := by
  and_intros <;> rfl

/-- What `onMeter` leaves alone. -/
@[simp] theorem onMeter_keeps (f : Meter → Meter) (s : State) :
    (onMeter f s).pending = s.pending ∧ (onMeter f s).agenda = s.agenda ∧ (onMeter f s).link = s.link ∧
    (onMeter f s).mem = s.mem ∧ (onMeter f s).intake = s.intake ∧ (onMeter f s).attn = s.attn ∧
    (onMeter f s).energy = s.energy ∧ (onMeter f s).clock = s.clock ∧ (onMeter f s).book = s.book ∧
    (onMeter f s).credit = s.credit ∧ (onMeter f s).decoder = s.decoder ∧ (onMeter f s).settings = s.settings ∧
    (onMeter f s).window = s.window ∧ (onMeter f s).switch = s.switch ∧ (onMeter f s).tamper = s.tamper ∧
    (onMeter f s).battery = s.battery ∧ (onMeter f s).store = s.store ∧ (onMeter f s).supply = s.supply ∧
    (onMeter f s).catchUp = s.catchUp ∧ (onMeter f s).pins = s.pins := by
  and_intros <;> rfl

/-- What `onEnergy` leaves alone. -/
@[simp] theorem onEnergy_keeps (f : Energy → Energy) (s : State) :
    (onEnergy f s).pending = s.pending ∧ (onEnergy f s).agenda = s.agenda ∧
    (onEnergy f s).link = s.link ∧ (onEnergy f s).mem = s.mem ∧ (onEnergy f s).intake = s.intake ∧
    (onEnergy f s).attn = s.attn ∧ (onEnergy f s).meter = s.meter ∧ (onEnergy f s).clock = s.clock ∧
    (onEnergy f s).book = s.book ∧ (onEnergy f s).credit = s.credit ∧ (onEnergy f s).decoder = s.decoder ∧
    (onEnergy f s).settings = s.settings ∧ (onEnergy f s).window = s.window ∧ (onEnergy f s).switch = s.switch ∧
    (onEnergy f s).tamper = s.tamper ∧ (onEnergy f s).battery = s.battery ∧ (onEnergy f s).store = s.store ∧
    (onEnergy f s).supply = s.supply ∧ (onEnergy f s).catchUp = s.catchUp ∧ (onEnergy f s).pins = s.pins := by
  and_intros <;> rfl

/-- What `onClock` leaves alone. -/
@[simp] theorem onClock_keeps (f : Clock → Clock) (s : State) :
    (onClock f s).pending = s.pending ∧ (onClock f s).agenda = s.agenda ∧ (onClock f s).link = s.link ∧
    (onClock f s).mem = s.mem ∧ (onClock f s).intake = s.intake ∧ (onClock f s).attn = s.attn ∧
    (onClock f s).meter = s.meter ∧ (onClock f s).energy = s.energy ∧ (onClock f s).book = s.book ∧
    (onClock f s).credit = s.credit ∧ (onClock f s).decoder = s.decoder ∧ (onClock f s).settings = s.settings ∧
    (onClock f s).window = s.window ∧ (onClock f s).switch = s.switch ∧ (onClock f s).tamper = s.tamper ∧
    (onClock f s).battery = s.battery ∧ (onClock f s).store = s.store ∧ (onClock f s).supply = s.supply ∧
    (onClock f s).catchUp = s.catchUp ∧ (onClock f s).pins = s.pins := by
  and_intros <;> rfl

/-- What `onBook` leaves alone. -/
@[simp] theorem onBook_keeps (f : CalendarBook → CalendarBook) (s : State) :
    (onBook f s).pending = s.pending ∧ (onBook f s).agenda = s.agenda ∧ (onBook f s).link = s.link ∧
    (onBook f s).mem = s.mem ∧ (onBook f s).intake = s.intake ∧ (onBook f s).attn = s.attn ∧
    (onBook f s).meter = s.meter ∧ (onBook f s).energy = s.energy ∧ (onBook f s).clock = s.clock ∧
    (onBook f s).credit = s.credit ∧ (onBook f s).decoder = s.decoder ∧ (onBook f s).settings = s.settings ∧
    (onBook f s).window = s.window ∧ (onBook f s).switch = s.switch ∧ (onBook f s).tamper = s.tamper ∧
    (onBook f s).battery = s.battery ∧ (onBook f s).store = s.store ∧ (onBook f s).supply = s.supply ∧
    (onBook f s).catchUp = s.catchUp ∧ (onBook f s).pins = s.pins := by
  and_intros <;> rfl

/-- What `onCredit` leaves alone. -/
@[simp] theorem onCredit_keeps (f : Credit → Credit) (s : State) :
    (onCredit f s).pending = s.pending ∧ (onCredit f s).agenda = s.agenda ∧
    (onCredit f s).link = s.link ∧ (onCredit f s).mem = s.mem ∧ (onCredit f s).intake = s.intake ∧
    (onCredit f s).attn = s.attn ∧ (onCredit f s).meter = s.meter ∧ (onCredit f s).energy = s.energy ∧
    (onCredit f s).clock = s.clock ∧ (onCredit f s).book = s.book ∧ (onCredit f s).decoder = s.decoder ∧
    (onCredit f s).settings = s.settings ∧ (onCredit f s).window = s.window ∧ (onCredit f s).switch = s.switch ∧
    (onCredit f s).tamper = s.tamper ∧ (onCredit f s).battery = s.battery ∧ (onCredit f s).store = s.store ∧
    (onCredit f s).supply = s.supply ∧ (onCredit f s).catchUp = s.catchUp ∧ (onCredit f s).pins = s.pins := by
  and_intros <;> rfl

/-- What `onDecoder` leaves alone. -/
@[simp] theorem onDecoder_keeps (f : Decoder → Decoder) (s : State) :
    (onDecoder f s).pending = s.pending ∧ (onDecoder f s).agenda = s.agenda ∧
    (onDecoder f s).link = s.link ∧ (onDecoder f s).mem = s.mem ∧ (onDecoder f s).intake = s.intake ∧
    (onDecoder f s).attn = s.attn ∧ (onDecoder f s).meter = s.meter ∧ (onDecoder f s).energy = s.energy ∧
    (onDecoder f s).clock = s.clock ∧ (onDecoder f s).book = s.book ∧ (onDecoder f s).credit = s.credit ∧
    (onDecoder f s).settings = s.settings ∧ (onDecoder f s).window = s.window ∧ (onDecoder f s).switch = s.switch ∧
    (onDecoder f s).tamper = s.tamper ∧ (onDecoder f s).battery = s.battery ∧ (onDecoder f s).store = s.store ∧
    (onDecoder f s).supply = s.supply ∧ (onDecoder f s).catchUp = s.catchUp ∧ (onDecoder f s).pins = s.pins := by
  and_intros <;> rfl

/-- What `onSettings` leaves alone. -/
@[simp] theorem onSettings_keeps (f : Settings → Settings) (s : State) :
    (onSettings f s).pending = s.pending ∧ (onSettings f s).agenda = s.agenda ∧
    (onSettings f s).link = s.link ∧ (onSettings f s).mem = s.mem ∧ (onSettings f s).intake = s.intake ∧
    (onSettings f s).attn = s.attn ∧ (onSettings f s).meter = s.meter ∧ (onSettings f s).energy = s.energy ∧
    (onSettings f s).clock = s.clock ∧ (onSettings f s).book = s.book ∧ (onSettings f s).credit = s.credit ∧
    (onSettings f s).decoder = s.decoder ∧ (onSettings f s).window = s.window ∧
    (onSettings f s).switch = s.switch ∧ (onSettings f s).tamper = s.tamper ∧
    (onSettings f s).battery = s.battery ∧ (onSettings f s).store = s.store ∧ (onSettings f s).supply = s.supply ∧
    (onSettings f s).catchUp = s.catchUp ∧ (onSettings f s).pins = s.pins := by
  and_intros <;> rfl

/-- What `onWindow` leaves alone. -/
@[simp] theorem onWindow_keeps (f : Window → Window) (s : State) :
    (onWindow f s).pending = s.pending ∧ (onWindow f s).agenda = s.agenda ∧
    (onWindow f s).link = s.link ∧ (onWindow f s).mem = s.mem ∧ (onWindow f s).intake = s.intake ∧
    (onWindow f s).attn = s.attn ∧ (onWindow f s).meter = s.meter ∧ (onWindow f s).energy = s.energy ∧
    (onWindow f s).clock = s.clock ∧ (onWindow f s).book = s.book ∧ (onWindow f s).credit = s.credit ∧
    (onWindow f s).decoder = s.decoder ∧ (onWindow f s).settings = s.settings ∧ (onWindow f s).switch = s.switch ∧
    (onWindow f s).tamper = s.tamper ∧ (onWindow f s).battery = s.battery ∧ (onWindow f s).store = s.store ∧
    (onWindow f s).supply = s.supply ∧ (onWindow f s).catchUp = s.catchUp ∧ (onWindow f s).pins = s.pins := by
  and_intros <;> rfl

/-- What `onSwitch` leaves alone. -/
@[simp] theorem onSwitch_keeps (f : Switch → Switch) (s : State) :
    (onSwitch f s).pending = s.pending ∧ (onSwitch f s).agenda = s.agenda ∧
    (onSwitch f s).link = s.link ∧ (onSwitch f s).mem = s.mem ∧ (onSwitch f s).intake = s.intake ∧
    (onSwitch f s).attn = s.attn ∧ (onSwitch f s).meter = s.meter ∧ (onSwitch f s).energy = s.energy ∧
    (onSwitch f s).clock = s.clock ∧ (onSwitch f s).book = s.book ∧ (onSwitch f s).credit = s.credit ∧
    (onSwitch f s).decoder = s.decoder ∧ (onSwitch f s).settings = s.settings ∧ (onSwitch f s).window = s.window ∧
    (onSwitch f s).tamper = s.tamper ∧ (onSwitch f s).battery = s.battery ∧ (onSwitch f s).store = s.store ∧
    (onSwitch f s).supply = s.supply ∧ (onSwitch f s).catchUp = s.catchUp ∧ (onSwitch f s).pins = s.pins := by
  and_intros <;> rfl

/-- What `onTamper` leaves alone. -/
@[simp] theorem onTamper_keeps (f : Tamper → Tamper) (s : State) :
    (onTamper f s).pending = s.pending ∧ (onTamper f s).agenda = s.agenda ∧
    (onTamper f s).link = s.link ∧ (onTamper f s).mem = s.mem ∧ (onTamper f s).intake = s.intake ∧
    (onTamper f s).attn = s.attn ∧ (onTamper f s).meter = s.meter ∧ (onTamper f s).energy = s.energy ∧
    (onTamper f s).clock = s.clock ∧ (onTamper f s).book = s.book ∧ (onTamper f s).credit = s.credit ∧
    (onTamper f s).decoder = s.decoder ∧ (onTamper f s).settings = s.settings ∧ (onTamper f s).window = s.window ∧
    (onTamper f s).switch = s.switch ∧ (onTamper f s).battery = s.battery ∧ (onTamper f s).store = s.store ∧
    (onTamper f s).supply = s.supply ∧ (onTamper f s).catchUp = s.catchUp ∧ (onTamper f s).pins = s.pins := by
  and_intros <;> rfl

/-- What `onBattery` leaves alone. -/
@[simp] theorem onBattery_keeps (f : Battery → Battery) (s : State) :
    (onBattery f s).pending = s.pending ∧ (onBattery f s).agenda = s.agenda ∧
    (onBattery f s).link = s.link ∧ (onBattery f s).mem = s.mem ∧ (onBattery f s).intake = s.intake ∧
    (onBattery f s).attn = s.attn ∧ (onBattery f s).meter = s.meter ∧ (onBattery f s).energy = s.energy ∧
    (onBattery f s).clock = s.clock ∧ (onBattery f s).book = s.book ∧ (onBattery f s).credit = s.credit ∧
    (onBattery f s).decoder = s.decoder ∧ (onBattery f s).settings = s.settings ∧
    (onBattery f s).window = s.window ∧ (onBattery f s).switch = s.switch ∧ (onBattery f s).tamper = s.tamper ∧
    (onBattery f s).store = s.store ∧ (onBattery f s).supply = s.supply ∧ (onBattery f s).catchUp = s.catchUp ∧
    (onBattery f s).pins = s.pins := by
  and_intros <;> rfl

/-- What `onStore` leaves alone. -/
@[simp] theorem onStore_keeps (f : Store → Store) (s : State) :
    (onStore f s).pending = s.pending ∧ (onStore f s).agenda = s.agenda ∧ (onStore f s).link = s.link ∧
    (onStore f s).mem = s.mem ∧ (onStore f s).intake = s.intake ∧ (onStore f s).attn = s.attn ∧
    (onStore f s).meter = s.meter ∧ (onStore f s).energy = s.energy ∧ (onStore f s).clock = s.clock ∧
    (onStore f s).book = s.book ∧ (onStore f s).credit = s.credit ∧ (onStore f s).decoder = s.decoder ∧
    (onStore f s).settings = s.settings ∧ (onStore f s).window = s.window ∧ (onStore f s).switch = s.switch ∧
    (onStore f s).tamper = s.tamper ∧ (onStore f s).battery = s.battery ∧ (onStore f s).supply = s.supply ∧
    (onStore f s).catchUp = s.catchUp ∧ (onStore f s).pins = s.pins := by
  and_intros <;> rfl

/-- What `onSupply` leaves alone. -/
@[simp] theorem onSupply_keeps (f : Supply → Supply) (s : State) :
    (onSupply f s).pending = s.pending ∧ (onSupply f s).agenda = s.agenda ∧
    (onSupply f s).link = s.link ∧ (onSupply f s).mem = s.mem ∧ (onSupply f s).intake = s.intake ∧
    (onSupply f s).attn = s.attn ∧ (onSupply f s).meter = s.meter ∧ (onSupply f s).energy = s.energy ∧
    (onSupply f s).clock = s.clock ∧ (onSupply f s).book = s.book ∧ (onSupply f s).credit = s.credit ∧
    (onSupply f s).decoder = s.decoder ∧ (onSupply f s).settings = s.settings ∧ (onSupply f s).window = s.window ∧
    (onSupply f s).switch = s.switch ∧ (onSupply f s).tamper = s.tamper ∧ (onSupply f s).battery = s.battery ∧
    (onSupply f s).store = s.store ∧ (onSupply f s).catchUp = s.catchUp ∧ (onSupply f s).pins = s.pins := by
  and_intros <;> rfl

/-- What `onCatchUp` leaves alone. -/
@[simp] theorem onCatchUp_keeps (f : CatchUp → CatchUp) (s : State) :
    (onCatchUp f s).pending = s.pending ∧ (onCatchUp f s).agenda = s.agenda ∧ (onCatchUp f s).link = s.link ∧
    (onCatchUp f s).mem = s.mem ∧ (onCatchUp f s).intake = s.intake ∧ (onCatchUp f s).attn = s.attn ∧
    (onCatchUp f s).meter = s.meter ∧ (onCatchUp f s).energy = s.energy ∧ (onCatchUp f s).clock = s.clock ∧
    (onCatchUp f s).book = s.book ∧ (onCatchUp f s).credit = s.credit ∧ (onCatchUp f s).decoder = s.decoder ∧
    (onCatchUp f s).settings = s.settings ∧ (onCatchUp f s).window = s.window ∧ (onCatchUp f s).switch = s.switch ∧
    (onCatchUp f s).tamper = s.tamper ∧ (onCatchUp f s).battery = s.battery ∧ (onCatchUp f s).store = s.store ∧
    (onCatchUp f s).supply = s.supply ∧ (onCatchUp f s).pins = s.pins := by
  and_intros <;> rfl

/-- What `dueFirst` leaves alone. -/
@[simp] theorem dueFirst_keeps (d : Due) (s : State) :
    (dueFirst d s).pending = s.pending ∧ (dueFirst d s).link = s.link ∧ (dueFirst d s).mem = s.mem ∧
    (dueFirst d s).intake = s.intake ∧ (dueFirst d s).attn = s.attn ∧ (dueFirst d s).meter = s.meter ∧
    (dueFirst d s).energy = s.energy ∧ (dueFirst d s).clock = s.clock ∧ (dueFirst d s).book = s.book ∧
    (dueFirst d s).credit = s.credit ∧ (dueFirst d s).decoder = s.decoder ∧ (dueFirst d s).settings = s.settings ∧
    (dueFirst d s).window = s.window ∧ (dueFirst d s).switch = s.switch ∧ (dueFirst d s).tamper = s.tamper ∧
    (dueFirst d s).battery = s.battery ∧ (dueFirst d s).store = s.store ∧ (dueFirst d s).supply = s.supply ∧
    (dueFirst d s).catchUp = s.catchUp ∧ (dueFirst d s).pins = s.pins := by
  and_intros <;> rfl

/-- What `dueLast` leaves alone. -/
@[simp] theorem dueLast_keeps (d : Due) (s : State) :
    (dueLast d s).pending = s.pending ∧ (dueLast d s).link = s.link ∧ (dueLast d s).mem = s.mem ∧
    (dueLast d s).intake = s.intake ∧ (dueLast d s).attn = s.attn ∧ (dueLast d s).meter = s.meter ∧
    (dueLast d s).energy = s.energy ∧ (dueLast d s).clock = s.clock ∧ (dueLast d s).book = s.book ∧
    (dueLast d s).credit = s.credit ∧ (dueLast d s).decoder = s.decoder ∧ (dueLast d s).settings = s.settings ∧
    (dueLast d s).window = s.window ∧ (dueLast d s).switch = s.switch ∧ (dueLast d s).tamper = s.tamper ∧
    (dueLast d s).battery = s.battery ∧ (dueLast d s).store = s.store ∧ (dueLast d s).supply = s.supply ∧
    (dueLast d s).catchUp = s.catchUp ∧ (dueLast d s).pins = s.pins := by
  and_intros <;> rfl

/-- What `markDue` leaves alone. -/
@[simp] theorem markDue_keeps (b : BitVec 6) (s : State) :
    (markDue b s).pending = s.pending ∧ (markDue b s).agenda = s.agenda ∧ (markDue b s).link = s.link ∧
    (markDue b s).mem = s.mem ∧ (markDue b s).intake = s.intake ∧ (markDue b s).attn.mask = s.attn.mask ∧
    (markDue b s).meter = s.meter ∧ (markDue b s).energy = s.energy ∧ (markDue b s).clock = s.clock ∧
    (markDue b s).book = s.book ∧ (markDue b s).credit = s.credit ∧ (markDue b s).decoder = s.decoder ∧
    (markDue b s).settings = s.settings ∧ (markDue b s).window = s.window ∧ (markDue b s).switch = s.switch ∧
    (markDue b s).tamper = s.tamper ∧ (markDue b s).battery = s.battery ∧ (markDue b s).store = s.store ∧
    (markDue b s).supply = s.supply ∧ (markDue b s).catchUp = s.catchUp ∧ (markDue b s).pins = s.pins ∧
    (markDue b s).attn.busy = s.attn.busy ∧
    (markDue b s).attn.bits = s.attn.bits ∧ (markDue b s).attn.queued = s.attn.queued ∧
    (markDue b s).attn.inFlight = s.attn.inFlight := by
  and_intros <;> rfl

/-- What `raiseNow` leaves alone. -/
@[simp] theorem raiseNow_keeps (b : BitVec 6) (s : State) :
    (raiseNow b s).pending = s.pending ∧ (raiseNow b s).agenda = s.agenda ∧
    (raiseNow b s).link = s.link ∧ (raiseNow b s).mem = s.mem ∧ (raiseNow b s).intake = s.intake ∧
    (raiseNow b s).attn.mask = s.attn.mask ∧ (raiseNow b s).meter = s.meter ∧ (raiseNow b s).energy = s.energy ∧
    (raiseNow b s).clock = s.clock ∧ (raiseNow b s).book = s.book ∧ (raiseNow b s).credit = s.credit ∧
    (raiseNow b s).decoder = s.decoder ∧ (raiseNow b s).settings = s.settings ∧ (raiseNow b s).window = s.window ∧
    (raiseNow b s).switch = s.switch ∧ (raiseNow b s).tamper = s.tamper ∧ (raiseNow b s).battery = s.battery ∧
    (raiseNow b s).store = s.store ∧ (raiseNow b s).supply = s.supply ∧ (raiseNow b s).catchUp = s.catchUp ∧
    (raiseNow b s).pins = s.pins ∧
    (raiseNow b s).attn.busy = s.attn.busy ∧ (raiseNow b s).attn.due = s.attn.due ∧
    (raiseNow b s).attn.queued = s.attn.queued ∧ (raiseNow b s).attn.inFlight = s.attn.inFlight := by
  and_intros <;> rfl

/-- What `setStage` leaves alone. -/
@[simp] theorem setStage_keeps (g : Stage) (s : State) :
    (setStage g s).pending = s.pending ∧ (setStage g s).agenda = s.agenda ∧
    (setStage g s).link = s.link ∧ (setStage g s).mem = s.mem ∧
    (setStage g s).intake.list = s.intake.list ∧ (setStage g s).intake.ready = s.intake.ready ∧
    (setStage g s).attn = s.attn ∧ (setStage g s).meter = s.meter ∧ (setStage g s).energy = s.energy ∧
    (setStage g s).clock = s.clock ∧ (setStage g s).book = s.book ∧ (setStage g s).credit = s.credit ∧
    (setStage g s).decoder = s.decoder ∧ (setStage g s).settings = s.settings ∧ (setStage g s).window = s.window ∧
    (setStage g s).switch = s.switch ∧ (setStage g s).tamper = s.tamper ∧ (setStage g s).battery = s.battery ∧
    (setStage g s).store = s.store ∧ (setStage g s).supply = s.supply ∧ (setStage g s).catchUp = s.catchUp ∧
    (setStage g s).pins = s.pins := by
  and_intros <;> rfl

/-- What `answerFrame` leaves alone. -/
@[simp] theorem answerFrame_keeps (bytes : List Byte) (s : State) :
    (answerFrame bytes s).pending = s.pending ∧ (answerFrame bytes s).agenda = s.agenda ∧
    (answerFrame bytes s).mem = s.mem ∧ (answerFrame bytes s).intake = s.intake ∧
    (answerFrame bytes s).attn = s.attn ∧ (answerFrame bytes s).meter = s.meter ∧
    (answerFrame bytes s).energy = s.energy ∧ (answerFrame bytes s).clock = s.clock ∧
    (answerFrame bytes s).book = s.book ∧ (answerFrame bytes s).credit = s.credit ∧
    (answerFrame bytes s).decoder = s.decoder ∧ (answerFrame bytes s).settings = s.settings ∧
    (answerFrame bytes s).window = s.window ∧ (answerFrame bytes s).switch = s.switch ∧
    (answerFrame bytes s).tamper = s.tamper ∧ (answerFrame bytes s).battery = s.battery ∧
    (answerFrame bytes s).store = s.store ∧ (answerFrame bytes s).supply = s.supply ∧
    (answerFrame bytes s).catchUp = s.catchUp ∧ (answerFrame bytes s).pins = s.pins := by
  and_intros <;> rfl

/-- What `beginFrame` leaves alone. -/
@[simp] theorem beginFrame_keeps (write : Bool) (s : State) :
    (beginFrame write s).pending = s.pending ∧ (beginFrame write s).agenda = s.agenda ∧
    (beginFrame write s).mem = s.mem ∧ (beginFrame write s).intake = s.intake ∧ (beginFrame write s).attn = s.attn ∧
    (beginFrame write s).meter = s.meter ∧ (beginFrame write s).energy = s.energy ∧
    (beginFrame write s).clock = s.clock ∧ (beginFrame write s).book = s.book ∧
    (beginFrame write s).credit = s.credit ∧ (beginFrame write s).decoder = s.decoder ∧
    (beginFrame write s).settings = s.settings ∧ (beginFrame write s).window = s.window ∧
    (beginFrame write s).switch = s.switch ∧ (beginFrame write s).tamper = s.tamper ∧
    (beginFrame write s).battery = s.battery ∧ (beginFrame write s).store = s.store ∧
    (beginFrame write s).supply = s.supply ∧ (beginFrame write s).catchUp = s.catchUp ∧ (beginFrame write s).pins = s.pins := by
  unfold beginFrame
  split <;> simp

/-- What `endFrame` leaves alone. -/
@[simp] theorem endFrame_keeps (more : Bool) (s : State) :
    (endFrame more s).pending = s.pending ∧ (endFrame more s).agenda = s.agenda ∧ (endFrame more s).mem = s.mem ∧
    (endFrame more s).intake = s.intake ∧ (endFrame more s).attn = s.attn ∧ (endFrame more s).meter = s.meter ∧
    (endFrame more s).energy = s.energy ∧ (endFrame more s).clock = s.clock ∧ (endFrame more s).book = s.book ∧
    (endFrame more s).credit = s.credit ∧ (endFrame more s).decoder = s.decoder ∧
    (endFrame more s).settings = s.settings ∧ (endFrame more s).window = s.window ∧
    (endFrame more s).switch = s.switch ∧ (endFrame more s).tamper = s.tamper ∧
    (endFrame more s).battery = s.battery ∧ (endFrame more s).store = s.store ∧ (endFrame more s).supply = s.supply ∧
    (endFrame more s).catchUp = s.catchUp ∧ (endFrame more s).pins = s.pins := by
  unfold endFrame
  split <;> simp

/-- What `setContactor` leaves alone. -/
@[simp] theorem setContactor_keeps (c : Contactor) (s : State) :
    (setContactor c s).pending = s.pending ∧ (setContactor c s).agenda = s.agenda ∧
    (setContactor c s).link = s.link ∧ (setContactor c s).mem = s.mem ∧
    (setContactor c s).intake = s.intake ∧ (setContactor c s).attn = s.attn ∧ (setContactor c s).meter = s.meter ∧
    (setContactor c s).energy = s.energy ∧ (setContactor c s).clock = s.clock ∧ (setContactor c s).book = s.book ∧
    (setContactor c s).credit = s.credit ∧ (setContactor c s).decoder = s.decoder ∧
    (setContactor c s).settings = s.settings ∧ (setContactor c s).window = s.window ∧
    (setContactor c s).tamper = s.tamper ∧ (setContactor c s).battery = s.battery ∧
    (setContactor c s).store = s.store ∧ (setContactor c s).supply = s.supply ∧ (setContactor c s).catchUp = s.catchUp ∧
    (setContactor c s).pins = s.pins ∧
    (setContactor c s).switch.kept = s.switch.kept ∧ (setContactor c s).switch.reasons = s.switch.reasons ∧
    (setContactor c s).switch.friendly = s.switch.friendly ∧
    (setContactor c s).switch.windowHold = s.switch.windowHold ∧
    (setContactor c s).switch.acting = s.switch.acting ∧ (setContactor c s).switch.held = s.switch.held ∧
    (setContactor c s).switch.governing = s.switch.governing ∧
    (setContactor c s).switch.attempt = s.switch.attempt ∧
    (setContactor c s).switch.attemptCount = s.switch.attemptCount := by
  and_intros <;> rfl

/-- What `setReason` leaves alone. -/
@[simp] theorem setReason_keeps (r : Governing) (on : Bool) (s : State) :
    (setReason r on s).pending = s.pending ∧ (setReason r on s).agenda = s.agenda ∧
    (setReason r on s).link = s.link ∧ (setReason r on s).mem = s.mem ∧
    (setReason r on s).intake = s.intake ∧ (setReason r on s).attn = s.attn ∧ (setReason r on s).meter = s.meter ∧
    (setReason r on s).energy = s.energy ∧ (setReason r on s).clock = s.clock ∧ (setReason r on s).book = s.book ∧
    (setReason r on s).credit = s.credit ∧ (setReason r on s).decoder = s.decoder ∧
    (setReason r on s).settings = s.settings ∧ (setReason r on s).window = s.window ∧
    (setReason r on s).tamper = s.tamper ∧ (setReason r on s).battery = s.battery ∧
    (setReason r on s).store = s.store ∧ (setReason r on s).supply = s.supply ∧ (setReason r on s).catchUp = s.catchUp ∧
    (setReason r on s).pins = s.pins ∧
    (setReason r on s).switch.kept = s.switch.kept ∧ (setReason r on s).switch.friendly = s.switch.friendly ∧
    (setReason r on s).switch.windowHold = s.switch.windowHold ∧
    (setReason r on s).switch.acting = s.switch.acting ∧
    (setReason r on s).switch.contactor = s.switch.contactor := by
  cases r <;> and_intros <;> rfl

/-- What `formSets` leaves alone. -/
@[simp] theorem formSets_keeps (s : State) :
    (formSets s).pending = s.pending ∧ (formSets s).agenda = s.agenda ∧ (formSets s).link = s.link ∧
    (formSets s).mem = s.mem ∧ (formSets s).intake = s.intake ∧ (formSets s).attn = s.attn ∧
    (formSets s).meter = s.meter ∧ (formSets s).energy = s.energy ∧ (formSets s).clock = s.clock ∧
    (formSets s).book = s.book ∧ (formSets s).credit = s.credit ∧ (formSets s).decoder = s.decoder ∧
    (formSets s).settings = s.settings ∧ (formSets s).window = s.window ∧ (formSets s).tamper = s.tamper ∧
    (formSets s).battery = s.battery ∧ (formSets s).store = s.store ∧ (formSets s).supply = s.supply ∧
    (formSets s).catchUp = s.catchUp ∧ (formSets s).pins = s.pins ∧ (formSets s).switch.reasons = s.switch.reasons ∧
    (formSets s).switch.friendly = s.switch.friendly ∧ (formSets s).switch.windowHold = s.switch.windowHold ∧
    (formSets s).switch.contactor = s.switch.contactor ∧ (formSets s).switch.attempt = s.switch.attempt ∧
    (formSets s).switch.attemptCount = s.switch.attemptCount := by
  and_intros <;> rfl

/-- What `enterClosed` leaves alone. -/
@[simp] theorem enterClosed_keeps (s : State) :
    (enterClosed s).pending = s.pending ∧ (enterClosed s).agenda = s.agenda ∧
    (enterClosed s).link = s.link ∧ (enterClosed s).mem = s.mem ∧ (enterClosed s).intake = s.intake ∧
    (enterClosed s).attn = s.attn ∧ (enterClosed s).meter = s.meter ∧ (enterClosed s).energy = s.energy ∧
    (enterClosed s).clock = s.clock ∧ (enterClosed s).book = s.book ∧ (enterClosed s).credit = s.credit ∧
    (enterClosed s).decoder = s.decoder ∧ (enterClosed s).settings = s.settings ∧
    (enterClosed s).window = s.window ∧ (enterClosed s).tamper = s.tamper ∧ (enterClosed s).battery = s.battery ∧
    (enterClosed s).store = s.store ∧ (enterClosed s).supply = s.supply ∧ (enterClosed s).catchUp = s.catchUp ∧
    (enterClosed s).pins = s.pins ∧
    (enterClosed s).switch.reasons = s.switch.reasons ∧ (enterClosed s).switch.friendly = s.switch.friendly ∧
    (enterClosed s).switch.windowHold = s.switch.windowHold ∧ (enterClosed s).switch.acting = s.switch.acting ∧
    (enterClosed s).switch.governing = s.switch.governing := by
  and_intros <;> rfl

/-- What `beginPulse` leaves alone. -/
@[simp] theorem beginPulse_keeps (d : Winding) (s : State) :
    (beginPulse d s).pending = s.pending ∧ (beginPulse d s).agenda = s.agenda ∧
    (beginPulse d s).link = s.link ∧ (beginPulse d s).mem = s.mem ∧ (beginPulse d s).intake = s.intake ∧
    (beginPulse d s).attn = s.attn ∧ (beginPulse d s).meter = s.meter ∧ (beginPulse d s).energy = s.energy ∧
    (beginPulse d s).clock = s.clock ∧ (beginPulse d s).book = s.book ∧ (beginPulse d s).credit = s.credit ∧
    (beginPulse d s).decoder = s.decoder ∧ (beginPulse d s).settings = s.settings ∧
    (beginPulse d s).window = s.window ∧ (beginPulse d s).tamper = s.tamper ∧
    (beginPulse d s).battery = s.battery ∧ (beginPulse d s).store = s.store ∧ (beginPulse d s).supply = s.supply ∧
    (beginPulse d s).catchUp = s.catchUp ∧ (beginPulse d s).pins = s.pins ∧ (beginPulse d s).switch.reasons = s.switch.reasons ∧
    (beginPulse d s).switch.friendly = s.switch.friendly ∧
    (beginPulse d s).switch.windowHold = s.switch.windowHold ∧ (beginPulse d s).switch.acting = s.switch.acting ∧
    (beginPulse d s).switch.contactor = s.switch.contactor ∧
    (beginPulse d s).switch.governing = s.switch.governing := by
  and_intros <;> rfl

/-- What `setStuckTimer` leaves alone. -/
@[simp] theorem setStuckTimer_keeps (n : Nat) (s : State) :
    (setStuckTimer n s).pending = s.pending ∧ (setStuckTimer n s).agenda = s.agenda ∧
    (setStuckTimer n s).link = s.link ∧ (setStuckTimer n s).mem = s.mem ∧
    (setStuckTimer n s).intake = s.intake ∧ (setStuckTimer n s).attn = s.attn ∧
    (setStuckTimer n s).meter = s.meter ∧ (setStuckTimer n s).energy = s.energy ∧
    (setStuckTimer n s).clock = s.clock ∧ (setStuckTimer n s).book = s.book ∧
    (setStuckTimer n s).credit = s.credit ∧ (setStuckTimer n s).decoder = s.decoder ∧
    (setStuckTimer n s).settings = s.settings ∧ (setStuckTimer n s).window = s.window ∧
    (setStuckTimer n s).tamper = s.tamper ∧ (setStuckTimer n s).battery = s.battery ∧
    (setStuckTimer n s).store = s.store ∧ (setStuckTimer n s).supply = s.supply ∧
    (setStuckTimer n s).catchUp = s.catchUp ∧ (setStuckTimer n s).pins = s.pins ∧
    (setStuckTimer n s).switch.kept = s.switch.kept ∧
    (setStuckTimer n s).switch.reasons = s.switch.reasons ∧
    (setStuckTimer n s).switch.friendly = s.switch.friendly ∧
    (setStuckTimer n s).switch.windowHold = s.switch.windowHold ∧
    (setStuckTimer n s).switch.acting = s.switch.acting ∧
    (setStuckTimer n s).switch.contactor = s.switch.contactor ∧
    (setStuckTimer n s).switch.governing = s.switch.governing ∧
    (setStuckTimer n s).switch.attempt = s.switch.attempt ∧
    (setStuckTimer n s).switch.attemptCount = s.switch.attemptCount := by
  and_intros <;> rfl

/-- What `endAttempt` leaves alone. -/
@[simp] theorem endAttempt_keeps (s : State) :
    (endAttempt s).pending = s.pending ∧ (endAttempt s).agenda = s.agenda ∧
    (endAttempt s).link = s.link ∧ (endAttempt s).mem = s.mem ∧ (endAttempt s).intake = s.intake ∧
    (endAttempt s).attn = s.attn ∧ (endAttempt s).meter = s.meter ∧ (endAttempt s).energy = s.energy ∧
    (endAttempt s).clock = s.clock ∧ (endAttempt s).book = s.book ∧ (endAttempt s).credit = s.credit ∧
    (endAttempt s).decoder = s.decoder ∧ (endAttempt s).settings = s.settings ∧ (endAttempt s).window = s.window ∧
    (endAttempt s).tamper = s.tamper ∧ (endAttempt s).battery = s.battery ∧ (endAttempt s).store = s.store ∧
    (endAttempt s).supply = s.supply ∧ (endAttempt s).catchUp = s.catchUp ∧ (endAttempt s).pins = s.pins ∧
    (endAttempt s).switch.kept = s.switch.kept ∧
    (endAttempt s).switch.reasons = s.switch.reasons ∧ (endAttempt s).switch.friendly = s.switch.friendly ∧
    (endAttempt s).switch.windowHold = s.switch.windowHold ∧ (endAttempt s).switch.acting = s.switch.acting ∧
    (endAttempt s).switch.contactor = s.switch.contactor ∧
    (endAttempt s).switch.governing = s.switch.governing := by
  and_intros <;> rfl

/-- What `setRecord` leaves alone. -/
@[simp] theorem setRecord_keeps (k : Fin 10) (r : TamperRecord) (s : State) :
    (setRecord k r s).pending = s.pending ∧ (setRecord k r s).agenda = s.agenda ∧
    (setRecord k r s).link = s.link ∧ (setRecord k r s).mem = s.mem ∧
    (setRecord k r s).intake = s.intake ∧ (setRecord k r s).attn = s.attn ∧ (setRecord k r s).meter = s.meter ∧
    (setRecord k r s).energy = s.energy ∧ (setRecord k r s).clock = s.clock ∧ (setRecord k r s).book = s.book ∧
    (setRecord k r s).credit = s.credit ∧ (setRecord k r s).decoder = s.decoder ∧
    (setRecord k r s).settings = s.settings ∧ (setRecord k r s).window = s.window ∧
    (setRecord k r s).switch = s.switch ∧ (setRecord k r s).battery = s.battery ∧
    (setRecord k r s).store = s.store ∧ (setRecord k r s).supply = s.supply ∧ (setRecord k r s).catchUp = s.catchUp ∧
    (setRecord k r s).pins = s.pins ∧
    (setRecord k r s).tamper.caseIn = s.tamper.caseIn ∧ (setRecord k r s).tamper.coverIn = s.tamper.coverIn ∧
    (setRecord k r s).tamper.magIn = s.tamper.magIn ∧ (setRecord k r s).tamper.reason = s.tamper.reason := by
  and_intros <;> rfl

/-- What `setAccount` leaves alone. -/
@[simp] theorem setAccount_keeps (a : Account) (s : State) :
    (setAccount a s).pending = s.pending ∧ (setAccount a s).agenda = s.agenda ∧
    (setAccount a s).link = s.link ∧ (setAccount a s).mem = s.mem ∧ (setAccount a s).intake = s.intake ∧
    (setAccount a s).attn = s.attn ∧ (setAccount a s).meter = s.meter ∧ (setAccount a s).energy = s.energy ∧
    (setAccount a s).clock = s.clock ∧ (setAccount a s).book = s.book ∧ (setAccount a s).decoder = s.decoder ∧
    (setAccount a s).settings = s.settings ∧ (setAccount a s).window = s.window ∧
    (setAccount a s).switch = s.switch ∧ (setAccount a s).tamper = s.tamper ∧
    (setAccount a s).battery = s.battery ∧ (setAccount a s).store = s.store ∧ (setAccount a s).supply = s.supply ∧
    (setAccount a s).catchUp = s.catchUp ∧ (setAccount a s).pins = s.pins ∧ (setAccount a s).credit.ecState = s.credit.ecState ∧
    (setAccount a s).credit.lowCredit = s.credit.lowCredit ∧ (setAccount a s).credit.reason = s.credit.reason ∧
    (setAccount a s).credit.lastCharge = s.credit.lastCharge ∧
    (setAccount a s).credit.lastDayEnd = s.credit.lastDayEnd := by
  and_intros <;> rfl

/-- What `tick` leaves alone. -/
@[simp] theorem tick_keeps (s : State) :
    (tick s).pending = s.pending ∧ (tick s).agenda = s.agenda ∧ (tick s).link = s.link ∧
    (tick s).mem = s.mem ∧ (tick s).intake = s.intake ∧ (tick s).attn = s.attn ∧ (tick s).meter = s.meter ∧
    (tick s).energy = s.energy ∧ (tick s).book = s.book ∧ (tick s).credit = s.credit ∧
    (tick s).decoder = s.decoder ∧ (tick s).settings = s.settings ∧ (tick s).window = s.window ∧
    (tick s).switch = s.switch ∧ (tick s).tamper = s.tamper ∧ (tick s).battery = s.battery ∧
    (tick s).store = s.store ∧ (tick s).supply = s.supply ∧ (tick s).catchUp = s.catchUp ∧ (tick s).pins = s.pins ∧
    (tick s).clock.source = s.clock.source ∧ (tick s).clock.certain = s.clock.certain ∧
    (tick s).clock.crystalFailed = s.clock.crystalFailed := by
  and_intros <;> rfl

/-- What `beginInterval` leaves alone. -/
@[simp] theorem beginInterval_keeps (s : State) :
    (beginInterval s).pending = s.pending ∧ (beginInterval s).agenda = s.agenda ∧
    (beginInterval s).link = s.link ∧ (beginInterval s).mem = s.mem ∧
    (beginInterval s).intake = s.intake ∧ (beginInterval s).attn = s.attn ∧ (beginInterval s).energy = s.energy ∧
    (beginInterval s).clock = s.clock ∧ (beginInterval s).book = s.book ∧ (beginInterval s).credit = s.credit ∧
    (beginInterval s).decoder = s.decoder ∧ (beginInterval s).settings = s.settings ∧
    (beginInterval s).window = s.window ∧ (beginInterval s).switch = s.switch ∧
    (beginInterval s).tamper = s.tamper ∧ (beginInterval s).battery = s.battery ∧
    (beginInterval s).store = s.store ∧ (beginInterval s).supply = s.supply ∧ (beginInterval s).catchUp = s.catchUp ∧
    (beginInterval s).pins = s.pins := by
  and_intros <;> rfl

/-- What `sampleVbat` leaves alone. -/
@[simp] theorem sampleVbat_keeps (mv : Nat) (s : State) :
    (sampleVbat mv s).pending = s.pending ∧ (sampleVbat mv s).agenda = s.agenda ∧
    (sampleVbat mv s).link = s.link ∧ (sampleVbat mv s).mem = s.mem ∧
    (sampleVbat mv s).intake = s.intake ∧ (sampleVbat mv s).attn = s.attn ∧ (sampleVbat mv s).meter = s.meter ∧
    (sampleVbat mv s).energy = s.energy ∧ (sampleVbat mv s).clock = s.clock ∧ (sampleVbat mv s).book = s.book ∧
    (sampleVbat mv s).credit = s.credit ∧ (sampleVbat mv s).decoder = s.decoder ∧
    (sampleVbat mv s).settings = s.settings ∧ (sampleVbat mv s).window = s.window ∧
    (sampleVbat mv s).switch = s.switch ∧ (sampleVbat mv s).tamper = s.tamper ∧
    (sampleVbat mv s).battery = s.battery ∧ (sampleVbat mv s).store = s.store ∧ (sampleVbat mv s).catchUp = s.catchUp ∧
    (sampleVbat mv s).pins = s.pins ∧
    (sampleVbat mv s).supply.power = s.supply.power ∧ (sampleVbat mv s).supply.startStep = s.supply.startStep ∧
    (sampleVbat mv s).supply.cause = s.supply.cause ∧ (sampleVbat mv s).supply.resetHold = s.supply.resetHold ∧
    (sampleVbat mv s).supply.vsLow = s.supply.vsLow ∧
    (sampleVbat mv s).supply.resetRemembered = s.supply.resetRemembered := by
  and_intros <;> rfl

/-- What `takeResults` leaves alone. -/
@[simp] theorem takeResults_keeps (m : Measurement) (s : State) :
    (takeResults m s).pending = s.pending ∧ (takeResults m s).agenda = s.agenda ∧
    (takeResults m s).link = s.link ∧ (takeResults m s).mem = s.mem ∧
    (takeResults m s).intake = s.intake ∧ (takeResults m s).attn = s.attn ∧ (takeResults m s).energy = s.energy ∧
    (takeResults m s).clock = s.clock ∧ (takeResults m s).book = s.book ∧ (takeResults m s).credit = s.credit ∧
    (takeResults m s).decoder = s.decoder ∧ (takeResults m s).settings = s.settings ∧
    (takeResults m s).window = s.window ∧ (takeResults m s).switch = s.switch ∧
    (takeResults m s).tamper = s.tamper ∧ (takeResults m s).battery = s.battery ∧
    (takeResults m s).store = s.store ∧ (takeResults m s).supply = s.supply ∧ (takeResults m s).catchUp = s.catchUp ∧
    (takeResults m s).pins = s.pins := by
  and_intros <;> rfl

/-- What `reconnectClears` leaves alone. -/
@[simp] theorem reconnectClears_keeps (s : State) :
    (reconnectClears s).pending = s.pending ∧ (reconnectClears s).agenda = s.agenda ∧
    (reconnectClears s).link = s.link ∧ (reconnectClears s).mem = s.mem ∧
    (reconnectClears s).intake = s.intake ∧ (reconnectClears s).attn = s.attn ∧
    (reconnectClears s).meter = s.meter ∧ (reconnectClears s).energy = s.energy ∧
    (reconnectClears s).clock = s.clock ∧ (reconnectClears s).book = s.book ∧
    (reconnectClears s).credit = s.credit ∧ (reconnectClears s).decoder = s.decoder ∧
    (reconnectClears s).settings = s.settings ∧ (reconnectClears s).window = s.window ∧
    (reconnectClears s).tamper = s.tamper ∧ (reconnectClears s).battery = s.battery ∧
    (reconnectClears s).store = s.store ∧ (reconnectClears s).supply = s.supply ∧
    (reconnectClears s).catchUp = s.catchUp ∧ (reconnectClears s).pins = s.pins := by
  and_intros <;> rfl

/-- What `finishCleanRun` leaves alone. -/
@[simp] theorem finishCleanRun_keeps (s : State) :
    (finishCleanRun s).pending = s.pending ∧ (finishCleanRun s).agenda = s.agenda ∧
    (finishCleanRun s).link = s.link ∧ (finishCleanRun s).mem = s.mem ∧
    (finishCleanRun s).intake = s.intake ∧ (finishCleanRun s).attn = s.attn ∧ (finishCleanRun s).meter = s.meter ∧
    (finishCleanRun s).energy = s.energy ∧ (finishCleanRun s).clock = s.clock ∧ (finishCleanRun s).book = s.book ∧
    (finishCleanRun s).credit = s.credit ∧ (finishCleanRun s).decoder = s.decoder ∧
    (finishCleanRun s).settings = s.settings ∧ (finishCleanRun s).window = s.window ∧
    (finishCleanRun s).tamper = s.tamper ∧ (finishCleanRun s).battery = s.battery ∧
    (finishCleanRun s).store = s.store ∧ (finishCleanRun s).supply = s.supply ∧
    (finishCleanRun s).catchUp = s.catchUp ∧ (finishCleanRun s).pins = s.pins := by
  and_intros <;> rfl

/-- What `sampleBattery` leaves alone. -/
@[simp] theorem sampleBattery_keeps (p : SensePins) (s : State) :
    (sampleBattery p s).pending = s.pending ∧ (sampleBattery p s).agenda = s.agenda ∧
    (sampleBattery p s).link = s.link ∧ (sampleBattery p s).mem = s.mem ∧
    (sampleBattery p s).intake = s.intake ∧ (sampleBattery p s).attn = s.attn ∧
    (sampleBattery p s).meter = s.meter ∧ (sampleBattery p s).energy = s.energy ∧
    (sampleBattery p s).clock = s.clock ∧ (sampleBattery p s).book = s.book ∧
    (sampleBattery p s).credit = s.credit ∧ (sampleBattery p s).decoder = s.decoder ∧
    (sampleBattery p s).settings = s.settings ∧ (sampleBattery p s).window = s.window ∧
    (sampleBattery p s).switch = s.switch ∧ (sampleBattery p s).tamper = s.tamper ∧
    (sampleBattery p s).store = s.store ∧ (sampleBattery p s).supply = s.supply ∧
    (sampleBattery p s).catchUp = s.catchUp ∧ (sampleBattery p s).pins = s.pins := by
  and_intros <;> rfl

/-- What `closePublication` leaves alone. -/
@[simp] theorem closePublication_keeps (s : State) :
    (closePublication s).pending = s.pending ∧ (closePublication s).agenda = s.agenda ∧
    (closePublication s).link = s.link ∧ (closePublication s).intake = s.intake ∧
    (closePublication s).meter = s.meter ∧ (closePublication s).energy = s.energy ∧
    (closePublication s).clock = s.clock ∧ (closePublication s).book = s.book ∧
    (closePublication s).credit = s.credit ∧ (closePublication s).decoder = s.decoder ∧
    (closePublication s).settings = s.settings ∧ (closePublication s).window = s.window ∧
    (closePublication s).switch = s.switch ∧ (closePublication s).tamper = s.tamper ∧
    (closePublication s).battery = s.battery ∧ (closePublication s).store = s.store ∧
    (closePublication s).supply = s.supply ∧ (closePublication s).catchUp = s.catchUp ∧ (closePublication s).pins = s.pins ∧
    (closePublication s).attn.mask = s.attn.mask := by
  and_intros <;> rfl

/-- What `setFault` leaves alone. -/
@[simp] theorem setFault_keeps (b : Bool) (s : State) :
    (setFault b s).pending = s.pending ∧ (setFault b s).agenda = s.agenda ∧
    (setFault b s).link = s.link ∧ (setFault b s).mem = s.mem ∧ (setFault b s).intake = s.intake ∧
    (setFault b s).attn = s.attn ∧ (setFault b s).meter = s.meter ∧ (setFault b s).energy = s.energy ∧
    (setFault b s).clock = s.clock ∧ (setFault b s).book = s.book ∧ (setFault b s).credit = s.credit ∧
    (setFault b s).decoder = s.decoder ∧ (setFault b s).settings = s.settings ∧ (setFault b s).window = s.window ∧
    (setFault b s).tamper = s.tamper ∧ (setFault b s).battery = s.battery ∧ (setFault b s).store = s.store ∧
    (setFault b s).supply = s.supply ∧ (setFault b s).catchUp = s.catchUp ∧ (setFault b s).pins = s.pins ∧
    (setFault b s).switch.kept = s.switch.kept ∧
    (setFault b s).switch.reasons = s.switch.reasons ∧ (setFault b s).switch.friendly = s.switch.friendly ∧
    (setFault b s).switch.windowHold = s.switch.windowHold ∧ (setFault b s).switch.hold = s.switch.hold ∧
    (setFault b s).switch.acting = s.switch.acting ∧ (setFault b s).switch.held = s.switch.held ∧
    (setFault b s).switch.governing = s.switch.governing ∧ (setFault b s).switch.contactor = s.switch.contactor ∧
    (setFault b s).switch.attempt = s.switch.attempt ∧
    (setFault b s).switch.attemptCount = s.switch.attemptCount := by
  and_intros <;> rfl

/-- What `commandPosition` leaves alone. -/
@[simp] theorem commandPosition_keeps (c : Bool) (s : State) :
    (commandPosition c s).pending = s.pending ∧ (commandPosition c s).agenda = s.agenda ∧
    (commandPosition c s).link = s.link ∧ (commandPosition c s).mem = s.mem ∧
    (commandPosition c s).intake = s.intake ∧ (commandPosition c s).attn = s.attn ∧
    (commandPosition c s).meter = s.meter ∧ (commandPosition c s).energy = s.energy ∧
    (commandPosition c s).clock = s.clock ∧ (commandPosition c s).book = s.book ∧
    (commandPosition c s).credit = s.credit ∧ (commandPosition c s).decoder = s.decoder ∧
    (commandPosition c s).settings = s.settings ∧ (commandPosition c s).window = s.window ∧
    (commandPosition c s).tamper = s.tamper ∧ (commandPosition c s).battery = s.battery ∧
    (commandPosition c s).store = s.store ∧ (commandPosition c s).supply = s.supply ∧
    (commandPosition c s).catchUp = s.catchUp ∧ (commandPosition c s).pins = s.pins ∧
    (commandPosition c s).switch.reasons = s.switch.reasons ∧
    (commandPosition c s).switch.friendly = s.switch.friendly ∧
    (commandPosition c s).switch.windowHold = s.switch.windowHold ∧
    (commandPosition c s).switch.hold = s.switch.hold ∧ (commandPosition c s).switch.acting = s.switch.acting ∧
    (commandPosition c s).switch.held = s.switch.held ∧
    (commandPosition c s).switch.governing = s.switch.governing ∧
    (commandPosition c s).switch.contactor = s.switch.contactor ∧
    (commandPosition c s).switch.attempt = s.switch.attempt ∧
    (commandPosition c s).switch.attemptCount = s.switch.attemptCount ∧
    (commandPosition c s).switch.fault = s.switch.fault ∧
    (commandPosition c s).switch.kept.openedBy = s.switch.kept.openedBy ∧
    (commandPosition c s).switch.kept.loadLatch = s.switch.kept.loadLatch ∧
    (commandPosition c s).switch.kept.manualClose = s.switch.kept.manualClose ∧
    (commandPosition c s).switch.kept.tripCount = s.switch.kept.tripCount := by
  and_intros <;> rfl

/-- What `refreshActions` leaves alone. -/
@[simp] theorem refreshActions_keeps (s : State) :
    (refreshActions s).pending = s.pending ∧ (refreshActions s).agenda = s.agenda ∧
    (refreshActions s).link = s.link ∧ (refreshActions s).mem = s.mem ∧
    (refreshActions s).intake = s.intake ∧ (refreshActions s).attn = s.attn ∧ (refreshActions s).meter = s.meter ∧
    (refreshActions s).energy = s.energy ∧ (refreshActions s).clock = s.clock ∧ (refreshActions s).book = s.book ∧
    (refreshActions s).credit = s.credit ∧ (refreshActions s).decoder = s.decoder ∧
    (refreshActions s).settings = s.settings ∧ (refreshActions s).window = s.window ∧
    (refreshActions s).switch = s.switch ∧ (refreshActions s).battery = s.battery ∧
    (refreshActions s).store = s.store ∧ (refreshActions s).supply = s.supply ∧ (refreshActions s).catchUp = s.catchUp ∧
    (refreshActions s).pins = s.pins ∧
    (refreshActions s).tamper.caseIn = s.tamper.caseIn ∧ (refreshActions s).tamper.coverIn = s.tamper.coverIn ∧
    (refreshActions s).tamper.magIn = s.tamper.magIn ∧ (refreshActions s).tamper.reason = s.tamper.reason := by
  and_intros <;> rfl

/-- What `deriveQuietly` leaves alone. -/
@[simp] theorem deriveQuietly_keeps (s : State) :
    (deriveQuietly s).pending = s.pending ∧ (deriveQuietly s).agenda = s.agenda ∧
    (deriveQuietly s).link = s.link ∧ (deriveQuietly s).mem = s.mem ∧
    (deriveQuietly s).intake = s.intake ∧ (deriveQuietly s).attn = s.attn ∧ (deriveQuietly s).meter = s.meter ∧
    (deriveQuietly s).energy = s.energy ∧ (deriveQuietly s).clock = s.clock ∧ (deriveQuietly s).book = s.book ∧
    (deriveQuietly s).decoder = s.decoder ∧ (deriveQuietly s).settings = s.settings ∧
    (deriveQuietly s).window = s.window ∧ (deriveQuietly s).switch = s.switch ∧
    (deriveQuietly s).tamper = s.tamper ∧ (deriveQuietly s).battery = s.battery ∧
    (deriveQuietly s).store = s.store ∧ (deriveQuietly s).supply = s.supply ∧ (deriveQuietly s).catchUp = s.catchUp ∧
    (deriveQuietly s).pins = s.pins ∧
    (deriveQuietly s).credit.account = s.credit.account ∧
    (deriveQuietly s).credit.lastCharge = s.credit.lastCharge ∧
    (deriveQuietly s).credit.lastDayEnd = s.credit.lastDayEnd := by
  and_intros <;> rfl

/-- What `markManualClose` leaves alone. -/
@[simp] theorem markManualClose_keeps (s : State) :
    (markManualClose s).pending = s.pending ∧ (markManualClose s).agenda = s.agenda ∧
    (markManualClose s).link = s.link ∧ (markManualClose s).mem = s.mem ∧
    (markManualClose s).intake = s.intake ∧ (markManualClose s).attn = s.attn ∧
    (markManualClose s).meter = s.meter ∧ (markManualClose s).energy = s.energy ∧
    (markManualClose s).clock = s.clock ∧ (markManualClose s).book = s.book ∧
    (markManualClose s).credit = s.credit ∧ (markManualClose s).decoder = s.decoder ∧
    (markManualClose s).settings = s.settings ∧ (markManualClose s).window = s.window ∧
    (markManualClose s).tamper = s.tamper ∧ (markManualClose s).battery = s.battery ∧
    (markManualClose s).store = s.store ∧ (markManualClose s).supply = s.supply ∧
    (markManualClose s).catchUp = s.catchUp ∧ (markManualClose s).pins = s.pins ∧
    (markManualClose s).switch.reasons = s.switch.reasons ∧
    (markManualClose s).switch.friendly = s.switch.friendly ∧
    (markManualClose s).switch.windowHold = s.switch.windowHold ∧ (markManualClose s).switch.hold = s.switch.hold ∧
    (markManualClose s).switch.acting = s.switch.acting ∧ (markManualClose s).switch.held = s.switch.held ∧
    (markManualClose s).switch.governing = s.switch.governing ∧
    (markManualClose s).switch.contactor = s.switch.contactor ∧
    (markManualClose s).switch.attempt = s.switch.attempt ∧
    (markManualClose s).switch.attemptCount = s.switch.attemptCount ∧
    (markManualClose s).switch.fault = s.switch.fault ∧
    (markManualClose s).switch.kept.openedBy = s.switch.kept.openedBy ∧
    (markManualClose s).switch.kept.loadLatch = s.switch.kept.loadLatch ∧
    (markManualClose s).switch.kept.commandedClosed = s.switch.kept.commandedClosed ∧
    (markManualClose s).switch.kept.tripCount = s.switch.kept.tripCount := by
  and_intros <;> rfl

/-- What `setLatch` leaves alone. -/
@[simp] theorem setLatch_keeps (s : State) :
    (setLatch s).pending = s.pending ∧ (setLatch s).agenda = s.agenda ∧ (setLatch s).link = s.link ∧
    (setLatch s).mem = s.mem ∧ (setLatch s).intake = s.intake ∧ (setLatch s).attn = s.attn ∧
    (setLatch s).meter = s.meter ∧ (setLatch s).energy = s.energy ∧ (setLatch s).clock = s.clock ∧
    (setLatch s).book = s.book ∧ (setLatch s).credit = s.credit ∧ (setLatch s).decoder = s.decoder ∧
    (setLatch s).settings = s.settings ∧ (setLatch s).window = s.window ∧ (setLatch s).tamper = s.tamper ∧
    (setLatch s).battery = s.battery ∧ (setLatch s).store = s.store ∧ (setLatch s).supply = s.supply ∧
    (setLatch s).catchUp = s.catchUp ∧ (setLatch s).pins = s.pins ∧ (setLatch s).switch.reasons = s.switch.reasons ∧
    (setLatch s).switch.friendly = s.switch.friendly ∧ (setLatch s).switch.windowHold = s.switch.windowHold ∧
    (setLatch s).switch.hold = s.switch.hold ∧ (setLatch s).switch.acting = s.switch.acting ∧
    (setLatch s).switch.held = s.switch.held ∧ (setLatch s).switch.governing = s.switch.governing ∧
    (setLatch s).switch.contactor = s.switch.contactor ∧ (setLatch s).switch.attempt = s.switch.attempt ∧
    (setLatch s).switch.attemptCount = s.switch.attemptCount ∧ (setLatch s).switch.fault = s.switch.fault := by
  and_intros <;> rfl

/-- What `countTrip` leaves alone. -/
@[simp] theorem countTrip_keeps (n : Nat) (s : State) :
    (countTrip n s).pending = s.pending ∧ (countTrip n s).agenda = s.agenda ∧
    (countTrip n s).link = s.link ∧ (countTrip n s).mem = s.mem ∧ (countTrip n s).intake = s.intake ∧
    (countTrip n s).attn = s.attn ∧ (countTrip n s).meter = s.meter ∧ (countTrip n s).energy = s.energy ∧
    (countTrip n s).clock = s.clock ∧ (countTrip n s).book = s.book ∧ (countTrip n s).credit = s.credit ∧
    (countTrip n s).decoder = s.decoder ∧ (countTrip n s).settings = s.settings ∧
    (countTrip n s).window = s.window ∧ (countTrip n s).tamper = s.tamper ∧ (countTrip n s).battery = s.battery ∧
    (countTrip n s).store = s.store ∧ (countTrip n s).supply = s.supply ∧ (countTrip n s).catchUp = s.catchUp ∧
    (countTrip n s).pins = s.pins ∧
    (countTrip n s).switch.reasons = s.switch.reasons ∧ (countTrip n s).switch.friendly = s.switch.friendly ∧
    (countTrip n s).switch.windowHold = s.switch.windowHold ∧ (countTrip n s).switch.hold = s.switch.hold ∧
    (countTrip n s).switch.acting = s.switch.acting ∧ (countTrip n s).switch.held = s.switch.held ∧
    (countTrip n s).switch.governing = s.switch.governing ∧ (countTrip n s).switch.contactor = s.switch.contactor ∧
    (countTrip n s).switch.attempt = s.switch.attempt ∧
    (countTrip n s).switch.attemptCount = s.switch.attemptCount ∧
    (countTrip n s).switch.fault = s.switch.fault := by
  and_intros <;> rfl

/-- What `chargedUpTo` leaves alone. -/
@[simp] theorem chargedUpTo_keeps (date : Nat) (s : State) :
    (chargedUpTo date s).pending = s.pending ∧ (chargedUpTo date s).agenda = s.agenda ∧
    (chargedUpTo date s).link = s.link ∧ (chargedUpTo date s).mem = s.mem ∧
    (chargedUpTo date s).intake = s.intake ∧ (chargedUpTo date s).attn = s.attn ∧
    (chargedUpTo date s).meter = s.meter ∧ (chargedUpTo date s).energy = s.energy ∧
    (chargedUpTo date s).clock = s.clock ∧ (chargedUpTo date s).credit = s.credit ∧
    (chargedUpTo date s).decoder = s.decoder ∧ (chargedUpTo date s).settings = s.settings ∧
    (chargedUpTo date s).window = s.window ∧ (chargedUpTo date s).switch = s.switch ∧
    (chargedUpTo date s).tamper = s.tamper ∧ (chargedUpTo date s).battery = s.battery ∧
    (chargedUpTo date s).store = s.store ∧ (chargedUpTo date s).supply = s.supply ∧
    (chargedUpTo date s).catchUp = s.catchUp ∧ (chargedUpTo date s).pins = s.pins ∧
    (chargedUpTo date s).book.active = s.book.active ∧
    (chargedUpTo date s).book.passive = s.book.passive := by
  and_intros <;> rfl

/-- What `setTime` leaves alone. -/
@[simp] theorem setTime_keeps (new : Nat) (s : State) :
    (setTime new s).pending = s.pending ∧ (setTime new s).agenda = s.agenda ∧
    (setTime new s).link = s.link ∧ (setTime new s).mem = s.mem ∧ (setTime new s).intake = s.intake ∧
    (setTime new s).attn = s.attn ∧ (setTime new s).meter = s.meter ∧ (setTime new s).energy = s.energy ∧
    (setTime new s).book = s.book ∧ (setTime new s).credit = s.credit ∧ (setTime new s).decoder = s.decoder ∧
    (setTime new s).settings = s.settings ∧ (setTime new s).window = s.window ∧ (setTime new s).switch = s.switch ∧
    (setTime new s).tamper = s.tamper ∧ (setTime new s).battery = s.battery ∧ (setTime new s).store = s.store ∧
    (setTime new s).supply = s.supply ∧ (setTime new s).catchUp = s.catchUp ∧ (setTime new s).pins = s.pins ∧
    (setTime new s).clock.source = s.clock.source ∧
    (setTime new s).clock.crystalFailed = s.clock.crystalFailed := by
  and_intros <;> rfl

/-- What `toBackup` leaves alone. -/
@[simp] theorem toBackup_keeps (s : State) :
    (toBackup s).pending = s.pending ∧ (toBackup s).agenda = s.agenda ∧ (toBackup s).link = s.link ∧
    (toBackup s).mem = s.mem ∧ (toBackup s).intake = s.intake ∧ (toBackup s).attn = s.attn ∧
    (toBackup s).meter = s.meter ∧ (toBackup s).energy = s.energy ∧ (toBackup s).book = s.book ∧
    (toBackup s).credit = s.credit ∧ (toBackup s).decoder = s.decoder ∧ (toBackup s).settings = s.settings ∧
    (toBackup s).window = s.window ∧ (toBackup s).switch = s.switch ∧ (toBackup s).tamper = s.tamper ∧
    (toBackup s).battery = s.battery ∧ (toBackup s).store = s.store ∧ (toBackup s).supply = s.supply ∧
    (toBackup s).catchUp = s.catchUp ∧ (toBackup s).pins = s.pins ∧ (toBackup s).clock.time = s.clock.time := by
  and_intros <;> rfl

/-- What `toCrystal` leaves alone. -/
@[simp] theorem toCrystal_keeps (s : State) :
    (toCrystal s).pending = s.pending ∧ (toCrystal s).agenda = s.agenda ∧ (toCrystal s).link = s.link ∧
    (toCrystal s).mem = s.mem ∧ (toCrystal s).intake = s.intake ∧ (toCrystal s).attn = s.attn ∧
    (toCrystal s).meter = s.meter ∧ (toCrystal s).energy = s.energy ∧ (toCrystal s).book = s.book ∧
    (toCrystal s).credit = s.credit ∧ (toCrystal s).decoder = s.decoder ∧ (toCrystal s).settings = s.settings ∧
    (toCrystal s).window = s.window ∧ (toCrystal s).switch = s.switch ∧ (toCrystal s).tamper = s.tamper ∧
    (toCrystal s).battery = s.battery ∧ (toCrystal s).store = s.store ∧ (toCrystal s).supply = s.supply ∧
    (toCrystal s).catchUp = s.catchUp ∧ (toCrystal s).pins = s.pins ∧ (toCrystal s).clock.time = s.clock.time ∧
    (toCrystal s).clock.certain = s.clock.certain ∧ (toCrystal s).clock.crystalFailed = s.clock.crystalFailed := by
  and_intros <;> rfl

/-- What `stageSetting` leaves alone. -/
@[simp] theorem stageSetting_keeps (p : Settings) (s : State) :
    (stageSetting p s).pending = s.pending ∧ (stageSetting p s).agenda = s.agenda ∧
    (stageSetting p s).link = s.link ∧ (stageSetting p s).mem = s.mem ∧
    (stageSetting p s).intake = s.intake ∧ (stageSetting p s).attn = s.attn ∧ (stageSetting p s).meter = s.meter ∧
    (stageSetting p s).energy = s.energy ∧ (stageSetting p s).clock = s.clock ∧ (stageSetting p s).book = s.book ∧
    (stageSetting p s).credit = s.credit ∧ (stageSetting p s).decoder = s.decoder ∧
    (stageSetting p s).settings = s.settings ∧ (stageSetting p s).switch = s.switch ∧
    (stageSetting p s).tamper = s.tamper ∧ (stageSetting p s).battery = s.battery ∧
    (stageSetting p s).store = s.store ∧ (stageSetting p s).supply = s.supply ∧ (stageSetting p s).catchUp = s.catchUp ∧
    (stageSetting p s).pins = s.pins ∧
    (stageSetting p s).window.state = s.window.state ∧ (stageSetting p s).window.rank = s.window.rank ∧
    (stageSetting p s).window.remaining = s.window.remaining ∧
    (stageSetting p s).window.cause = s.window.cause := by
  and_intros <;> rfl

/-- What `installKey` leaves alone. -/
@[simp] theorem installKey_keeps (c : KeyChange) (k : KeyValue) (s : State) :
    (installKey c k s).pending = s.pending ∧ (installKey c k s).agenda = s.agenda ∧
    (installKey c k s).link = s.link ∧ (installKey c k s).mem = s.mem ∧
    (installKey c k s).intake = s.intake ∧ (installKey c k s).attn = s.attn ∧ (installKey c k s).meter = s.meter ∧
    (installKey c k s).energy = s.energy ∧ (installKey c k s).clock = s.clock ∧ (installKey c k s).book = s.book ∧
    (installKey c k s).credit = s.credit ∧ (installKey c k s).settings = s.settings ∧
    (installKey c k s).window = s.window ∧ (installKey c k s).switch = s.switch ∧
    (installKey c k s).tamper = s.tamper ∧ (installKey c k s).battery = s.battery ∧
    (installKey c k s).store = s.store ∧ (installKey c k s).supply = s.supply ∧
    (installKey c k s).catchUp = s.catchUp ∧ (installKey c k s).pins = s.pins := by
  and_intros <;> rfl

/-- What `setOrder` leaves alone. -/
@[simp] theorem setOrder_keeps (on : Bool) (s : State) :
    (setOrder on s).pending = s.pending ∧ (setOrder on s).agenda = s.agenda ∧
    (setOrder on s).link = s.link ∧ (setOrder on s).mem = s.mem ∧ (setOrder on s).intake = s.intake ∧
    (setOrder on s).attn = s.attn ∧ (setOrder on s).meter = s.meter ∧ (setOrder on s).energy = s.energy ∧
    (setOrder on s).clock = s.clock ∧ (setOrder on s).book = s.book ∧ (setOrder on s).credit = s.credit ∧
    (setOrder on s).settings = s.settings ∧ (setOrder on s).window = s.window ∧ (setOrder on s).switch = s.switch ∧
    (setOrder on s).tamper = s.tamper ∧ (setOrder on s).battery = s.battery ∧ (setOrder on s).store = s.store ∧
    (setOrder on s).supply = s.supply ∧ (setOrder on s).catchUp = s.catchUp ∧ (setOrder on s).pins = s.pins ∧
    (setOrder on s).decoder.lockout = s.decoder.lockout ∧ (setOrder on s).decoder.badCount = s.decoder.badCount ∧
    (setOrder on s).decoder.lastToken = s.decoder.lastToken ∧ (setOrder on s).decoder.key0 = s.decoder.key0 ∧
    (setOrder on s).decoder.key1 = s.decoder.key1 ∧ (setOrder on s).decoder.key2 = s.decoder.key2 ∧
    (setOrder on s).decoder.key3 = s.decoder.key3 := by
  and_intros <;> rfl

/-- What `registerEnergy` leaves alone. -/
@[simp] theorem registerEnergy_keeps (band billed exported : Nat) (s : State) :
    (registerEnergy band billed exported s).pending = s.pending ∧
    (registerEnergy band billed exported s).agenda = s.agenda ∧
    (registerEnergy band billed exported s).link = s.link ∧
    (registerEnergy band billed exported s).mem = s.mem ∧
    (registerEnergy band billed exported s).intake = s.intake ∧
    (registerEnergy band billed exported s).attn = s.attn ∧
    (registerEnergy band billed exported s).meter = s.meter ∧
    (registerEnergy band billed exported s).clock = s.clock ∧
    (registerEnergy band billed exported s).book = s.book ∧
    (registerEnergy band billed exported s).credit = s.credit ∧
    (registerEnergy band billed exported s).decoder = s.decoder ∧
    (registerEnergy band billed exported s).settings = s.settings ∧
    (registerEnergy band billed exported s).window = s.window ∧
    (registerEnergy band billed exported s).switch = s.switch ∧
    (registerEnergy band billed exported s).tamper = s.tamper ∧
    (registerEnergy band billed exported s).battery = s.battery ∧
    (registerEnergy band billed exported s).store = s.store ∧
    (registerEnergy band billed exported s).supply = s.supply ∧
    (registerEnergy band billed exported s).catchUp = s.catchUp ∧ (registerEnergy band billed exported s).pins = s.pins := by
  and_intros <;> rfl

/-- What `storeWrite` leaves alone. -/
@[simp] theorem storeWrite_keeps (w : Write) (s : State) :
    (storeWrite w s).pending = s.pending ∧ (storeWrite w s).agenda = s.agenda ∧
    (storeWrite w s).link = s.link ∧ (storeWrite w s).mem = s.mem ∧ (storeWrite w s).intake = s.intake ∧
    (storeWrite w s).attn = s.attn ∧ (storeWrite w s).meter = s.meter ∧ (storeWrite w s).energy = s.energy ∧
    (storeWrite w s).clock = s.clock ∧ (storeWrite w s).book = s.book ∧ (storeWrite w s).credit = s.credit ∧
    (storeWrite w s).decoder = s.decoder ∧ (storeWrite w s).settings = s.settings ∧
    (storeWrite w s).window = s.window ∧ (storeWrite w s).switch = s.switch ∧ (storeWrite w s).tamper = s.tamper ∧
    (storeWrite w s).battery = s.battery ∧ (storeWrite w s).catchUp = s.catchUp ∧ (storeWrite w s).pins = s.pins ∧
    (storeWrite w s).supply.power = s.supply.power ∧ (storeWrite w s).supply.startStep = s.supply.startStep ∧
    (storeWrite w s).supply.cause = s.supply.cause ∧ (storeWrite w s).supply.resetHold = s.supply.resetHold ∧
    (storeWrite w s).supply.vsLow = s.supply.vsLow ∧
    (storeWrite w s).supply.resetRemembered = s.supply.resetRemembered ∧
    (storeWrite w s).supply.failed = s.supply.failed ∧ (storeWrite w s).supply.batteryLow = s.supply.batteryLow ∧
    (storeWrite w s).store.requested = s.store.requested ∧ (storeWrite w s).store.periodic = s.store.periodic := by
  and_intros <;> rfl

/-- What `dropPower` leaves alone. -/
@[simp] theorem dropPower_keeps (reset : Bool) (s : State) :
    (dropPower reset s).pending = s.pending ∧ (dropPower reset s).agenda = s.agenda ∧
    (dropPower reset s).link = s.link ∧ (dropPower reset s).mem = s.mem ∧
    (dropPower reset s).attn = s.attn ∧ (dropPower reset s).meter = s.meter ∧
    (dropPower reset s).energy = s.energy ∧ (dropPower reset s).clock = s.clock ∧
    (dropPower reset s).book = s.book ∧ (dropPower reset s).credit = s.credit ∧
    (dropPower reset s).decoder = s.decoder ∧ (dropPower reset s).settings = s.settings ∧
    (dropPower reset s).window = s.window ∧ (dropPower reset s).switch = s.switch ∧
    (dropPower reset s).tamper = s.tamper ∧ (dropPower reset s).battery = s.battery ∧
    (dropPower reset s).store = s.store ∧ (dropPower reset s).catchUp = s.catchUp ∧ (dropPower reset s).pins = s.pins ∧
    (dropPower reset s).supply.startStep = s.supply.startStep ∧ (dropPower reset s).supply.cause = s.supply.cause ∧
    (dropPower reset s).supply.vsLow = s.supply.vsLow ∧
    (dropPower reset s).supply.resetRemembered = s.supply.resetRemembered ∧
    (dropPower reset s).supply.failed = s.supply.failed ∧
    (dropPower reset s).supply.batteryLow = s.supply.batteryLow ∧ (dropPower reset s).intake.list = s.intake.list ∧
    (dropPower reset s).intake.work = s.intake.work := by
  and_intros <;> rfl

/-- What `markResetWrite` leaves alone. -/
@[simp] theorem markResetWrite_keeps (reset : Bool) (s : State) :
    (markResetWrite reset s).pending = s.pending ∧ (markResetWrite reset s).agenda = s.agenda ∧
    (markResetWrite reset s).link = s.link ∧ (markResetWrite reset s).mem = s.mem ∧
    (markResetWrite reset s).intake = s.intake ∧ (markResetWrite reset s).attn = s.attn ∧
    (markResetWrite reset s).meter = s.meter ∧ (markResetWrite reset s).energy = s.energy ∧
    (markResetWrite reset s).clock = s.clock ∧ (markResetWrite reset s).book = s.book ∧
    (markResetWrite reset s).credit = s.credit ∧ (markResetWrite reset s).decoder = s.decoder ∧
    (markResetWrite reset s).settings = s.settings ∧ (markResetWrite reset s).window = s.window ∧
    (markResetWrite reset s).switch = s.switch ∧ (markResetWrite reset s).tamper = s.tamper ∧
    (markResetWrite reset s).battery = s.battery ∧ (markResetWrite reset s).store = s.store ∧
    (markResetWrite reset s).catchUp = s.catchUp ∧ (markResetWrite reset s).pins = s.pins ∧
    (markResetWrite reset s).supply.power = s.supply.power ∧
    (markResetWrite reset s).supply.startStep = s.supply.startStep ∧
    (markResetWrite reset s).supply.cause = s.supply.cause ∧
    (markResetWrite reset s).supply.resetHold = s.supply.resetHold ∧
    (markResetWrite reset s).supply.vsLow = s.supply.vsLow ∧
    (markResetWrite reset s).supply.resetRemembered = s.supply.resetRemembered ∧
    (markResetWrite reset s).supply.failed = s.supply.failed ∧
    (markResetWrite reset s).supply.batteryLow = s.supply.batteryLow := by
  and_intros <;> rfl

/-- What `setVsLow` leaves alone, and what it writes. -/
@[simp] theorem setVsLow_keeps (low : Bool) (s : State) :
    (setVsLow low s).pending = s.pending ∧ (setVsLow low s).agenda = s.agenda ∧
    (setVsLow low s).link = s.link ∧ (setVsLow low s).mem = s.mem ∧ (setVsLow low s).intake = s.intake ∧
    (setVsLow low s).attn = s.attn ∧ (setVsLow low s).meter = s.meter ∧ (setVsLow low s).energy = s.energy ∧
    (setVsLow low s).clock = s.clock ∧ (setVsLow low s).book = s.book ∧ (setVsLow low s).credit = s.credit ∧
    (setVsLow low s).decoder = s.decoder ∧ (setVsLow low s).settings = s.settings ∧
    (setVsLow low s).window = s.window ∧ (setVsLow low s).switch = s.switch ∧ (setVsLow low s).tamper = s.tamper ∧
    (setVsLow low s).battery = s.battery ∧ (setVsLow low s).store = s.store ∧ (setVsLow low s).catchUp = s.catchUp ∧
    (setVsLow low s).pins = s.pins ∧
    (setVsLow low s).supply.startStep = s.supply.startStep ∧ (setVsLow low s).supply.cause = s.supply.cause ∧
    (setVsLow low s).supply.vsLow = low ∧ (setVsLow low s).supply.power = s.supply.power ∧
    (setVsLow low s).supply.resetRemembered = s.supply.resetRemembered ∧
    (setVsLow low s).supply.resetHold = s.supply.resetHold ∧
    (setVsLow low s).supply.resetWrite = s.supply.resetWrite ∧ (setVsLow low s).supply.failed = s.supply.failed ∧
    (setVsLow low s).supply.batteryLow = s.supply.batteryLow := by
  and_intros <;> rfl

/-- What `setMains` leaves alone. -/
@[simp] theorem setMains_keeps (s : State) :
    (setMains s).pending = s.pending ∧ (setMains s).agenda = s.agenda ∧ (setMains s).link = s.link ∧
    (setMains s).mem = s.mem ∧ (setMains s).intake = s.intake ∧ (setMains s).attn = s.attn ∧
    (setMains s).meter = s.meter ∧ (setMains s).energy = s.energy ∧ (setMains s).clock = s.clock ∧
    (setMains s).book = s.book ∧ (setMains s).credit = s.credit ∧ (setMains s).decoder = s.decoder ∧
    (setMains s).settings = s.settings ∧ (setMains s).window = s.window ∧ (setMains s).switch = s.switch ∧
    (setMains s).tamper = s.tamper ∧ (setMains s).battery = s.battery ∧ (setMains s).store = s.store ∧
    (setMains s).catchUp = s.catchUp ∧ (setMains s).pins = s.pins ∧ (setMains s).supply.startStep = s.supply.startStep ∧
    (setMains s).supply.cause = s.supply.cause ∧ (setMains s).supply.vsLow = s.supply.vsLow ∧
    (setMains s).supply.resetRemembered = s.supply.resetRemembered ∧
    (setMains s).supply.resetHold = s.supply.resetHold ∧ (setMains s).supply.resetWrite = s.supply.resetWrite ∧
    (setMains s).supply.failed = s.supply.failed ∧ (setMains s).supply.batteryLow = s.supply.batteryLow := by
  and_intros <;> rfl

/-- What `noteRestore` leaves alone. -/
@[simp] theorem noteRestore_keeps (on : Bool) (s : State) :
    (noteRestore on s).pending = s.pending ∧ (noteRestore on s).agenda = s.agenda ∧
    (noteRestore on s).link = s.link ∧ (noteRestore on s).mem = s.mem ∧
    (noteRestore on s).intake = s.intake ∧ (noteRestore on s).attn = s.attn ∧ (noteRestore on s).meter = s.meter ∧
    (noteRestore on s).energy = s.energy ∧ (noteRestore on s).clock = s.clock ∧ (noteRestore on s).book = s.book ∧
    (noteRestore on s).credit = s.credit ∧ (noteRestore on s).decoder = s.decoder ∧
    (noteRestore on s).settings = s.settings ∧ (noteRestore on s).window = s.window ∧
    (noteRestore on s).switch = s.switch ∧ (noteRestore on s).tamper = s.tamper ∧
    (noteRestore on s).battery = s.battery ∧ (noteRestore on s).catchUp = s.catchUp ∧ (noteRestore on s).pins = s.pins ∧
    (noteRestore on s).supply.power = s.supply.power ∧ (noteRestore on s).supply.cause = s.supply.cause ∧
    (noteRestore on s).supply.vsLow = s.supply.vsLow ∧
    (noteRestore on s).supply.resetRemembered = s.supply.resetRemembered ∧
    (noteRestore on s).supply.resetHold = s.supply.resetHold ∧
    (noteRestore on s).supply.resetWrite = s.supply.resetWrite ∧
    (noteRestore on s).supply.batteryLow = s.supply.batteryLow := by
  and_intros <;> rfl

/-- What `clearCrystalMark` leaves alone. -/
@[simp] theorem clearCrystalMark_keeps (s : State) :
    (clearCrystalMark s).pending = s.pending ∧ (clearCrystalMark s).agenda = s.agenda ∧
    (clearCrystalMark s).link = s.link ∧ (clearCrystalMark s).mem = s.mem ∧
    (clearCrystalMark s).intake = s.intake ∧ (clearCrystalMark s).attn = s.attn ∧
    (clearCrystalMark s).meter = s.meter ∧ (clearCrystalMark s).energy = s.energy ∧
    (clearCrystalMark s).book = s.book ∧ (clearCrystalMark s).credit = s.credit ∧
    (clearCrystalMark s).decoder = s.decoder ∧ (clearCrystalMark s).settings = s.settings ∧
    (clearCrystalMark s).window = s.window ∧ (clearCrystalMark s).switch = s.switch ∧
    (clearCrystalMark s).tamper = s.tamper ∧ (clearCrystalMark s).battery = s.battery ∧
    (clearCrystalMark s).store = s.store ∧ (clearCrystalMark s).supply = s.supply ∧
    (clearCrystalMark s).catchUp = s.catchUp ∧ (clearCrystalMark s).pins = s.pins ∧
    (clearCrystalMark s).clock.time = s.clock.time ∧
    (clearCrystalMark s).clock.source = s.clock.source ∧ (clearCrystalMark s).clock.certain = s.clock.certain := by
  and_intros <;> rfl

/-- What `setStartStep` leaves alone. -/
@[simp] theorem setStartStep_keeps (n : Nat) (s : State) :
    (setStartStep n s).pending = s.pending ∧ (setStartStep n s).agenda = s.agenda ∧
    (setStartStep n s).link = s.link ∧ (setStartStep n s).mem = s.mem ∧
    (setStartStep n s).intake = s.intake ∧ (setStartStep n s).attn = s.attn ∧ (setStartStep n s).meter = s.meter ∧
    (setStartStep n s).energy = s.energy ∧ (setStartStep n s).clock = s.clock ∧ (setStartStep n s).book = s.book ∧
    (setStartStep n s).credit = s.credit ∧ (setStartStep n s).decoder = s.decoder ∧
    (setStartStep n s).settings = s.settings ∧ (setStartStep n s).window = s.window ∧
    (setStartStep n s).switch = s.switch ∧ (setStartStep n s).tamper = s.tamper ∧
    (setStartStep n s).battery = s.battery ∧ (setStartStep n s).store = s.store ∧
    (setStartStep n s).catchUp = s.catchUp ∧ (setStartStep n s).pins = s.pins ∧
    (setStartStep n s).supply.power = s.supply.power ∧
    (setStartStep n s).supply.cause = s.supply.cause ∧ (setStartStep n s).supply.vsLow = s.supply.vsLow ∧
    (setStartStep n s).supply.resetRemembered = s.supply.resetRemembered ∧
    (setStartStep n s).supply.resetHold = s.supply.resetHold ∧
    (setStartStep n s).supply.resetWrite = s.supply.resetWrite ∧
    (setStartStep n s).supply.failed = s.supply.failed ∧
    (setStartStep n s).supply.batteryLow = s.supply.batteryLow := by
  and_intros <;> rfl

/-- What `clearExchange` leaves alone: of the link, what has been shifted out. -/
@[simp] theorem clearExchange_keeps (s : State) :
    (clearExchange s).pending = s.pending ∧ (clearExchange s).agenda = s.agenda ∧
    (clearExchange s).link = { s.link with frame := none } ∧ (clearExchange s).meter = s.meter ∧
    (clearExchange s).energy = s.energy ∧ (clearExchange s).clock = s.clock ∧ (clearExchange s).book = s.book ∧
    (clearExchange s).credit = s.credit ∧ (clearExchange s).decoder = s.decoder ∧
    (clearExchange s).settings = s.settings ∧ (clearExchange s).window = s.window ∧
    (clearExchange s).switch = s.switch ∧ (clearExchange s).tamper = s.tamper ∧
    (clearExchange s).battery = s.battery ∧ (clearExchange s).store = s.store ∧
    (clearExchange s).supply = s.supply ∧ (clearExchange s).catchUp = s.catchUp ∧ (clearExchange s).pins = s.pins := by
  and_intros <;> rfl

/-- What `putPages` leaves alone. -/
@[simp] theorem putPages_keeps (c : Nat) (s : State) :
    (putPages c s).pending = s.pending ∧ (putPages c s).agenda = s.agenda ∧
    (putPages c s).link = s.link ∧ (putPages c s).intake = s.intake ∧ (putPages c s).attn = s.attn ∧
    (putPages c s).meter = s.meter ∧ (putPages c s).energy = s.energy ∧ (putPages c s).clock = s.clock ∧
    (putPages c s).book = s.book ∧ (putPages c s).credit = s.credit ∧ (putPages c s).decoder = s.decoder ∧
    (putPages c s).settings = s.settings ∧ (putPages c s).window = s.window ∧ (putPages c s).switch = s.switch ∧
    (putPages c s).tamper = s.tamper ∧ (putPages c s).battery = s.battery ∧ (putPages c s).store = s.store ∧
    (putPages c s).supply = s.supply ∧ (putPages c s).catchUp = s.catchUp ∧ (putPages c s).pins = s.pins := by
  and_intros <;> rfl

/-- What `beginMains` leaves alone. -/
@[simp] theorem beginMains_keeps (s : State) :
    (beginMains s).pending = s.pending ∧ (beginMains s).agenda = s.agenda ∧
    (beginMains s).link = s.link ∧ (beginMains s).mem = s.mem ∧ (beginMains s).intake = s.intake ∧
    (beginMains s).attn = s.attn ∧ (beginMains s).meter = s.meter ∧ (beginMains s).energy = s.energy ∧
    (beginMains s).clock = s.clock ∧ (beginMains s).book = s.book ∧ (beginMains s).credit = s.credit ∧
    (beginMains s).decoder = s.decoder ∧ (beginMains s).settings = s.settings ∧ (beginMains s).window = s.window ∧
    (beginMains s).switch = s.switch ∧ (beginMains s).tamper = s.tamper ∧ (beginMains s).battery = s.battery ∧
    (beginMains s).store = s.store ∧ (beginMains s).catchUp = s.catchUp ∧ (beginMains s).pins = s.pins ∧
    (beginMains s).supply.startStep = s.supply.startStep ∧ (beginMains s).supply.cause = s.supply.cause ∧
    (beginMains s).supply.resetHold = s.supply.resetHold ∧ (beginMains s).supply.resetWrite = s.supply.resetWrite ∧
    (beginMains s).supply.failed = s.supply.failed ∧ (beginMains s).supply.batteryLow = s.supply.batteryLow := by
  and_intros <;> rfl

/-- What `takeHandOffs` leaves alone. -/
@[simp] theorem takeHandOffs_keeps (friendly tamper remote credit : Bool) (s : State) :
    (takeHandOffs friendly tamper remote credit s).pending = s.pending ∧
    (takeHandOffs friendly tamper remote credit s).agenda = s.agenda ∧
    (takeHandOffs friendly tamper remote credit s).link = s.link ∧
    (takeHandOffs friendly tamper remote credit s).mem = s.mem ∧
    (takeHandOffs friendly tamper remote credit s).intake = s.intake ∧
    (takeHandOffs friendly tamper remote credit s).attn = s.attn ∧
    (takeHandOffs friendly tamper remote credit s).meter = s.meter ∧
    (takeHandOffs friendly tamper remote credit s).energy = s.energy ∧
    (takeHandOffs friendly tamper remote credit s).clock = s.clock ∧
    (takeHandOffs friendly tamper remote credit s).book = s.book ∧
    (takeHandOffs friendly tamper remote credit s).credit = s.credit ∧
    (takeHandOffs friendly tamper remote credit s).decoder = s.decoder ∧
    (takeHandOffs friendly tamper remote credit s).settings = s.settings ∧
    (takeHandOffs friendly tamper remote credit s).window = s.window ∧
    (takeHandOffs friendly tamper remote credit s).tamper = s.tamper ∧
    (takeHandOffs friendly tamper remote credit s).battery = s.battery ∧
    (takeHandOffs friendly tamper remote credit s).store = s.store ∧
    (takeHandOffs friendly tamper remote credit s).supply = s.supply ∧
    (takeHandOffs friendly tamper remote credit s).catchUp = s.catchUp ∧
    (takeHandOffs friendly tamper remote credit s).pins = s.pins ∧
    (takeHandOffs friendly tamper remote credit s).switch.kept = s.switch.kept ∧
    (takeHandOffs friendly tamper remote credit s).switch.windowHold = s.switch.windowHold ∧
    (takeHandOffs friendly tamper remote credit s).switch.hold = s.switch.hold ∧
    (takeHandOffs friendly tamper remote credit s).switch.acting = s.switch.acting ∧
    (takeHandOffs friendly tamper remote credit s).switch.held = s.switch.held ∧
    (takeHandOffs friendly tamper remote credit s).switch.governing = s.switch.governing ∧
    (takeHandOffs friendly tamper remote credit s).switch.contactor = s.switch.contactor ∧
    (takeHandOffs friendly tamper remote credit s).switch.attempt = s.switch.attempt ∧
    (takeHandOffs friendly tamper remote credit s).switch.attemptCount = s.switch.attemptCount ∧
    (takeHandOffs friendly tamper remote credit s).switch.fault = s.switch.fault ∧
    (takeHandOffs friendly tamper remote credit s).switch.reasons.load = s.switch.reasons.load := by
  and_intros <;> rfl

/-- What `State.withQueue` leaves alone. -/
@[simp] theorem State.withQueue_keeps (rest : List Instr) (s : State) :
    (s.withQueue rest).agenda = s.agenda ∧ (s.withQueue rest).link = s.link ∧
    (s.withQueue rest).mem = s.mem ∧ (s.withQueue rest).intake = s.intake ∧ (s.withQueue rest).attn = s.attn ∧
    (s.withQueue rest).meter = s.meter ∧ (s.withQueue rest).energy = s.energy ∧
    (s.withQueue rest).clock = s.clock ∧ (s.withQueue rest).book = s.book ∧ (s.withQueue rest).credit = s.credit ∧
    (s.withQueue rest).decoder = s.decoder ∧ (s.withQueue rest).settings = s.settings ∧
    (s.withQueue rest).window = s.window ∧ (s.withQueue rest).switch = s.switch ∧
    (s.withQueue rest).tamper = s.tamper ∧ (s.withQueue rest).battery = s.battery ∧
    (s.withQueue rest).store = s.store ∧ (s.withQueue rest).supply = s.supply ∧
    (s.withQueue rest).catchUp = s.catchUp ∧ (s.withQueue rest).pins = s.pins := by
  and_intros <;> rfl

/-! ## What the updates write -/

/-- What `onAgenda` writes. -/
@[simp] theorem onAgenda_agenda (f : List Due → List Due) (s : State) : (onAgenda f s).agenda = f s.agenda := rfl

/-- What `onLink` writes. -/
@[simp] theorem onLink_link (f : Link → Link) (s : State) : (onLink f s).link = f s.link := rfl

/-- What `onMem` writes. -/
@[simp] theorem onMem_mem (f : Memory → Memory) (s : State) : (onMem f s).mem = f s.mem := rfl

/-- What `onIntake` writes. -/
@[simp] theorem onIntake_intake (f : Intake → Intake) (s : State) : (onIntake f s).intake = f s.intake := rfl

/-- What `onAttn` writes. -/
@[simp] theorem onAttn_attn (f : Attn → Attn) (s : State) : (onAttn f s).attn = f s.attn := rfl

/-- What `onMeter` writes. -/
@[simp] theorem onMeter_meter (f : Meter → Meter) (s : State) : (onMeter f s).meter = f s.meter := rfl

/-- What `onEnergy` writes. -/
@[simp] theorem onEnergy_energy (f : Energy → Energy) (s : State) : (onEnergy f s).energy = f s.energy := rfl

/-- What `onClock` writes. -/
@[simp] theorem onClock_clock (f : Clock → Clock) (s : State) : (onClock f s).clock = f s.clock := rfl

/-- What `onBook` writes. -/
@[simp] theorem onBook_book (f : CalendarBook → CalendarBook) (s : State) : (onBook f s).book = f s.book := rfl

/-- What `onCredit` writes. -/
@[simp] theorem onCredit_credit (f : Credit → Credit) (s : State) : (onCredit f s).credit = f s.credit := rfl

/-- What `onDecoder` writes. -/
@[simp] theorem onDecoder_decoder (f : Decoder → Decoder) (s : State) : (onDecoder f s).decoder = f s.decoder := rfl

/-- What `onSettings` writes. -/
@[simp] theorem onSettings_settings (f : Settings → Settings) (s : State) : (onSettings f s).settings = f s.settings := rfl

/-- What `onWindow` writes. -/
@[simp] theorem onWindow_window (f : Window → Window) (s : State) : (onWindow f s).window = f s.window := rfl

/-- What `onSwitch` writes. -/
@[simp] theorem onSwitch_switch (f : Switch → Switch) (s : State) : (onSwitch f s).switch = f s.switch := rfl

/-- What `onTamper` writes. -/
@[simp] theorem onTamper_tamper (f : Tamper → Tamper) (s : State) : (onTamper f s).tamper = f s.tamper := rfl

/-- What `onBattery` writes. -/
@[simp] theorem onBattery_battery (f : Battery → Battery) (s : State) : (onBattery f s).battery = f s.battery := rfl

/-- What `onStore` writes. -/
@[simp] theorem onStore_store (f : Store → Store) (s : State) : (onStore f s).store = f s.store := rfl

/-- What `onSupply` writes. -/
@[simp] theorem onSupply_supply (f : Supply → Supply) (s : State) : (onSupply f s).supply = f s.supply := rfl

/-- What `onCatchUp` writes. -/
@[simp] theorem onCatchUp_catchUp (f : CatchUp → CatchUp) (s : State) : (onCatchUp f s).catchUp = f s.catchUp := rfl

/-- What `dueFirst` writes. -/
@[simp] theorem dueFirst_agenda (d : Due) (s : State) : (dueFirst d s).agenda = d :: s.agenda := rfl

/-- What `dueLast` writes. -/
@[simp] theorem dueLast_agenda (d : Due) (s : State) : (dueLast d s).agenda = s.agenda ++ [d] := rfl

/-- What `markDue` writes. -/
@[simp] theorem markDue_due (b : BitVec 6) (s : State) : (markDue b s).attn.due = s.attn.due ||| b := rfl

/-- What `raiseNow` writes. -/
@[simp] theorem raiseNow_bits (b : BitVec 6) (s : State) : (raiseNow b s).attn.bits = s.attn.bits ||| b := rfl

/-- What `setStage` writes. -/
@[simp] theorem setStage_work (g : Stage) (s : State) :
    (setStage g s).intake.work = s.intake.work.map fun w => { w with stage := g } := rfl

/-- What `setContactor` writes. -/
@[simp] theorem setContactor_contactor (c : Contactor) (s : State) : (setContactor c s).switch.contactor = c := rfl

/-- What `setStuckTimer` writes. -/
@[simp] theorem setStuckTimer_timer (n : Nat) (s : State) : (setStuckTimer n s).switch.stuckTimer = n := rfl

/-- What `endAttempt` writes. -/
@[simp] theorem endAttempt_attempt (s : State) :
    (endAttempt s).switch.attempt = .idle ∧ (endAttempt s).switch.attemptCount = 0 := ⟨rfl, rfl⟩

/-- What `beginPulse` writes. -/
@[simp] theorem beginPulse_attempt (d : Winding) (s : State) :
    (beginPulse d s).switch.attempt = .pulse d ∧
      (beginPulse d s).switch.attemptCount = s.switch.attemptCount + 1 := ⟨rfl, rfl⟩

/-- What `enterClosed` writes. -/
@[simp] theorem enterClosed_closed (s : State) :
    (enterClosed s).switch.contactor = .closed ∧ (enterClosed s).switch.kept.openedBy = Reasons.empty ∧
      (enterClosed s).switch.kept.manualClose = false ∧ (enterClosed s).switch.cleanRun = 0 :=
  ⟨rfl, rfl, rfl, rfl⟩

/-- What `formSets` writes. -/
@[simp] theorem formSets_sets (s : State) :
    (formSets s).switch.hold = holdLevel s ∧ (formSets s).switch.acting = actingSet s ∧
      (formSets s).switch.held = heldSet s ∧ (formSets s).switch.governing = governingReason s :=
  ⟨rfl, rfl, rfl, rfl⟩

/-- What `setRecord` writes. -/
@[simp] theorem setRecord_records (k : Fin 10) (r : TamperRecord) (s : State) :
    (setRecord k r s).tamper.records = s.tamper.records.set k r := rfl

/-- What `setAccount` writes. -/
@[simp] theorem setAccount_account (a : Account) (s : State) : (setAccount a s).credit.account = a := rfl

/-- What `tick` writes. -/
@[simp] theorem tick_time (s : State) :
    (tick s).clock.time = capped Config.meterTimeEnd (s.clock.time + 1) := rfl

/-- What `deriveQuietly` writes. -/
@[simp] theorem deriveQuietly_credit (s : State) : (deriveQuietly s).credit = derivedCredit s := rfl

/-- What `setTime` writes. -/
@[simp] theorem setTime_clock (new : Nat) (s : State) :
    (setTime new s).clock.time = new ∧ (setTime new s).clock.certain = true := ⟨rfl, rfl⟩

/-- What `chargedUpTo` writes. -/
@[simp] theorem chargedUpTo_lastCharged (date : Nat) (s : State) :
    (chargedUpTo date s).book.lastCharged = some date := rfl

/-- What `registerEnergy` writes. -/
@[simp] theorem registerEnergy_energy (band billed exported : Nat) (s : State) :
    (registerEnergy band billed exported s).energy = s.energy.add band billed exported := rfl

/-- What `setStartStep` writes. -/
@[simp] theorem setStartStep_step (n : Nat) (s : State) : (setStartStep n s).supply.startStep = n := rfl

/-- What `setMains` writes. -/
@[simp] theorem setMains_power (s : State) : (setMains s).supply.power = .mains := rfl

/-- What `beginMains` writes. -/
@[simp] theorem beginMains_power (s : State) :
    (beginMains s).supply.power = .mains ∧ (beginMains s).supply.vsLow = false ∧
      (beginMains s).supply.resetRemembered = false := ⟨rfl, rfl, rfl⟩

/-- What `dropPower` writes. -/
@[simp] theorem dropPower_power (reset : Bool) (s : State) :
    (dropPower reset s).supply.power = .holdup ∧ (dropPower reset s).supply.resetHold = reset ∧
      (dropPower reset s).intake.ready = false := ⟨rfl, rfl, rfl⟩

/-- What `storeWrite` writes. -/
@[simp] theorem storeWrite_store (w : Write) (s : State) :
    (storeWrite w s).store = s.store.completed w := rfl

/-- What `recorded` writes: the next slot, which is then the slot written last; the other slot stands. -/
theorem recorded_slots (i : Image) (n : WriteNumber) :
    (i.recorded n).lastSlot = some i.nextSlot ∧ (i.recorded n).setA = i.setA ∧ (i.recorded n).setB = i.setB ∧
      (i.nextSlot = .slot0 → (i.recorded n).slot0 = ⟨n, true⟩ ∧ (i.recorded n).slot1 = i.slot1) ∧
      (i.nextSlot = .slot1 → (i.recorded n).slot1 = ⟨n, true⟩ ∧ (i.recorded n).slot0 = i.slot0) := by
  unfold Image.recorded Image.withSlot
  cases i.nextSlot <;> simp

/-- What `commandPosition` writes. -/
@[simp] theorem commandPosition_position (c : Bool) (s : State) :
    (commandPosition c s).switch.kept.commandedClosed = c := rfl

/-- What `countTrip` writes. -/
@[simp] theorem countTrip_trip (n : Nat) (s : State) :
    (countTrip n s).switch.kept.tripCount = capped 9 (s.switch.kept.tripCount + 1) ∧
      (countTrip n s).switch.retryTimer = n ∧ (countTrip n s).switch.overCount = 0 ∧
      (countTrip n s).switch.cleanRun = 0 := ⟨rfl, rfl, rfl, rfl⟩

/-- What `setLatch` writes. -/
@[simp] theorem setLatch_latch (s : State) : (setLatch s).switch.kept.loadLatch = true := rfl

/-- What `takeHandOffs` writes. -/
@[simp] theorem takeHandOffs_reasons (friendly tamper remote credit : Bool) (s : State) :
    (takeHandOffs friendly tamper remote credit s).switch.friendly = friendly ∧
      (takeHandOffs friendly tamper remote credit s).switch.reasons.tamper = tamper ∧
      (takeHandOffs friendly tamper remote credit s).switch.reasons.remote = remote ∧
      (takeHandOffs friendly tamper remote credit s).switch.reasons.credit = credit := ⟨rfl, rfl, rfl, rfl⟩

/-- A start only reads the image. -/
@[simp] theorem found_image (x : Store) (on : Bool) : (x.found on).image = x.image := by
  unfold Store.found
  dsimp only
  split <;> rfl

/-- What `noteRestore` writes. -/
@[simp] theorem noteRestore_store (on : Bool) (s : State) :
    (noteRestore on s).store = s.store.found on ∧ (noteRestore on s).supply.startStep = 1 := ⟨rfl, rfl⟩

/-- What `withQueue` writes. -/
@[simp] theorem withQueue_pending (rest : List Instr) (s : State) : (s.withQueue rest).pending = rest := rfl

end Sys2Proof.Machine
end

