-- ==== Sys2Proof/Laws/Frames.lean ====
section
/-! SUPPORT. What each shared operation leaves alone. A field or a part of a field that a lemma does not name may change. -/

namespace Sys2Proof.Machine

/-! ## Publications and retention writes -/

/-- What `beginPublication` leaves alone. -/
@[simp] theorem beginPublication_keeps (s : State) :
    (beginPublication s).pending = s.pending ∧ (beginPublication s).agenda = s.agenda ∧
    (beginPublication s).link = s.link ∧ (beginPublication s).intake = s.intake ∧
    (beginPublication s).attn.mask = s.attn.mask ∧ (beginPublication s).meter = s.meter ∧
    (beginPublication s).energy = s.energy ∧ (beginPublication s).clock = s.clock ∧
    (beginPublication s).book = s.book ∧ (beginPublication s).credit = s.credit ∧
    (beginPublication s).decoder = s.decoder ∧ (beginPublication s).settings = s.settings ∧
    (beginPublication s).window = s.window ∧ (beginPublication s).switch = s.switch ∧
    (beginPublication s).tamper = s.tamper ∧ (beginPublication s).battery = s.battery ∧
    (beginPublication s).store = s.store ∧ (beginPublication s).supply = s.supply ∧
    (beginPublication s).catchUp = s.catchUp ∧ (beginPublication s).pins = s.pins ∧
    (beginPublication s).attn.bits = s.attn.bits := by
  simp [beginPublication]

/-- What `requestPublication` leaves alone. -/
@[simp] theorem requestPublication_keeps (s : State) :
    (requestPublication s).pending = s.pending ∧ (requestPublication s).agenda = s.agenda ∧
    (requestPublication s).link = s.link ∧ (requestPublication s).intake = s.intake ∧
    (requestPublication s).attn.mask = s.attn.mask ∧ (requestPublication s).meter = s.meter ∧
    (requestPublication s).energy = s.energy ∧ (requestPublication s).clock = s.clock ∧
    (requestPublication s).book = s.book ∧ (requestPublication s).credit = s.credit ∧
    (requestPublication s).decoder = s.decoder ∧ (requestPublication s).settings = s.settings ∧
    (requestPublication s).window = s.window ∧ (requestPublication s).switch = s.switch ∧
    (requestPublication s).tamper = s.tamper ∧ (requestPublication s).battery = s.battery ∧
    (requestPublication s).store = s.store ∧ (requestPublication s).supply = s.supply ∧
    (requestPublication s).catchUp = s.catchUp ∧ (requestPublication s).pins = s.pins ∧
    (requestPublication s).attn.bits = s.attn.bits := by
  unfold requestPublication
  split <;> simp

/-- What `endPublication` leaves alone. -/
@[simp] theorem endPublication_keeps (s : State) :
    (endPublication s).pending = s.pending ∧ (endPublication s).agenda = s.agenda ∧
    (endPublication s).link = s.link ∧ (endPublication s).intake = s.intake ∧
    (endPublication s).attn.mask = s.attn.mask ∧ (endPublication s).meter = s.meter ∧
    (endPublication s).energy = s.energy ∧ (endPublication s).clock = s.clock ∧ (endPublication s).book = s.book ∧
    (endPublication s).credit = s.credit ∧ (endPublication s).decoder = s.decoder ∧
    (endPublication s).settings = s.settings ∧ (endPublication s).window = s.window ∧
    (endPublication s).switch = s.switch ∧ (endPublication s).tamper = s.tamper ∧
    (endPublication s).battery = s.battery ∧ (endPublication s).store = s.store ∧
    (endPublication s).supply = s.supply ∧ (endPublication s).catchUp = s.catchUp ∧ (endPublication s).pins = s.pins := by
  unfold endPublication
  split_ifs <;> simp

/-- What `beginWrite` leaves alone. -/
@[simp] theorem beginWrite_keeps (s : State) :
    (beginWrite s).pending = s.pending ∧ (beginWrite s).agenda = s.agenda ∧
    (beginWrite s).link = s.link ∧ (beginWrite s).mem = s.mem ∧
    (beginWrite s).intake.list = s.intake.list ∧ (beginWrite s).intake.ready = s.intake.ready ∧
    (beginWrite s).attn = s.attn ∧ (beginWrite s).meter = s.meter ∧ (beginWrite s).energy = s.energy ∧
    (beginWrite s).clock = s.clock ∧ (beginWrite s).book = s.book ∧ (beginWrite s).credit = s.credit ∧
    (beginWrite s).decoder = s.decoder ∧ (beginWrite s).settings = s.settings ∧ (beginWrite s).window = s.window ∧
    (beginWrite s).switch = s.switch ∧ (beginWrite s).tamper = s.tamper ∧ (beginWrite s).battery = s.battery ∧
    (beginWrite s).store.image = s.store.image ∧ (beginWrite s).store.lastNumber = s.store.lastNumber ∧
    (beginWrite s).store.lastSet = s.store.lastSet ∧ (beginWrite s).supply.power = s.supply.power ∧
    (beginWrite s).supply.startStep = s.supply.startStep ∧ (beginWrite s).supply.cause = s.supply.cause ∧
    (beginWrite s).supply.resetHold = s.supply.resetHold ∧ (beginWrite s).supply.vsLow = s.supply.vsLow ∧
    (beginWrite s).supply.resetRemembered = s.supply.resetRemembered ∧
    (beginWrite s).supply.failed = s.supply.failed ∧ (beginWrite s).supply.batteryLow = s.supply.batteryLow ∧
    (beginWrite s).catchUp = s.catchUp ∧ (beginWrite s).pins = s.pins := by
  simp [beginWrite]

/-- What `requestWrite` leaves alone. -/
@[simp] theorem requestWrite_keeps (s : State) :
    (requestWrite s).pending = s.pending ∧ (requestWrite s).agenda = s.agenda ∧
    (requestWrite s).link = s.link ∧ (requestWrite s).mem = s.mem ∧
    (requestWrite s).intake.list = s.intake.list ∧ (requestWrite s).intake.ready = s.intake.ready ∧
    (requestWrite s).attn = s.attn ∧ (requestWrite s).meter = s.meter ∧ (requestWrite s).energy = s.energy ∧
    (requestWrite s).clock = s.clock ∧ (requestWrite s).book = s.book ∧ (requestWrite s).credit = s.credit ∧
    (requestWrite s).decoder = s.decoder ∧ (requestWrite s).settings = s.settings ∧
    (requestWrite s).window = s.window ∧ (requestWrite s).switch = s.switch ∧ (requestWrite s).tamper = s.tamper ∧
    (requestWrite s).battery = s.battery ∧ (requestWrite s).store.image = s.store.image ∧
    (requestWrite s).store.lastNumber = s.store.lastNumber ∧ (requestWrite s).store.lastSet = s.store.lastSet ∧
    (requestWrite s).supply.power = s.supply.power ∧ (requestWrite s).supply.startStep = s.supply.startStep ∧
    (requestWrite s).supply.cause = s.supply.cause ∧ (requestWrite s).supply.resetHold = s.supply.resetHold ∧
    (requestWrite s).supply.vsLow = s.supply.vsLow ∧
    (requestWrite s).supply.resetRemembered = s.supply.resetRemembered ∧
    (requestWrite s).supply.failed = s.supply.failed ∧ (requestWrite s).supply.batteryLow = s.supply.batteryLow ∧
    (requestWrite s).catchUp = s.catchUp ∧ (requestWrite s).pins = s.pins := by
  unfold requestWrite
  split <;> simp

/-! ## The work intake -/

/-- What `takeNext` leaves alone. -/
@[simp] theorem takeNext_keeps (s : State) :
    (takeNext s).pending = s.pending ∧ (takeNext s).link = s.link ∧ (takeNext s).attn = s.attn ∧
    (takeNext s).meter = s.meter ∧ (takeNext s).energy = s.energy ∧ (takeNext s).clock = s.clock ∧
    (takeNext s).book = s.book ∧ (takeNext s).credit = s.credit ∧ (takeNext s).decoder = s.decoder ∧
    (takeNext s).settings = s.settings ∧ (takeNext s).window = s.window ∧ (takeNext s).switch = s.switch ∧
    (takeNext s).tamper = s.tamper ∧ (takeNext s).battery = s.battery ∧ (takeNext s).store = s.store ∧
    (takeNext s).supply = s.supply ∧ (takeNext s).catchUp = s.catchUp ∧ (takeNext s).pins = s.pins ∧
    (takeNext s).intake.ready = s.intake.ready := by
  unfold takeNext
  split <;> simp

/-- What `completeEntry` leaves alone. -/
@[simp] theorem completeEntry_keeps (r : Result) (s : State) :
    (completeEntry r s).pending = s.pending ∧ (completeEntry r s).link = s.link ∧
    (completeEntry r s).attn.mask = s.attn.mask ∧ (completeEntry r s).meter = s.meter ∧
    (completeEntry r s).energy = s.energy ∧ (completeEntry r s).clock = s.clock ∧
    (completeEntry r s).book = s.book ∧ (completeEntry r s).credit = s.credit ∧
    (completeEntry r s).decoder = s.decoder ∧ (completeEntry r s).settings = s.settings ∧
    (completeEntry r s).window = s.window ∧ (completeEntry r s).switch = s.switch ∧
    (completeEntry r s).tamper = s.tamper ∧ (completeEntry r s).battery = s.battery ∧
    (completeEntry r s).store = s.store ∧ (completeEntry r s).supply = s.supply ∧
    (completeEntry r s).catchUp = s.catchUp ∧ (completeEntry r s).pins = s.pins ∧
    (completeEntry r s).intake.ready = s.intake.ready ∧
    (completeEntry r s).attn.bits = s.attn.bits := by
  unfold completeEntry
  split <;> simp

/-- What `hostOwnerByte` leaves alone. -/
@[simp] theorem hostOwnerByte_keeps (n : Nat) (v : Byte) (s : State) :
    (hostOwnerByte n v s).pending = s.pending ∧ (hostOwnerByte n v s).link = s.link ∧
    (hostOwnerByte n v s).attn = s.attn ∧ (hostOwnerByte n v s).meter = s.meter ∧
    (hostOwnerByte n v s).energy = s.energy ∧ (hostOwnerByte n v s).clock = s.clock ∧
    (hostOwnerByte n v s).book = s.book ∧ (hostOwnerByte n v s).credit = s.credit ∧
    (hostOwnerByte n v s).decoder = s.decoder ∧ (hostOwnerByte n v s).settings = s.settings ∧
    (hostOwnerByte n v s).window = s.window ∧ (hostOwnerByte n v s).switch = s.switch ∧
    (hostOwnerByte n v s).tamper = s.tamper ∧ (hostOwnerByte n v s).battery = s.battery ∧
    (hostOwnerByte n v s).store = s.store ∧ (hostOwnerByte n v s).supply = s.supply ∧
    (hostOwnerByte n v s).catchUp = s.catchUp ∧ (hostOwnerByte n v s).pins = s.pins ∧
    (hostOwnerByte n v s).intake.ready = s.intake.ready := by
  unfold hostOwnerByte
  dsimp only
  split_ifs <;> simp

/-- What `hostByte` leaves alone. -/
@[simp] theorem hostByte_keeps (a : Nat) (v : Byte) (s : State) :
    (hostByte a v s).pending = s.pending ∧ (hostByte a v s).link = s.link ∧
    (hostByte a v s).attn = s.attn ∧ (hostByte a v s).meter = s.meter ∧ (hostByte a v s).energy = s.energy ∧
    (hostByte a v s).clock = s.clock ∧ (hostByte a v s).book = s.book ∧ (hostByte a v s).credit = s.credit ∧
    (hostByte a v s).decoder = s.decoder ∧ (hostByte a v s).settings = s.settings ∧
    (hostByte a v s).window = s.window ∧ (hostByte a v s).switch = s.switch ∧ (hostByte a v s).tamper = s.tamper ∧
    (hostByte a v s).battery = s.battery ∧ (hostByte a v s).store = s.store ∧ (hostByte a v s).supply = s.supply ∧
    (hostByte a v s).catchUp = s.catchUp ∧ (hostByte a v s).pins = s.pins ∧ (hostByte a v s).intake.ready = s.intake.ready := by
  unfold hostByte
  dsimp only
  split_ifs <;> simp

/-! ## The contactor -/

/-- What `reportGone` leaves alone. -/
@[simp] theorem reportGone_keeps (k : Fin 10) (s : State) :
    (reportGone k s).pending = s.pending ∧ (reportGone k s).agenda = s.agenda ∧
    (reportGone k s).link = s.link ∧ (reportGone k s).mem = s.mem ∧ (reportGone k s).intake = s.intake ∧
    (reportGone k s).attn = s.attn ∧ (reportGone k s).meter = s.meter ∧ (reportGone k s).energy = s.energy ∧
    (reportGone k s).clock = s.clock ∧ (reportGone k s).book = s.book ∧ (reportGone k s).credit = s.credit ∧
    (reportGone k s).decoder = s.decoder ∧ (reportGone k s).settings = s.settings ∧
    (reportGone k s).window = s.window ∧ (reportGone k s).switch = s.switch ∧
    (reportGone k s).tamper.caseIn = s.tamper.caseIn ∧ (reportGone k s).tamper.coverIn = s.tamper.coverIn ∧
    (reportGone k s).tamper.magIn = s.tamper.magIn ∧ (reportGone k s).battery = s.battery ∧
    (reportGone k s).store = s.store ∧ (reportGone k s).supply = s.supply ∧ (reportGone k s).catchUp = s.catchUp ∧
    (reportGone k s).pins = s.pins ∧
    (reportGone k s).tamper.reason = s.tamper.reason := by
  unfold reportGone
  dsimp only
  split <;> simp

/-- What `markSwitch` leaves alone. -/
@[simp] theorem markSwitch_keeps (s : State) :
    (markSwitch s).pending = s.pending ∧ (markSwitch s).agenda = s.agenda ∧
    (markSwitch s).link = s.link ∧ (markSwitch s).mem = s.mem ∧ (markSwitch s).intake = s.intake ∧
    (markSwitch s).attn.mask = s.attn.mask ∧ (markSwitch s).meter = s.meter ∧ (markSwitch s).energy = s.energy ∧
    (markSwitch s).clock = s.clock ∧ (markSwitch s).book = s.book ∧ (markSwitch s).credit = s.credit ∧
    (markSwitch s).decoder = s.decoder ∧ (markSwitch s).settings = s.settings ∧ (markSwitch s).window = s.window ∧
    (markSwitch s).tamper = s.tamper ∧ (markSwitch s).battery = s.battery ∧ (markSwitch s).store = s.store ∧
    (markSwitch s).supply = s.supply ∧ (markSwitch s).catchUp = s.catchUp ∧ (markSwitch s).pins = s.pins ∧
    (markSwitch s).switch.contactor = s.switch.contactor ∧ (markSwitch s).switch.kept = s.switch.kept ∧
    (markSwitch s).switch.attempt = s.switch.attempt ∧ (markSwitch s).switch.attemptCount = s.switch.attemptCount ∧
    (markSwitch s).switch.hold = s.switch.hold ∧ (markSwitch s).switch.held = s.switch.held ∧
    (markSwitch s).switch.governing = s.switch.governing ∧ (markSwitch s).attn.bits = s.attn.bits ∧
    (markSwitch s).attn.busy = s.attn.busy ∧ (markSwitch s).switch.reasons = s.switch.reasons ∧
    (markSwitch s).switch.friendly = s.switch.friendly ∧ (markSwitch s).switch.windowHold = s.switch.windowHold ∧
    (markSwitch s).switch.acting = s.switch.acting := by
  unfold markSwitch
  dsimp only
  split <;> simp

/-- What `beginAttempt` leaves alone. -/
@[simp] theorem beginAttempt_keeps (d : Winding) (s : State) :
    (beginAttempt d s).pending = s.pending ∧ (beginAttempt d s).agenda = s.agenda ∧
    (beginAttempt d s).link = s.link ∧ (beginAttempt d s).mem = s.mem ∧
    (beginAttempt d s).intake = s.intake ∧ (beginAttempt d s).attn = s.attn ∧ (beginAttempt d s).meter = s.meter ∧
    (beginAttempt d s).energy = s.energy ∧ (beginAttempt d s).clock = s.clock ∧ (beginAttempt d s).book = s.book ∧
    (beginAttempt d s).credit = s.credit ∧ (beginAttempt d s).decoder = s.decoder ∧
    (beginAttempt d s).settings = s.settings ∧ (beginAttempt d s).window = s.window ∧
    (beginAttempt d s).tamper = s.tamper ∧ (beginAttempt d s).battery = s.battery ∧
    (beginAttempt d s).store = s.store ∧ (beginAttempt d s).supply = s.supply ∧ (beginAttempt d s).catchUp = s.catchUp ∧
    (beginAttempt d s).pins = s.pins ∧
    (beginAttempt d s).switch.reasons = s.switch.reasons ∧ (beginAttempt d s).switch.friendly = s.switch.friendly ∧
    (beginAttempt d s).switch.windowHold = s.switch.windowHold ∧
    (beginAttempt d s).switch.acting = s.switch.acting ∧ (beginAttempt d s).switch.contactor = s.switch.contactor ∧
    (beginAttempt d s).switch.governing = s.switch.governing := by
  unfold beginAttempt
  split <;> simp

/-- What `enterOpening` leaves alone. -/
@[simp] theorem enterOpening_keeps (s : State) :
    (enterOpening s).pending = s.pending ∧ (enterOpening s).agenda = s.agenda ∧
    (enterOpening s).link = s.link ∧ (enterOpening s).mem = s.mem ∧ (enterOpening s).intake = s.intake ∧
    (enterOpening s).attn = s.attn ∧ (enterOpening s).meter = s.meter ∧ (enterOpening s).energy = s.energy ∧
    (enterOpening s).clock = s.clock ∧ (enterOpening s).book = s.book ∧ (enterOpening s).credit = s.credit ∧
    (enterOpening s).decoder = s.decoder ∧ (enterOpening s).settings = s.settings ∧
    (enterOpening s).window = s.window ∧ (enterOpening s).tamper = s.tamper ∧
    (enterOpening s).battery = s.battery ∧ (enterOpening s).store = s.store ∧ (enterOpening s).supply = s.supply ∧
    (enterOpening s).catchUp = s.catchUp ∧ (enterOpening s).pins = s.pins ∧ (enterOpening s).switch.reasons = s.switch.reasons ∧
    (enterOpening s).switch.friendly = s.switch.friendly ∧
    (enterOpening s).switch.windowHold = s.switch.windowHold ∧ (enterOpening s).switch.acting = s.switch.acting ∧
    (enterOpening s).switch.governing = s.switch.governing := by
  simp [enterOpening]

/-- What `enterClosing` leaves alone. -/
@[simp] theorem enterClosing_keeps (s : State) :
    (enterClosing s).pending = s.pending ∧ (enterClosing s).agenda = s.agenda ∧
    (enterClosing s).link = s.link ∧ (enterClosing s).mem = s.mem ∧ (enterClosing s).intake = s.intake ∧
    (enterClosing s).attn = s.attn ∧ (enterClosing s).meter = s.meter ∧ (enterClosing s).energy = s.energy ∧
    (enterClosing s).clock = s.clock ∧ (enterClosing s).book = s.book ∧ (enterClosing s).credit = s.credit ∧
    (enterClosing s).decoder = s.decoder ∧ (enterClosing s).settings = s.settings ∧
    (enterClosing s).window = s.window ∧ (enterClosing s).tamper = s.tamper ∧
    (enterClosing s).battery = s.battery ∧ (enterClosing s).store = s.store ∧ (enterClosing s).supply = s.supply ∧
    (enterClosing s).catchUp = s.catchUp ∧ (enterClosing s).pins = s.pins ∧ (enterClosing s).switch.reasons = s.switch.reasons ∧
    (enterClosing s).switch.friendly = s.switch.friendly ∧
    (enterClosing s).switch.windowHold = s.switch.windowHold ∧ (enterClosing s).switch.acting = s.switch.acting ∧
    (enterClosing s).switch.governing = s.switch.governing := by
  simp [enterClosing]

/-- What `dropFault` leaves alone. -/
@[simp] theorem dropFault_keeps (s : State) :
    (dropFault s).pending = s.pending ∧ (dropFault s).agenda = s.agenda ∧ (dropFault s).link = s.link ∧
    (dropFault s).mem = s.mem ∧ (dropFault s).intake = s.intake ∧ (dropFault s).attn = s.attn ∧
    (dropFault s).meter = s.meter ∧ (dropFault s).energy = s.energy ∧ (dropFault s).clock = s.clock ∧
    (dropFault s).book = s.book ∧ (dropFault s).credit = s.credit ∧ (dropFault s).decoder = s.decoder ∧
    (dropFault s).settings = s.settings ∧ (dropFault s).window = s.window ∧
    (dropFault s).tamper.caseIn = s.tamper.caseIn ∧ (dropFault s).tamper.coverIn = s.tamper.coverIn ∧
    (dropFault s).tamper.magIn = s.tamper.magIn ∧ (dropFault s).battery = s.battery ∧
    (dropFault s).store = s.store ∧ (dropFault s).supply = s.supply ∧ (dropFault s).catchUp = s.catchUp ∧
    (dropFault s).pins = s.pins ∧
    (dropFault s).tamper.reason = s.tamper.reason ∧ (dropFault s).switch.contactor = s.switch.contactor ∧
    (dropFault s).switch.kept = s.switch.kept ∧ (dropFault s).switch.attempt = s.switch.attempt ∧
    (dropFault s).switch.attemptCount = s.switch.attemptCount ∧
    (dropFault s).switch.governing = s.switch.governing ∧ (dropFault s).switch.reasons = s.switch.reasons ∧
    (dropFault s).switch.friendly = s.switch.friendly ∧ (dropFault s).switch.windowHold = s.switch.windowHold ∧
    (dropFault s).switch.acting = s.switch.acting := by
  unfold dropFault
  split <;> simp

/-- What `stuckToClosed` leaves alone. -/
@[simp] theorem stuckToClosed_keeps (s : State) :
    (stuckToClosed s).pending = s.pending ∧ (stuckToClosed s).agenda = s.agenda ∧
    (stuckToClosed s).link = s.link ∧ (stuckToClosed s).mem = s.mem ∧
    (stuckToClosed s).intake = s.intake ∧ (stuckToClosed s).attn = s.attn ∧ (stuckToClosed s).meter = s.meter ∧
    (stuckToClosed s).energy = s.energy ∧ (stuckToClosed s).clock = s.clock ∧ (stuckToClosed s).book = s.book ∧
    (stuckToClosed s).credit = s.credit ∧ (stuckToClosed s).decoder = s.decoder ∧
    (stuckToClosed s).settings = s.settings ∧ (stuckToClosed s).window = s.window ∧
    (stuckToClosed s).tamper.caseIn = s.tamper.caseIn ∧ (stuckToClosed s).tamper.coverIn = s.tamper.coverIn ∧
    (stuckToClosed s).tamper.magIn = s.tamper.magIn ∧ (stuckToClosed s).battery = s.battery ∧
    (stuckToClosed s).store = s.store ∧ (stuckToClosed s).supply = s.supply ∧ (stuckToClosed s).catchUp = s.catchUp ∧
    (stuckToClosed s).pins = s.pins ∧
    (stuckToClosed s).tamper.reason = s.tamper.reason ∧ (stuckToClosed s).switch.reasons = s.switch.reasons ∧
    (stuckToClosed s).switch.friendly = s.switch.friendly ∧
    (stuckToClosed s).switch.windowHold = s.switch.windowHold ∧
    (stuckToClosed s).switch.acting = s.switch.acting := by
  simp [stuckToClosed]

/-- What `actArmed` leaves alone. -/
@[simp] theorem actArmed_keeps (s : State) :
    (actArmed s).pending = s.pending ∧ (actArmed s).agenda = s.agenda ∧ (actArmed s).link = s.link ∧
    (actArmed s).mem = s.mem ∧ (actArmed s).intake = s.intake ∧ (actArmed s).attn = s.attn ∧
    (actArmed s).meter = s.meter ∧ (actArmed s).energy = s.energy ∧ (actArmed s).clock = s.clock ∧
    (actArmed s).book = s.book ∧ (actArmed s).credit = s.credit ∧ (actArmed s).decoder = s.decoder ∧
    (actArmed s).settings = s.settings ∧ (actArmed s).window = s.window ∧ (actArmed s).tamper = s.tamper ∧
    (actArmed s).battery = s.battery ∧ (actArmed s).store = s.store ∧ (actArmed s).supply = s.supply ∧
    (actArmed s).catchUp = s.catchUp ∧ (actArmed s).pins = s.pins ∧ (actArmed s).switch.reasons = s.switch.reasons ∧
    (actArmed s).switch.friendly = s.switch.friendly ∧ (actArmed s).switch.windowHold = s.switch.windowHold ∧
    (actArmed s).switch.acting = s.switch.acting := by
  unfold actArmed
  split <;> simp

/-- What `actOnContactor` leaves alone. -/
@[simp] theorem actOnContactor_keeps (s : State) :
    (actOnContactor s).pending = s.pending ∧ (actOnContactor s).agenda = s.agenda ∧
    (actOnContactor s).link = s.link ∧ (actOnContactor s).mem = s.mem ∧
    (actOnContactor s).intake = s.intake ∧ (actOnContactor s).attn = s.attn ∧ (actOnContactor s).meter = s.meter ∧
    (actOnContactor s).energy = s.energy ∧ (actOnContactor s).clock = s.clock ∧ (actOnContactor s).book = s.book ∧
    (actOnContactor s).credit = s.credit ∧ (actOnContactor s).decoder = s.decoder ∧
    (actOnContactor s).settings = s.settings ∧ (actOnContactor s).window = s.window ∧
    (actOnContactor s).tamper.caseIn = s.tamper.caseIn ∧ (actOnContactor s).tamper.coverIn = s.tamper.coverIn ∧
    (actOnContactor s).tamper.magIn = s.tamper.magIn ∧ (actOnContactor s).battery = s.battery ∧
    (actOnContactor s).store = s.store ∧ (actOnContactor s).supply = s.supply ∧ (actOnContactor s).catchUp = s.catchUp ∧
    (actOnContactor s).pins = s.pins ∧
    (actOnContactor s).tamper.reason = s.tamper.reason ∧ (actOnContactor s).switch.reasons = s.switch.reasons ∧
    (actOnContactor s).switch.friendly = s.switch.friendly ∧
    (actOnContactor s).switch.windowHold = s.switch.windowHold ∧
    (actOnContactor s).switch.acting = s.switch.acting := by
  unfold actOnContactor
  split <;> (try split_ifs) <;> simp

/-- What `evaluate` leaves alone. -/
@[simp] theorem evaluate_keeps (s : State) :
    (evaluate s).pending = s.pending ∧ (evaluate s).agenda = s.agenda ∧ (evaluate s).link = s.link ∧
    (evaluate s).mem = s.mem ∧ (evaluate s).intake = s.intake ∧ (evaluate s).attn.mask = s.attn.mask ∧
    (evaluate s).meter = s.meter ∧ (evaluate s).energy = s.energy ∧ (evaluate s).clock = s.clock ∧
    (evaluate s).book = s.book ∧ (evaluate s).credit = s.credit ∧ (evaluate s).decoder = s.decoder ∧
    (evaluate s).settings = s.settings ∧ (evaluate s).window = s.window ∧
    (evaluate s).tamper.caseIn = s.tamper.caseIn ∧ (evaluate s).tamper.coverIn = s.tamper.coverIn ∧
    (evaluate s).tamper.magIn = s.tamper.magIn ∧ (evaluate s).battery = s.battery ∧ (evaluate s).store = s.store ∧
    (evaluate s).supply = s.supply ∧ (evaluate s).catchUp = s.catchUp ∧ (evaluate s).pins = s.pins ∧
    (evaluate s).tamper.reason = s.tamper.reason ∧
    (evaluate s).switch.reasons = s.switch.reasons ∧ (evaluate s).switch.friendly = s.switch.friendly ∧
    (evaluate s).switch.windowHold = s.switch.windowHold ∧ (evaluate s).attn.bits = s.attn.bits ∧
    (evaluate s).attn.busy = s.attn.busy := by
  simp [evaluate]

/-- What `handReason` leaves alone. -/
@[simp] theorem handReason_keeps (r : Governing) (on : Bool) (s : State) :
    (handReason r on s).pending = s.pending ∧ (handReason r on s).agenda = s.agenda ∧
    (handReason r on s).link = s.link ∧ (handReason r on s).mem = s.mem ∧
    (handReason r on s).intake = s.intake ∧ (handReason r on s).attn.mask = s.attn.mask ∧
    (handReason r on s).meter = s.meter ∧ (handReason r on s).energy = s.energy ∧
    (handReason r on s).clock = s.clock ∧ (handReason r on s).book = s.book ∧
    (handReason r on s).credit = s.credit ∧ (handReason r on s).decoder = s.decoder ∧
    (handReason r on s).settings = s.settings ∧ (handReason r on s).window = s.window ∧
    (handReason r on s).tamper.caseIn = s.tamper.caseIn ∧ (handReason r on s).tamper.coverIn = s.tamper.coverIn ∧
    (handReason r on s).tamper.magIn = s.tamper.magIn ∧ (handReason r on s).battery = s.battery ∧
    (handReason r on s).store = s.store ∧ (handReason r on s).supply = s.supply ∧
    (handReason r on s).catchUp = s.catchUp ∧ (handReason r on s).pins = s.pins ∧
    (handReason r on s).tamper.reason = s.tamper.reason ∧
    (handReason r on s).attn.bits = s.attn.bits ∧ (handReason r on s).attn.busy = s.attn.busy ∧
    (handReason r on s).switch.friendly = s.switch.friendly ∧
    (handReason r on s).switch.windowHold = s.switch.windowHold := by
  unfold handReason
  split <;> simp

/-- What `handFriendly` leaves alone. -/
@[simp] theorem handFriendly_keeps (on : Bool) (s : State) :
    (handFriendly on s).pending = s.pending ∧ (handFriendly on s).agenda = s.agenda ∧
    (handFriendly on s).link = s.link ∧ (handFriendly on s).mem = s.mem ∧
    (handFriendly on s).intake = s.intake ∧ (handFriendly on s).attn.mask = s.attn.mask ∧
    (handFriendly on s).meter = s.meter ∧ (handFriendly on s).energy = s.energy ∧
    (handFriendly on s).clock = s.clock ∧ (handFriendly on s).book = s.book ∧
    (handFriendly on s).credit = s.credit ∧ (handFriendly on s).decoder = s.decoder ∧
    (handFriendly on s).settings = s.settings ∧ (handFriendly on s).window = s.window ∧
    (handFriendly on s).tamper.caseIn = s.tamper.caseIn ∧ (handFriendly on s).tamper.coverIn = s.tamper.coverIn ∧
    (handFriendly on s).tamper.magIn = s.tamper.magIn ∧ (handFriendly on s).battery = s.battery ∧
    (handFriendly on s).store = s.store ∧ (handFriendly on s).supply = s.supply ∧
    (handFriendly on s).catchUp = s.catchUp ∧ (handFriendly on s).pins = s.pins ∧
    (handFriendly on s).tamper.reason = s.tamper.reason ∧
    (handFriendly on s).attn.bits = s.attn.bits ∧ (handFriendly on s).attn.busy = s.attn.busy ∧
    (handFriendly on s).switch.reasons = s.switch.reasons ∧
    (handFriendly on s).switch.windowHold = s.switch.windowHold := by
  simp [handFriendly]

/-- What `handWindowHold` leaves alone. -/
@[simp] theorem handWindowHold_keeps (n : Nat) (s : State) :
    (handWindowHold n s).pending = s.pending ∧ (handWindowHold n s).agenda = s.agenda ∧
    (handWindowHold n s).link = s.link ∧ (handWindowHold n s).mem = s.mem ∧
    (handWindowHold n s).intake = s.intake ∧ (handWindowHold n s).attn.mask = s.attn.mask ∧
    (handWindowHold n s).meter = s.meter ∧ (handWindowHold n s).energy = s.energy ∧
    (handWindowHold n s).clock = s.clock ∧ (handWindowHold n s).book = s.book ∧
    (handWindowHold n s).credit = s.credit ∧ (handWindowHold n s).decoder = s.decoder ∧
    (handWindowHold n s).settings = s.settings ∧ (handWindowHold n s).window = s.window ∧
    (handWindowHold n s).tamper.caseIn = s.tamper.caseIn ∧ (handWindowHold n s).tamper.coverIn = s.tamper.coverIn ∧
    (handWindowHold n s).tamper.magIn = s.tamper.magIn ∧ (handWindowHold n s).battery = s.battery ∧
    (handWindowHold n s).store = s.store ∧ (handWindowHold n s).supply = s.supply ∧
    (handWindowHold n s).catchUp = s.catchUp ∧ (handWindowHold n s).pins = s.pins ∧
    (handWindowHold n s).tamper.reason = s.tamper.reason ∧
    (handWindowHold n s).attn.bits = s.attn.bits ∧ (handWindowHold n s).attn.busy = s.attn.busy ∧
    (handWindowHold n s).switch.reasons = s.switch.reasons ∧
    (handWindowHold n s).switch.friendly = s.switch.friendly := by
  simp [handWindowHold]

/-! ## The tamper monitor -/

/-- What `deriveTamper` leaves alone. -/
@[simp] theorem deriveTamper_keeps (s : State) :
    (deriveTamper s).pending = s.pending ∧ (deriveTamper s).agenda = s.agenda ∧
    (deriveTamper s).link = s.link ∧ (deriveTamper s).mem = s.mem ∧ (deriveTamper s).intake = s.intake ∧
    (deriveTamper s).attn.mask = s.attn.mask ∧ (deriveTamper s).meter = s.meter ∧
    (deriveTamper s).energy = s.energy ∧ (deriveTamper s).clock = s.clock ∧ (deriveTamper s).book = s.book ∧
    (deriveTamper s).credit = s.credit ∧ (deriveTamper s).decoder = s.decoder ∧
    (deriveTamper s).settings = s.settings ∧ (deriveTamper s).window = s.window ∧
    (deriveTamper s).tamper.caseIn = s.tamper.caseIn ∧ (deriveTamper s).tamper.coverIn = s.tamper.coverIn ∧
    (deriveTamper s).tamper.magIn = s.tamper.magIn ∧ (deriveTamper s).battery = s.battery ∧
    (deriveTamper s).store = s.store ∧ (deriveTamper s).supply = s.supply ∧ (deriveTamper s).catchUp = s.catchUp ∧
    (deriveTamper s).pins = s.pins ∧
    (deriveTamper s).attn.bits = s.attn.bits ∧ (deriveTamper s).attn.busy = s.attn.busy := by
  unfold deriveTamper
  dsimp only
  split_ifs <;> simp

/-- What `enteredActive` leaves alone. -/
@[simp] theorem enteredActive_keeps (s : State) :
    (enteredActive s).pending = s.pending ∧ (enteredActive s).agenda = s.agenda ∧
    (enteredActive s).link = s.link ∧ (enteredActive s).mem = s.mem ∧
    (enteredActive s).intake.list = s.intake.list ∧ (enteredActive s).intake.ready = s.intake.ready ∧
    (enteredActive s).attn.mask = s.attn.mask ∧ (enteredActive s).meter = s.meter ∧
    (enteredActive s).energy = s.energy ∧ (enteredActive s).clock = s.clock ∧ (enteredActive s).book = s.book ∧
    (enteredActive s).credit = s.credit ∧ (enteredActive s).decoder = s.decoder ∧
    (enteredActive s).settings = s.settings ∧ (enteredActive s).window = s.window ∧
    (enteredActive s).tamper.caseIn = s.tamper.caseIn ∧ (enteredActive s).tamper.coverIn = s.tamper.coverIn ∧
    (enteredActive s).tamper.magIn = s.tamper.magIn ∧ (enteredActive s).battery = s.battery ∧
    (enteredActive s).store.image = s.store.image ∧ (enteredActive s).store.lastNumber = s.store.lastNumber ∧
    (enteredActive s).store.lastSet = s.store.lastSet ∧ (enteredActive s).supply.power = s.supply.power ∧
    (enteredActive s).supply.startStep = s.supply.startStep ∧ (enteredActive s).supply.cause = s.supply.cause ∧
    (enteredActive s).supply.resetHold = s.supply.resetHold ∧ (enteredActive s).supply.vsLow = s.supply.vsLow ∧
    (enteredActive s).supply.resetRemembered = s.supply.resetRemembered ∧
    (enteredActive s).supply.failed = s.supply.failed ∧ (enteredActive s).supply.batteryLow = s.supply.batteryLow ∧
    (enteredActive s).catchUp = s.catchUp ∧ (enteredActive s).pins = s.pins ∧ (enteredActive s).attn.bits = s.attn.bits ∧
    (enteredActive s).attn.busy = s.attn.busy := by
  simp [enteredActive]

/-- What `reportPresent` leaves alone. -/
@[simp] theorem reportPresent_keeps (k : Fin 10) (s : State) :
    (reportPresent k s).pending = s.pending ∧ (reportPresent k s).agenda = s.agenda ∧
    (reportPresent k s).link = s.link ∧ (reportPresent k s).mem = s.mem ∧
    (reportPresent k s).intake.list = s.intake.list ∧ (reportPresent k s).intake.ready = s.intake.ready ∧
    (reportPresent k s).attn.mask = s.attn.mask ∧ (reportPresent k s).meter = s.meter ∧
    (reportPresent k s).energy = s.energy ∧ (reportPresent k s).clock = s.clock ∧
    (reportPresent k s).book = s.book ∧ (reportPresent k s).credit = s.credit ∧
    (reportPresent k s).decoder = s.decoder ∧ (reportPresent k s).settings = s.settings ∧
    (reportPresent k s).window = s.window ∧ (reportPresent k s).tamper.caseIn = s.tamper.caseIn ∧
    (reportPresent k s).tamper.coverIn = s.tamper.coverIn ∧ (reportPresent k s).tamper.magIn = s.tamper.magIn ∧
    (reportPresent k s).battery = s.battery ∧ (reportPresent k s).store.image = s.store.image ∧
    (reportPresent k s).store.lastNumber = s.store.lastNumber ∧
    (reportPresent k s).store.lastSet = s.store.lastSet ∧ (reportPresent k s).supply.power = s.supply.power ∧
    (reportPresent k s).supply.startStep = s.supply.startStep ∧ (reportPresent k s).supply.cause = s.supply.cause ∧
    (reportPresent k s).supply.resetHold = s.supply.resetHold ∧ (reportPresent k s).supply.vsLow = s.supply.vsLow ∧
    (reportPresent k s).supply.resetRemembered = s.supply.resetRemembered ∧
    (reportPresent k s).supply.failed = s.supply.failed ∧
    (reportPresent k s).supply.batteryLow = s.supply.batteryLow ∧ (reportPresent k s).catchUp = s.catchUp ∧
    (reportPresent k s).pins = s.pins ∧
    (reportPresent k s).attn.bits = s.attn.bits ∧ (reportPresent k s).attn.busy = s.attn.busy := by
  unfold reportPresent
  dsimp only
  split <;> simp

/-- What `report` leaves alone. -/
@[simp] theorem report_keeps (k : Fin 10) (present : Bool) (s : State) :
    (report k present s).pending = s.pending ∧ (report k present s).agenda = s.agenda ∧
    (report k present s).link = s.link ∧ (report k present s).mem = s.mem ∧
    (report k present s).intake.list = s.intake.list ∧ (report k present s).intake.ready = s.intake.ready ∧
    (report k present s).attn.mask = s.attn.mask ∧ (report k present s).meter = s.meter ∧
    (report k present s).energy = s.energy ∧ (report k present s).clock = s.clock ∧
    (report k present s).book = s.book ∧ (report k present s).credit = s.credit ∧
    (report k present s).decoder = s.decoder ∧ (report k present s).settings = s.settings ∧
    (report k present s).window = s.window ∧ (report k present s).tamper.caseIn = s.tamper.caseIn ∧
    (report k present s).tamper.coverIn = s.tamper.coverIn ∧ (report k present s).tamper.magIn = s.tamper.magIn ∧
    (report k present s).battery = s.battery ∧ (report k present s).store.image = s.store.image ∧
    (report k present s).store.lastNumber = s.store.lastNumber ∧
    (report k present s).store.lastSet = s.store.lastSet ∧ (report k present s).supply.power = s.supply.power ∧
    (report k present s).supply.startStep = s.supply.startStep ∧
    (report k present s).supply.cause = s.supply.cause ∧
    (report k present s).supply.resetHold = s.supply.resetHold ∧
    (report k present s).supply.vsLow = s.supply.vsLow ∧
    (report k present s).supply.resetRemembered = s.supply.resetRemembered ∧
    (report k present s).supply.failed = s.supply.failed ∧
    (report k present s).supply.batteryLow = s.supply.batteryLow ∧ (report k present s).catchUp = s.catchUp ∧
    (report k present s).pins = s.pins ∧
    (report k present s).attn.bits = s.attn.bits ∧ (report k present s).attn.busy = s.attn.busy := by
  unfold report
  split <;> simp

/-- What `reportBoth` leaves alone. -/
@[simp] theorem reportBoth_keeps (k : Fin 10) (s : State) :
    (reportBoth k s).pending = s.pending ∧ (reportBoth k s).agenda = s.agenda ∧
    (reportBoth k s).link = s.link ∧ (reportBoth k s).mem = s.mem ∧
    (reportBoth k s).intake.list = s.intake.list ∧ (reportBoth k s).intake.ready = s.intake.ready ∧
    (reportBoth k s).attn.mask = s.attn.mask ∧ (reportBoth k s).meter = s.meter ∧
    (reportBoth k s).energy = s.energy ∧ (reportBoth k s).clock = s.clock ∧ (reportBoth k s).book = s.book ∧
    (reportBoth k s).credit = s.credit ∧ (reportBoth k s).decoder = s.decoder ∧
    (reportBoth k s).settings = s.settings ∧ (reportBoth k s).window = s.window ∧
    (reportBoth k s).tamper.caseIn = s.tamper.caseIn ∧ (reportBoth k s).tamper.coverIn = s.tamper.coverIn ∧
    (reportBoth k s).tamper.magIn = s.tamper.magIn ∧ (reportBoth k s).battery = s.battery ∧
    (reportBoth k s).store.image = s.store.image ∧ (reportBoth k s).store.lastNumber = s.store.lastNumber ∧
    (reportBoth k s).store.lastSet = s.store.lastSet ∧ (reportBoth k s).supply.power = s.supply.power ∧
    (reportBoth k s).supply.startStep = s.supply.startStep ∧ (reportBoth k s).supply.cause = s.supply.cause ∧
    (reportBoth k s).supply.resetHold = s.supply.resetHold ∧ (reportBoth k s).supply.vsLow = s.supply.vsLow ∧
    (reportBoth k s).supply.resetRemembered = s.supply.resetRemembered ∧
    (reportBoth k s).supply.failed = s.supply.failed ∧ (reportBoth k s).supply.batteryLow = s.supply.batteryLow ∧
    (reportBoth k s).catchUp = s.catchUp ∧ (reportBoth k s).pins = s.pins ∧ (reportBoth k s).attn.bits = s.attn.bits ∧
    (reportBoth k s).attn.busy = s.attn.busy := by
  simp [reportBoth]

/-- What `tamperClearArrives` leaves alone. -/
@[simp] theorem tamperClearArrives_keeps (mask : Nat) (s : State) :
    (tamperClearArrives mask s).pending = s.pending ∧ (tamperClearArrives mask s).agenda = s.agenda ∧
    (tamperClearArrives mask s).link = s.link ∧ (tamperClearArrives mask s).mem = s.mem ∧
    (tamperClearArrives mask s).intake = s.intake ∧ (tamperClearArrives mask s).attn.mask = s.attn.mask ∧
    (tamperClearArrives mask s).meter = s.meter ∧ (tamperClearArrives mask s).energy = s.energy ∧
    (tamperClearArrives mask s).clock = s.clock ∧ (tamperClearArrives mask s).book = s.book ∧
    (tamperClearArrives mask s).credit = s.credit ∧ (tamperClearArrives mask s).decoder = s.decoder ∧
    (tamperClearArrives mask s).settings = s.settings ∧ (tamperClearArrives mask s).window = s.window ∧
    (tamperClearArrives mask s).tamper.caseIn = s.tamper.caseIn ∧
    (tamperClearArrives mask s).tamper.coverIn = s.tamper.coverIn ∧
    (tamperClearArrives mask s).tamper.magIn = s.tamper.magIn ∧ (tamperClearArrives mask s).battery = s.battery ∧
    (tamperClearArrives mask s).store = s.store ∧ (tamperClearArrives mask s).supply = s.supply ∧
    (tamperClearArrives mask s).catchUp = s.catchUp ∧ (tamperClearArrives mask s).pins = s.pins ∧
    (tamperClearArrives mask s).attn.bits = s.attn.bits ∧
    (tamperClearArrives mask s).attn.busy = s.attn.busy := by
  simp [tamperClearArrives]

/-- What `setInput` leaves alone. -/
@[simp] theorem setInput_keeps (i : SenseInput) (x : InputState) (s : State) :
    (setInput i x s).pending = s.pending ∧ (setInput i x s).agenda = s.agenda ∧
    (setInput i x s).link = s.link ∧ (setInput i x s).mem = s.mem ∧ (setInput i x s).intake = s.intake ∧
    (setInput i x s).attn = s.attn ∧ (setInput i x s).meter = s.meter ∧ (setInput i x s).energy = s.energy ∧
    (setInput i x s).clock = s.clock ∧ (setInput i x s).book = s.book ∧ (setInput i x s).credit = s.credit ∧
    (setInput i x s).decoder = s.decoder ∧ (setInput i x s).settings = s.settings ∧
    (setInput i x s).window = s.window ∧ (setInput i x s).switch = s.switch ∧
    (setInput i x s).battery = s.battery ∧ (setInput i x s).store = s.store ∧ (setInput i x s).supply = s.supply ∧
    (setInput i x s).catchUp = s.catchUp ∧ (setInput i x s).pins = s.pins ∧ (setInput i x s).tamper.records = s.tamper.records ∧
    (setInput i x s).tamper.reason = s.tamper.reason := by
  cases i <;> simp [setInput]

/-- What `qualifiedChange` leaves alone. -/
@[simp] theorem qualifiedChange_keeps (i : SenseInput) (active : Bool) (s : State) :
    (qualifiedChange i active s).pending = s.pending ∧ (qualifiedChange i active s).agenda = s.agenda ∧
    (qualifiedChange i active s).link = s.link ∧ (qualifiedChange i active s).mem = s.mem ∧
    (qualifiedChange i active s).intake.list = s.intake.list ∧
    (qualifiedChange i active s).intake.ready = s.intake.ready ∧
    (qualifiedChange i active s).attn.mask = s.attn.mask ∧ (qualifiedChange i active s).meter = s.meter ∧
    (qualifiedChange i active s).energy = s.energy ∧ (qualifiedChange i active s).clock = s.clock ∧
    (qualifiedChange i active s).book = s.book ∧ (qualifiedChange i active s).credit = s.credit ∧
    (qualifiedChange i active s).decoder = s.decoder ∧ (qualifiedChange i active s).settings = s.settings ∧
    (qualifiedChange i active s).window = s.window ∧ (qualifiedChange i active s).tamper.caseIn = s.tamper.caseIn ∧
    (qualifiedChange i active s).tamper.coverIn = s.tamper.coverIn ∧
    (qualifiedChange i active s).tamper.magIn = s.tamper.magIn ∧ (qualifiedChange i active s).battery = s.battery ∧
    (qualifiedChange i active s).store.image = s.store.image ∧
    (qualifiedChange i active s).store.lastNumber = s.store.lastNumber ∧
    (qualifiedChange i active s).store.lastSet = s.store.lastSet ∧
    (qualifiedChange i active s).supply.power = s.supply.power ∧
    (qualifiedChange i active s).supply.startStep = s.supply.startStep ∧
    (qualifiedChange i active s).supply.cause = s.supply.cause ∧
    (qualifiedChange i active s).supply.resetHold = s.supply.resetHold ∧
    (qualifiedChange i active s).supply.vsLow = s.supply.vsLow ∧
    (qualifiedChange i active s).supply.resetRemembered = s.supply.resetRemembered ∧
    (qualifiedChange i active s).supply.failed = s.supply.failed ∧
    (qualifiedChange i active s).supply.batteryLow = s.supply.batteryLow ∧
    (qualifiedChange i active s).catchUp = s.catchUp ∧ (qualifiedChange i active s).pins = s.pins ∧
    (qualifiedChange i active s).attn.bits = s.attn.bits ∧
    (qualifiedChange i active s).attn.busy = s.attn.busy := by
  unfold qualifiedChange
  split_ifs <;> simp

/-- What `sampleInput` leaves alone. -/
@[simp] theorem sampleInput_keeps (i : SenseInput) (high : Bool) (s : State) :
    (sampleInput i high s).pending = s.pending ∧ (sampleInput i high s).agenda = s.agenda ∧
    (sampleInput i high s).link = s.link ∧ (sampleInput i high s).mem = s.mem ∧
    (sampleInput i high s).intake.list = s.intake.list ∧ (sampleInput i high s).intake.ready = s.intake.ready ∧
    (sampleInput i high s).attn.mask = s.attn.mask ∧ (sampleInput i high s).meter = s.meter ∧
    (sampleInput i high s).energy = s.energy ∧ (sampleInput i high s).clock = s.clock ∧
    (sampleInput i high s).book = s.book ∧ (sampleInput i high s).credit = s.credit ∧
    (sampleInput i high s).decoder = s.decoder ∧ (sampleInput i high s).settings = s.settings ∧
    (sampleInput i high s).window = s.window ∧ (sampleInput i high s).battery = s.battery ∧
    (sampleInput i high s).store.image = s.store.image ∧
    (sampleInput i high s).store.lastNumber = s.store.lastNumber ∧
    (sampleInput i high s).store.lastSet = s.store.lastSet ∧ (sampleInput i high s).supply.power = s.supply.power ∧
    (sampleInput i high s).supply.startStep = s.supply.startStep ∧
    (sampleInput i high s).supply.cause = s.supply.cause ∧
    (sampleInput i high s).supply.resetHold = s.supply.resetHold ∧
    (sampleInput i high s).supply.vsLow = s.supply.vsLow ∧
    (sampleInput i high s).supply.resetRemembered = s.supply.resetRemembered ∧
    (sampleInput i high s).supply.failed = s.supply.failed ∧
    (sampleInput i high s).supply.batteryLow = s.supply.batteryLow ∧ (sampleInput i high s).catchUp = s.catchUp ∧
    (sampleInput i high s).pins = s.pins ∧
    (sampleInput i high s).attn.bits = s.attn.bits ∧ (sampleInput i high s).attn.busy = s.attn.busy := by
  unfold sampleInput
  dsimp only
  split_ifs <;> simp

/-- What `commitToTamper` leaves alone. -/
@[simp] theorem commitToTamper_keeps (old : Settings) (s : State) :
    (commitToTamper old s).pending = s.pending ∧ (commitToTamper old s).agenda = s.agenda ∧
    (commitToTamper old s).link = s.link ∧ (commitToTamper old s).mem = s.mem ∧
    (commitToTamper old s).intake = s.intake ∧ (commitToTamper old s).attn.mask = s.attn.mask ∧
    (commitToTamper old s).meter = s.meter ∧ (commitToTamper old s).energy = s.energy ∧
    (commitToTamper old s).clock = s.clock ∧ (commitToTamper old s).book = s.book ∧
    (commitToTamper old s).credit = s.credit ∧ (commitToTamper old s).decoder = s.decoder ∧
    (commitToTamper old s).settings = s.settings ∧ (commitToTamper old s).window = s.window ∧
    (commitToTamper old s).store = s.store ∧ (commitToTamper old s).supply = s.supply ∧
    (commitToTamper old s).catchUp = s.catchUp ∧ (commitToTamper old s).pins = s.pins ∧
    (commitToTamper old s).attn.bits = s.attn.bits ∧
    (commitToTamper old s).attn.busy = s.attn.busy := by
  simp [commitToTamper]

/-- What `mergeWatch` leaves alone. -/
@[simp] theorem mergeWatch_keeps (i : SenseInput) (b : BatteryWatch) (high : Bool) (s : State) :
    (mergeWatch i b high s).pending = s.pending ∧ (mergeWatch i b high s).agenda = s.agenda ∧
    (mergeWatch i b high s).link = s.link ∧ (mergeWatch i b high s).mem = s.mem ∧
    (mergeWatch i b high s).intake.list = s.intake.list ∧ (mergeWatch i b high s).intake.ready = s.intake.ready ∧
    (mergeWatch i b high s).attn.mask = s.attn.mask ∧ (mergeWatch i b high s).meter = s.meter ∧
    (mergeWatch i b high s).energy = s.energy ∧ (mergeWatch i b high s).clock = s.clock ∧
    (mergeWatch i b high s).book = s.book ∧ (mergeWatch i b high s).credit = s.credit ∧
    (mergeWatch i b high s).decoder = s.decoder ∧ (mergeWatch i b high s).settings = s.settings ∧
    (mergeWatch i b high s).window = s.window ∧ (mergeWatch i b high s).tamper.caseIn = s.tamper.caseIn ∧
    (mergeWatch i b high s).tamper.coverIn = s.tamper.coverIn ∧
    (mergeWatch i b high s).tamper.magIn = s.tamper.magIn ∧ (mergeWatch i b high s).battery = s.battery ∧
    (mergeWatch i b high s).store.image = s.store.image ∧
    (mergeWatch i b high s).store.lastNumber = s.store.lastNumber ∧
    (mergeWatch i b high s).store.lastSet = s.store.lastSet ∧
    (mergeWatch i b high s).supply.power = s.supply.power ∧
    (mergeWatch i b high s).supply.startStep = s.supply.startStep ∧
    (mergeWatch i b high s).supply.cause = s.supply.cause ∧
    (mergeWatch i b high s).supply.resetHold = s.supply.resetHold ∧
    (mergeWatch i b high s).supply.vsLow = s.supply.vsLow ∧
    (mergeWatch i b high s).supply.resetRemembered = s.supply.resetRemembered ∧
    (mergeWatch i b high s).supply.failed = s.supply.failed ∧
    (mergeWatch i b high s).supply.batteryLow = s.supply.batteryLow ∧ (mergeWatch i b high s).catchUp = s.catchUp ∧
    (mergeWatch i b high s).pins = s.pins ∧
    (mergeWatch i b high s).attn.bits = s.attn.bits ∧ (mergeWatch i b high s).attn.busy = s.attn.busy := by
  unfold mergeWatch
  dsimp only
  split_ifs <;> simp

/-- What `setupInput` leaves alone. -/
@[simp] theorem setupInput_keeps (i : SenseInput) (high : Bool) (s : State) :
    (setupInput i high s).pending = s.pending ∧ (setupInput i high s).agenda = s.agenda ∧
    (setupInput i high s).link = s.link ∧ (setupInput i high s).mem = s.mem ∧
    (setupInput i high s).intake = s.intake ∧ (setupInput i high s).attn = s.attn ∧
    (setupInput i high s).meter = s.meter ∧ (setupInput i high s).energy = s.energy ∧
    (setupInput i high s).clock = s.clock ∧ (setupInput i high s).book = s.book ∧
    (setupInput i high s).credit = s.credit ∧ (setupInput i high s).decoder = s.decoder ∧
    (setupInput i high s).settings = s.settings ∧ (setupInput i high s).window = s.window ∧
    (setupInput i high s).switch = s.switch ∧ (setupInput i high s).battery = s.battery ∧
    (setupInput i high s).store = s.store ∧ (setupInput i high s).supply = s.supply ∧
    (setupInput i high s).catchUp = s.catchUp ∧ (setupInput i high s).pins = s.pins ∧
    (setupInput i high s).tamper.records = s.tamper.records ∧
    (setupInput i high s).tamper.reason = s.tamper.reason := by
  simp [setupInput]

/-- What `inputStartReport` leaves alone. -/
@[simp] theorem inputStartReport_keeps (i : SenseInput) (s : State) :
    (inputStartReport i s).pending = s.pending ∧ (inputStartReport i s).agenda = s.agenda ∧
    (inputStartReport i s).link = s.link ∧ (inputStartReport i s).mem = s.mem ∧
    (inputStartReport i s).intake.list = s.intake.list ∧ (inputStartReport i s).intake.ready = s.intake.ready ∧
    (inputStartReport i s).attn.mask = s.attn.mask ∧ (inputStartReport i s).meter = s.meter ∧
    (inputStartReport i s).energy = s.energy ∧ (inputStartReport i s).clock = s.clock ∧
    (inputStartReport i s).book = s.book ∧ (inputStartReport i s).credit = s.credit ∧
    (inputStartReport i s).decoder = s.decoder ∧ (inputStartReport i s).settings = s.settings ∧
    (inputStartReport i s).window = s.window ∧ (inputStartReport i s).tamper.caseIn = s.tamper.caseIn ∧
    (inputStartReport i s).tamper.coverIn = s.tamper.coverIn ∧
    (inputStartReport i s).tamper.magIn = s.tamper.magIn ∧ (inputStartReport i s).battery = s.battery ∧
    (inputStartReport i s).store.image = s.store.image ∧
    (inputStartReport i s).store.lastNumber = s.store.lastNumber ∧
    (inputStartReport i s).store.lastSet = s.store.lastSet ∧ (inputStartReport i s).supply.power = s.supply.power ∧
    (inputStartReport i s).supply.startStep = s.supply.startStep ∧
    (inputStartReport i s).supply.cause = s.supply.cause ∧
    (inputStartReport i s).supply.resetHold = s.supply.resetHold ∧
    (inputStartReport i s).supply.vsLow = s.supply.vsLow ∧
    (inputStartReport i s).supply.resetRemembered = s.supply.resetRemembered ∧
    (inputStartReport i s).supply.failed = s.supply.failed ∧
    (inputStartReport i s).supply.batteryLow = s.supply.batteryLow ∧ (inputStartReport i s).catchUp = s.catchUp ∧
    (inputStartReport i s).pins = s.pins ∧
    (inputStartReport i s).attn.bits = s.attn.bits ∧ (inputStartReport i s).attn.busy = s.attn.busy := by
  unfold inputStartReport
  dsimp only
  split_ifs <;> simp

/-- What `settleInputs` leaves alone. -/
@[simp] theorem settleInputs_keeps (s : State) :
    (settleInputs s).pending = s.pending ∧ (settleInputs s).agenda = s.agenda ∧
    (settleInputs s).link = s.link ∧ (settleInputs s).mem = s.mem ∧
    (settleInputs s).intake.list = s.intake.list ∧ (settleInputs s).intake.ready = s.intake.ready ∧
    (settleInputs s).attn.mask = s.attn.mask ∧ (settleInputs s).meter = s.meter ∧
    (settleInputs s).energy = s.energy ∧ (settleInputs s).clock = s.clock ∧ (settleInputs s).book = s.book ∧
    (settleInputs s).credit = s.credit ∧ (settleInputs s).decoder = s.decoder ∧
    (settleInputs s).settings = s.settings ∧ (settleInputs s).window = s.window ∧
    (settleInputs s).store.image = s.store.image ∧ (settleInputs s).store.lastNumber = s.store.lastNumber ∧
    (settleInputs s).store.lastSet = s.store.lastSet ∧ (settleInputs s).supply.power = s.supply.power ∧
    (settleInputs s).supply.startStep = s.supply.startStep ∧ (settleInputs s).supply.cause = s.supply.cause ∧
    (settleInputs s).supply.resetHold = s.supply.resetHold ∧ (settleInputs s).supply.vsLow = s.supply.vsLow ∧
    (settleInputs s).supply.resetRemembered = s.supply.resetRemembered ∧
    (settleInputs s).supply.failed = s.supply.failed ∧ (settleInputs s).supply.batteryLow = s.supply.batteryLow ∧
    (settleInputs s).catchUp = s.catchUp ∧ (settleInputs s).pins = s.pins ∧ (settleInputs s).attn.bits = s.attn.bits ∧
    (settleInputs s).attn.busy = s.attn.busy := by
  simp [settleInputs]

/-! ## The credit engine -/

/-- What `deriveCredit` leaves alone. -/
@[simp] theorem deriveCredit_keeps (s : State) :
    (deriveCredit s).pending = s.pending ∧ (deriveCredit s).agenda = s.agenda ∧
    (deriveCredit s).link = s.link ∧ (deriveCredit s).mem = s.mem ∧ (deriveCredit s).intake = s.intake ∧
    (deriveCredit s).attn.mask = s.attn.mask ∧ (deriveCredit s).meter = s.meter ∧
    (deriveCredit s).energy = s.energy ∧ (deriveCredit s).clock = s.clock ∧ (deriveCredit s).book = s.book ∧
    (deriveCredit s).decoder = s.decoder ∧ (deriveCredit s).settings = s.settings ∧
    (deriveCredit s).window = s.window ∧ (deriveCredit s).tamper.caseIn = s.tamper.caseIn ∧
    (deriveCredit s).tamper.coverIn = s.tamper.coverIn ∧ (deriveCredit s).tamper.magIn = s.tamper.magIn ∧
    (deriveCredit s).battery = s.battery ∧ (deriveCredit s).store = s.store ∧ (deriveCredit s).supply = s.supply ∧
    (deriveCredit s).catchUp = s.catchUp ∧ (deriveCredit s).pins = s.pins ∧ (deriveCredit s).tamper.reason = s.tamper.reason ∧
    (deriveCredit s).attn.bits = s.attn.bits ∧ (deriveCredit s).attn.busy = s.attn.busy ∧
    (deriveCredit s).credit.account = s.credit.account := by
  unfold deriveCredit
  dsimp only
  split_ifs <;> simp [derivedCredit]

/-- What `intervalCharge` leaves alone. -/
@[simp] theorem intervalCharge_keeps (billed price band : Nat) (s : State) :
    (intervalCharge billed price band s).pending = s.pending ∧
    (intervalCharge billed price band s).agenda = s.agenda ∧
    (intervalCharge billed price band s).link = s.link ∧
    (intervalCharge billed price band s).mem = s.mem ∧ (intervalCharge billed price band s).intake = s.intake ∧
    (intervalCharge billed price band s).attn.mask = s.attn.mask ∧
    (intervalCharge billed price band s).meter = s.meter ∧ (intervalCharge billed price band s).energy = s.energy ∧
    (intervalCharge billed price band s).clock = s.clock ∧ (intervalCharge billed price band s).book = s.book ∧
    (intervalCharge billed price band s).decoder = s.decoder ∧
    (intervalCharge billed price band s).settings = s.settings ∧
    (intervalCharge billed price band s).window = s.window ∧
    (intervalCharge billed price band s).tamper.caseIn = s.tamper.caseIn ∧
    (intervalCharge billed price band s).tamper.coverIn = s.tamper.coverIn ∧
    (intervalCharge billed price band s).tamper.magIn = s.tamper.magIn ∧
    (intervalCharge billed price band s).battery = s.battery ∧
    (intervalCharge billed price band s).store = s.store ∧ (intervalCharge billed price band s).supply = s.supply ∧
    (intervalCharge billed price band s).catchUp = s.catchUp ∧ (intervalCharge billed price band s).pins = s.pins ∧
    (intervalCharge billed price band s).tamper.reason = s.tamper.reason ∧
    (intervalCharge billed price band s).attn.bits = s.attn.bits ∧
    (intervalCharge billed price band s).attn.busy = s.attn.busy := by
  simp [intervalCharge]

/-- What `creditDayEnd` leaves alone. -/
@[simp] theorem creditDayEnd_keeps (s : State) :
    (creditDayEnd s).pending = s.pending ∧ (creditDayEnd s).agenda = s.agenda ∧
    (creditDayEnd s).link = s.link ∧ (creditDayEnd s).mem = s.mem ∧ (creditDayEnd s).intake = s.intake ∧
    (creditDayEnd s).attn.mask = s.attn.mask ∧ (creditDayEnd s).meter = s.meter ∧
    (creditDayEnd s).energy = s.energy ∧ (creditDayEnd s).clock = s.clock ∧ (creditDayEnd s).book = s.book ∧
    (creditDayEnd s).decoder = s.decoder ∧ (creditDayEnd s).settings = s.settings ∧
    (creditDayEnd s).window = s.window ∧ (creditDayEnd s).tamper.caseIn = s.tamper.caseIn ∧
    (creditDayEnd s).tamper.coverIn = s.tamper.coverIn ∧ (creditDayEnd s).tamper.magIn = s.tamper.magIn ∧
    (creditDayEnd s).battery = s.battery ∧ (creditDayEnd s).store = s.store ∧ (creditDayEnd s).supply = s.supply ∧
    (creditDayEnd s).catchUp = s.catchUp ∧ (creditDayEnd s).pins = s.pins ∧ (creditDayEnd s).tamper.reason = s.tamper.reason ∧
    (creditDayEnd s).attn.bits = s.attn.bits ∧ (creditDayEnd s).attn.busy = s.attn.busy := by
  simp [creditDayEnd]

/-- What `decideEmergency` leaves alone. -/
@[simp] theorem decideEmergency_keeps (s : State) :
    (decideEmergency s).pending = s.pending ∧ (decideEmergency s).link = s.link ∧
    (decideEmergency s).attn.mask = s.attn.mask ∧ (decideEmergency s).meter = s.meter ∧
    (decideEmergency s).energy = s.energy ∧ (decideEmergency s).clock = s.clock ∧
    (decideEmergency s).book = s.book ∧ (decideEmergency s).decoder = s.decoder ∧
    (decideEmergency s).settings = s.settings ∧ (decideEmergency s).window = s.window ∧
    (decideEmergency s).tamper.caseIn = s.tamper.caseIn ∧ (decideEmergency s).tamper.coverIn = s.tamper.coverIn ∧
    (decideEmergency s).tamper.magIn = s.tamper.magIn ∧ (decideEmergency s).battery = s.battery ∧
    (decideEmergency s).store = s.store ∧ (decideEmergency s).supply = s.supply ∧
    (decideEmergency s).catchUp = s.catchUp ∧ (decideEmergency s).pins = s.pins ∧
    (decideEmergency s).tamper.reason = s.tamper.reason ∧
    (decideEmergency s).attn.bits = s.attn.bits ∧ (decideEmergency s).intake.ready = s.intake.ready := by
  unfold decideEmergency
  dsimp only
  split_ifs <;> simp

/-- What `decideFlagClear` leaves alone. -/
@[simp] theorem decideFlagClear_keeps (w : Work) (s : State) :
    (decideFlagClear w s).pending = s.pending ∧ (decideFlagClear w s).link = s.link ∧
    (decideFlagClear w s).attn.mask = s.attn.mask ∧ (decideFlagClear w s).meter = s.meter ∧
    (decideFlagClear w s).energy = s.energy ∧ (decideFlagClear w s).clock = s.clock ∧
    (decideFlagClear w s).book = s.book ∧ (decideFlagClear w s).decoder = s.decoder ∧
    (decideFlagClear w s).settings = s.settings ∧ (decideFlagClear w s).window = s.window ∧
    (decideFlagClear w s).switch = s.switch ∧ (decideFlagClear w s).tamper = s.tamper ∧
    (decideFlagClear w s).battery = s.battery ∧ (decideFlagClear w s).store = s.store ∧
    (decideFlagClear w s).supply = s.supply ∧ (decideFlagClear w s).catchUp = s.catchUp ∧ (decideFlagClear w s).pins = s.pins ∧
    (decideFlagClear w s).attn.bits = s.attn.bits ∧ (decideFlagClear w s).intake.ready = s.intake.ready := by
  unfold decideFlagClear
  dsimp only
  split_ifs <;> simp

/-! ## The service window -/

/-- What `endWindow` leaves alone. -/
@[simp] theorem endWindow_keeps (c : EndCause) (s : State) :
    (endWindow c s).pending = s.pending ∧ (endWindow c s).agenda = s.agenda ∧
    (endWindow c s).link = s.link ∧ (endWindow c s).mem = s.mem ∧ (endWindow c s).intake = s.intake ∧
    (endWindow c s).attn.mask = s.attn.mask ∧ (endWindow c s).meter = s.meter ∧ (endWindow c s).energy = s.energy ∧
    (endWindow c s).clock = s.clock ∧ (endWindow c s).book = s.book ∧ (endWindow c s).credit = s.credit ∧
    (endWindow c s).decoder = s.decoder ∧ (endWindow c s).settings = s.settings ∧
    (endWindow c s).tamper.caseIn = s.tamper.caseIn ∧ (endWindow c s).tamper.coverIn = s.tamper.coverIn ∧
    (endWindow c s).tamper.magIn = s.tamper.magIn ∧ (endWindow c s).battery = s.battery ∧
    (endWindow c s).store = s.store ∧ (endWindow c s).supply = s.supply ∧ (endWindow c s).catchUp = s.catchUp ∧
    (endWindow c s).pins = s.pins ∧
    (endWindow c s).tamper.reason = s.tamper.reason ∧ (endWindow c s).attn.bits = s.attn.bits ∧
    (endWindow c s).attn.busy = s.attn.busy ∧ (endWindow c s).switch.reasons = s.switch.reasons := by
  simp [endWindow]

/-- What `openWindow` leaves alone. -/
@[simp] theorem openWindow_keeps (rank seconds : Nat) (s : State) :
    (openWindow rank seconds s).pending = s.pending ∧ (openWindow rank seconds s).agenda = s.agenda ∧
    (openWindow rank seconds s).link = s.link ∧ (openWindow rank seconds s).mem = s.mem ∧
    (openWindow rank seconds s).intake = s.intake ∧ (openWindow rank seconds s).attn.mask = s.attn.mask ∧
    (openWindow rank seconds s).meter = s.meter ∧ (openWindow rank seconds s).energy = s.energy ∧
    (openWindow rank seconds s).clock = s.clock ∧ (openWindow rank seconds s).book = s.book ∧
    (openWindow rank seconds s).credit = s.credit ∧ (openWindow rank seconds s).decoder = s.decoder ∧
    (openWindow rank seconds s).settings = s.settings ∧
    (openWindow rank seconds s).tamper.caseIn = s.tamper.caseIn ∧
    (openWindow rank seconds s).tamper.coverIn = s.tamper.coverIn ∧
    (openWindow rank seconds s).tamper.magIn = s.tamper.magIn ∧ (openWindow rank seconds s).battery = s.battery ∧
    (openWindow rank seconds s).store = s.store ∧ (openWindow rank seconds s).supply = s.supply ∧
    (openWindow rank seconds s).catchUp = s.catchUp ∧ (openWindow rank seconds s).pins = s.pins ∧
    (openWindow rank seconds s).tamper.reason = s.tamper.reason ∧
    (openWindow rank seconds s).attn.bits = s.attn.bits ∧ (openWindow rank seconds s).attn.busy = s.attn.busy ∧
    (openWindow rank seconds s).switch.reasons = s.switch.reasons := by
  simp [openWindow]

/-- What `windowExpires` leaves alone. -/
@[simp] theorem windowExpires_keeps (s : State) :
    (windowExpires s).pending = s.pending ∧ (windowExpires s).agenda = s.agenda ∧
    (windowExpires s).link = s.link ∧ (windowExpires s).mem = s.mem ∧
    (windowExpires s).intake = s.intake ∧ (windowExpires s).attn.mask = s.attn.mask ∧
    (windowExpires s).meter = s.meter ∧ (windowExpires s).energy = s.energy ∧ (windowExpires s).clock = s.clock ∧
    (windowExpires s).book = s.book ∧ (windowExpires s).credit = s.credit ∧ (windowExpires s).decoder = s.decoder ∧
    (windowExpires s).settings = s.settings ∧ (windowExpires s).tamper.caseIn = s.tamper.caseIn ∧
    (windowExpires s).tamper.coverIn = s.tamper.coverIn ∧ (windowExpires s).tamper.magIn = s.tamper.magIn ∧
    (windowExpires s).battery = s.battery ∧ (windowExpires s).store = s.store ∧
    (windowExpires s).supply = s.supply ∧ (windowExpires s).catchUp = s.catchUp ∧ (windowExpires s).pins = s.pins ∧
    (windowExpires s).tamper.reason = s.tamper.reason ∧ (windowExpires s).attn.bits = s.attn.bits ∧
    (windowExpires s).attn.busy = s.attn.busy ∧ (windowExpires s).switch.reasons = s.switch.reasons := by
  unfold windowExpires
  split <;> simp

/-- What `holdupWindow` leaves alone. -/
@[simp] theorem holdupWindow_keeps (s : State) :
    (holdupWindow s).pending = s.pending ∧ (holdupWindow s).agenda = s.agenda ∧
    (holdupWindow s).link = s.link ∧ (holdupWindow s).mem = s.mem ∧ (holdupWindow s).intake = s.intake ∧
    (holdupWindow s).attn.mask = s.attn.mask ∧ (holdupWindow s).meter = s.meter ∧
    (holdupWindow s).energy = s.energy ∧ (holdupWindow s).clock = s.clock ∧ (holdupWindow s).book = s.book ∧
    (holdupWindow s).credit = s.credit ∧ (holdupWindow s).decoder = s.decoder ∧
    (holdupWindow s).settings = s.settings ∧ (holdupWindow s).tamper.caseIn = s.tamper.caseIn ∧
    (holdupWindow s).tamper.coverIn = s.tamper.coverIn ∧ (holdupWindow s).tamper.magIn = s.tamper.magIn ∧
    (holdupWindow s).battery = s.battery ∧ (holdupWindow s).store = s.store ∧ (holdupWindow s).supply = s.supply ∧
    (holdupWindow s).catchUp = s.catchUp ∧ (holdupWindow s).pins = s.pins ∧ (holdupWindow s).tamper.reason = s.tamper.reason ∧
    (holdupWindow s).attn.bits = s.attn.bits ∧ (holdupWindow s).attn.busy = s.attn.busy ∧
    (holdupWindow s).switch.reasons = s.switch.reasons := by
  unfold holdupWindow
  split <;> simp

/-- What `refuseAction` leaves alone. -/
@[simp] theorem refuseAction_keeps (w : Work) (s : State) :
    (refuseAction w s).pending = s.pending ∧ (refuseAction w s).link = s.link ∧
    (refuseAction w s).attn.mask = s.attn.mask ∧ (refuseAction w s).meter = s.meter ∧
    (refuseAction w s).energy = s.energy ∧ (refuseAction w s).clock = s.clock ∧ (refuseAction w s).book = s.book ∧
    (refuseAction w s).credit = s.credit ∧ (refuseAction w s).decoder = s.decoder ∧
    (refuseAction w s).settings = s.settings ∧ (refuseAction w s).window = s.window ∧
    (refuseAction w s).switch = s.switch ∧ (refuseAction w s).tamper = s.tamper ∧
    (refuseAction w s).battery = s.battery ∧ (refuseAction w s).store = s.store ∧
    (refuseAction w s).supply = s.supply ∧ (refuseAction w s).catchUp = s.catchUp ∧ (refuseAction w s).pins = s.pins ∧
    (refuseAction w s).attn.bits = s.attn.bits ∧ (refuseAction w s).intake.ready = s.intake.ready := by
  simp [refuseAction]

/-- What `decideDiscard` leaves alone. -/
@[simp] theorem decideDiscard_keeps (w : Work) (s : State) :
    (decideDiscard w s).pending = s.pending ∧ (decideDiscard w s).link = s.link ∧
    (decideDiscard w s).attn.mask = s.attn.mask ∧ (decideDiscard w s).meter = s.meter ∧
    (decideDiscard w s).energy = s.energy ∧ (decideDiscard w s).clock = s.clock ∧
    (decideDiscard w s).book = s.book ∧ (decideDiscard w s).credit = s.credit ∧
    (decideDiscard w s).decoder = s.decoder ∧ (decideDiscard w s).settings = s.settings ∧
    (decideDiscard w s).tamper.caseIn = s.tamper.caseIn ∧ (decideDiscard w s).tamper.coverIn = s.tamper.coverIn ∧
    (decideDiscard w s).tamper.magIn = s.tamper.magIn ∧ (decideDiscard w s).battery = s.battery ∧
    (decideDiscard w s).store = s.store ∧ (decideDiscard w s).supply = s.supply ∧
    (decideDiscard w s).catchUp = s.catchUp ∧ (decideDiscard w s).pins = s.pins ∧ (decideDiscard w s).attn.bits = s.attn.bits ∧
    (decideDiscard w s).intake.ready = s.intake.ready ∧ (decideDiscard w s).tamper.reason = s.tamper.reason ∧
    (decideDiscard w s).switch.reasons = s.switch.reasons := by
  unfold decideDiscard
  split <;> simp

/-- What `handSettings` leaves alone. -/
@[simp] theorem handSettings_keeps (old : Settings) (s : State) :
    (handSettings old s).pending = s.pending ∧ (handSettings old s).agenda = s.agenda ∧
    (handSettings old s).link = s.link ∧ (handSettings old s).mem = s.mem ∧
    (handSettings old s).intake = s.intake ∧ (handSettings old s).attn.mask = s.attn.mask ∧
    (handSettings old s).meter = s.meter ∧ (handSettings old s).energy = s.energy ∧
    (handSettings old s).clock = s.clock ∧ (handSettings old s).book = s.book ∧
    (handSettings old s).decoder = s.decoder ∧ (handSettings old s).settings = s.settings ∧
    (handSettings old s).window = s.window ∧ (handSettings old s).store = s.store ∧
    (handSettings old s).supply = s.supply ∧ (handSettings old s).catchUp = s.catchUp ∧ (handSettings old s).pins = s.pins ∧
    (handSettings old s).attn.bits = s.attn.bits ∧ (handSettings old s).attn.busy = s.attn.busy ∧
    (handSettings old s).credit.account = s.credit.account := by
  simp [handSettings]

/-- What `beginCommit` leaves alone. -/
@[simp] theorem beginCommit_keeps (p : Settings) (s : State) :
    (beginCommit p s).pending = s.pending ∧ (beginCommit p s).agenda = s.agenda ∧
    (beginCommit p s).link = s.link ∧ (beginCommit p s).mem = s.mem ∧
    (beginCommit p s).intake = s.intake ∧ (beginCommit p s).attn.mask = s.attn.mask ∧
    (beginCommit p s).meter = s.meter ∧ (beginCommit p s).energy = s.energy ∧ (beginCommit p s).clock = s.clock ∧
    (beginCommit p s).book = s.book ∧ (beginCommit p s).decoder = s.decoder ∧ (beginCommit p s).store = s.store ∧
    (beginCommit p s).supply = s.supply ∧ (beginCommit p s).catchUp = s.catchUp ∧ (beginCommit p s).pins = s.pins ∧
    (beginCommit p s).attn.bits = s.attn.bits ∧ (beginCommit p s).attn.busy = s.attn.busy ∧
    (beginCommit p s).credit.account = s.credit.account := by
  simp [beginCommit]

/-- What `decideCommit` leaves alone. -/
@[simp] theorem decideCommit_keeps (w : Work) (s : State) :
    (decideCommit w s).pending = s.pending ∧ (decideCommit w s).link = s.link ∧
    (decideCommit w s).attn.mask = s.attn.mask ∧ (decideCommit w s).meter = s.meter ∧
    (decideCommit w s).energy = s.energy ∧ (decideCommit w s).clock = s.clock ∧ (decideCommit w s).book = s.book ∧
    (decideCommit w s).decoder = s.decoder ∧ (decideCommit w s).store.image = s.store.image ∧
    (decideCommit w s).store.lastNumber = s.store.lastNumber ∧ (decideCommit w s).store.lastSet = s.store.lastSet ∧
    (decideCommit w s).supply.power = s.supply.power ∧ (decideCommit w s).supply.startStep = s.supply.startStep ∧
    (decideCommit w s).supply.cause = s.supply.cause ∧ (decideCommit w s).supply.resetHold = s.supply.resetHold ∧
    (decideCommit w s).supply.vsLow = s.supply.vsLow ∧
    (decideCommit w s).supply.resetRemembered = s.supply.resetRemembered ∧
    (decideCommit w s).supply.failed = s.supply.failed ∧
    (decideCommit w s).supply.batteryLow = s.supply.batteryLow ∧ (decideCommit w s).catchUp = s.catchUp ∧
    (decideCommit w s).pins = s.pins ∧
    (decideCommit w s).attn.bits = s.attn.bits ∧ (decideCommit w s).credit.account = s.credit.account ∧
    (decideCommit w s).intake.ready = s.intake.ready := by
  unfold decideCommit
  split <;> simp

/-! ## Operations of the contactor and the load limiter -/

/-- What `raiseFault` leaves alone. -/
@[simp] theorem raiseFault_keeps (s : State) :
    (raiseFault s).pending = s.pending ∧ (raiseFault s).agenda = s.agenda ∧
    (raiseFault s).link = s.link ∧ (raiseFault s).mem = s.mem ∧
    (raiseFault s).intake.list = s.intake.list ∧ (raiseFault s).intake.ready = s.intake.ready ∧
    (raiseFault s).attn.mask = s.attn.mask ∧ (raiseFault s).meter = s.meter ∧ (raiseFault s).energy = s.energy ∧
    (raiseFault s).clock = s.clock ∧ (raiseFault s).book = s.book ∧ (raiseFault s).credit = s.credit ∧
    (raiseFault s).decoder = s.decoder ∧ (raiseFault s).settings = s.settings ∧ (raiseFault s).window = s.window ∧
    (raiseFault s).tamper.caseIn = s.tamper.caseIn ∧ (raiseFault s).tamper.coverIn = s.tamper.coverIn ∧
    (raiseFault s).tamper.magIn = s.tamper.magIn ∧ (raiseFault s).battery = s.battery ∧
    (raiseFault s).store.image = s.store.image ∧ (raiseFault s).store.lastNumber = s.store.lastNumber ∧
    (raiseFault s).store.lastSet = s.store.lastSet ∧ (raiseFault s).supply.power = s.supply.power ∧
    (raiseFault s).supply.startStep = s.supply.startStep ∧ (raiseFault s).supply.cause = s.supply.cause ∧
    (raiseFault s).supply.resetHold = s.supply.resetHold ∧ (raiseFault s).supply.vsLow = s.supply.vsLow ∧
    (raiseFault s).supply.resetRemembered = s.supply.resetRemembered ∧
    (raiseFault s).supply.failed = s.supply.failed ∧ (raiseFault s).supply.batteryLow = s.supply.batteryLow ∧
    (raiseFault s).catchUp = s.catchUp ∧ (raiseFault s).pins = s.pins ∧ (raiseFault s).attn.bits = s.attn.bits ∧
    (raiseFault s).attn.busy = s.attn.busy := by
  unfold raiseFault
  split <;> simp

/-- What `openOrArmed` leaves alone. -/
@[simp] theorem openOrArmed_keeps (s : State) :
    (openOrArmed s).pending = s.pending ∧ (openOrArmed s).agenda = s.agenda ∧
    (openOrArmed s).link = s.link ∧ (openOrArmed s).mem = s.mem ∧ (openOrArmed s).intake = s.intake ∧
    (openOrArmed s).attn = s.attn ∧ (openOrArmed s).meter = s.meter ∧ (openOrArmed s).energy = s.energy ∧
    (openOrArmed s).clock = s.clock ∧ (openOrArmed s).book = s.book ∧ (openOrArmed s).credit = s.credit ∧
    (openOrArmed s).decoder = s.decoder ∧ (openOrArmed s).settings = s.settings ∧
    (openOrArmed s).window = s.window ∧ (openOrArmed s).tamper = s.tamper ∧ (openOrArmed s).battery = s.battery ∧
    (openOrArmed s).store = s.store ∧ (openOrArmed s).supply = s.supply ∧ (openOrArmed s).catchUp = s.catchUp ∧
    (openOrArmed s).pins = s.pins ∧
    (openOrArmed s).switch.reasons = s.switch.reasons ∧ (openOrArmed s).switch.friendly = s.switch.friendly ∧
    (openOrArmed s).switch.windowHold = s.switch.windowHold ∧ (openOrArmed s).switch.acting = s.switch.acting ∧
    (openOrArmed s).switch.kept = s.switch.kept := by
  simp [openOrArmed]

/-- What `openConfirmed` leaves alone. -/
@[simp] theorem openConfirmed_keeps (s : State) :
    (openConfirmed s).pending = s.pending ∧ (openConfirmed s).agenda = s.agenda ∧
    (openConfirmed s).link = s.link ∧ (openConfirmed s).mem = s.mem ∧
    (openConfirmed s).intake = s.intake ∧ (openConfirmed s).attn.mask = s.attn.mask ∧
    (openConfirmed s).meter = s.meter ∧ (openConfirmed s).energy = s.energy ∧ (openConfirmed s).clock = s.clock ∧
    (openConfirmed s).book = s.book ∧ (openConfirmed s).credit = s.credit ∧ (openConfirmed s).decoder = s.decoder ∧
    (openConfirmed s).settings = s.settings ∧ (openConfirmed s).window = s.window ∧
    (openConfirmed s).tamper.caseIn = s.tamper.caseIn ∧ (openConfirmed s).tamper.coverIn = s.tamper.coverIn ∧
    (openConfirmed s).tamper.magIn = s.tamper.magIn ∧ (openConfirmed s).battery = s.battery ∧
    (openConfirmed s).store = s.store ∧ (openConfirmed s).supply = s.supply ∧ (openConfirmed s).catchUp = s.catchUp ∧
    (openConfirmed s).pins = s.pins ∧
    (openConfirmed s).tamper.reason = s.tamper.reason ∧ (openConfirmed s).attn.bits = s.attn.bits ∧
    (openConfirmed s).attn.busy = s.attn.busy ∧ (openConfirmed s).switch.reasons = s.switch.reasons ∧
    (openConfirmed s).switch.friendly = s.switch.friendly ∧
    (openConfirmed s).switch.windowHold = s.switch.windowHold := by
  simp [openConfirmed]

/-- What `openFailed` leaves alone. -/
@[simp] theorem openFailed_keeps (s : State) :
    (openFailed s).pending = s.pending ∧ (openFailed s).agenda = s.agenda ∧
    (openFailed s).link = s.link ∧ (openFailed s).mem = s.mem ∧
    (openFailed s).intake.list = s.intake.list ∧ (openFailed s).intake.ready = s.intake.ready ∧
    (openFailed s).attn.mask = s.attn.mask ∧ (openFailed s).meter = s.meter ∧ (openFailed s).energy = s.energy ∧
    (openFailed s).clock = s.clock ∧ (openFailed s).book = s.book ∧ (openFailed s).credit = s.credit ∧
    (openFailed s).decoder = s.decoder ∧ (openFailed s).settings = s.settings ∧ (openFailed s).window = s.window ∧
    (openFailed s).tamper.caseIn = s.tamper.caseIn ∧ (openFailed s).tamper.coverIn = s.tamper.coverIn ∧
    (openFailed s).tamper.magIn = s.tamper.magIn ∧ (openFailed s).battery = s.battery ∧
    (openFailed s).store.image = s.store.image ∧ (openFailed s).store.lastNumber = s.store.lastNumber ∧
    (openFailed s).store.lastSet = s.store.lastSet ∧ (openFailed s).supply.power = s.supply.power ∧
    (openFailed s).supply.startStep = s.supply.startStep ∧ (openFailed s).supply.cause = s.supply.cause ∧
    (openFailed s).supply.resetHold = s.supply.resetHold ∧ (openFailed s).supply.vsLow = s.supply.vsLow ∧
    (openFailed s).supply.resetRemembered = s.supply.resetRemembered ∧
    (openFailed s).supply.failed = s.supply.failed ∧ (openFailed s).supply.batteryLow = s.supply.batteryLow ∧
    (openFailed s).catchUp = s.catchUp ∧ (openFailed s).pins = s.pins ∧ (openFailed s).attn.bits = s.attn.bits ∧
    (openFailed s).attn.busy = s.attn.busy := by
  simp [openFailed]

/-- What `closeConfirmed` leaves alone. -/
@[simp] theorem closeConfirmed_keeps (s : State) :
    (closeConfirmed s).pending = s.pending ∧ (closeConfirmed s).agenda = s.agenda ∧
    (closeConfirmed s).link = s.link ∧ (closeConfirmed s).mem = s.mem ∧
    (closeConfirmed s).intake = s.intake ∧ (closeConfirmed s).attn.mask = s.attn.mask ∧
    (closeConfirmed s).meter = s.meter ∧ (closeConfirmed s).energy = s.energy ∧
    (closeConfirmed s).clock = s.clock ∧ (closeConfirmed s).book = s.book ∧ (closeConfirmed s).credit = s.credit ∧
    (closeConfirmed s).decoder = s.decoder ∧ (closeConfirmed s).settings = s.settings ∧
    (closeConfirmed s).window = s.window ∧ (closeConfirmed s).tamper.caseIn = s.tamper.caseIn ∧
    (closeConfirmed s).tamper.coverIn = s.tamper.coverIn ∧ (closeConfirmed s).tamper.magIn = s.tamper.magIn ∧
    (closeConfirmed s).battery = s.battery ∧ (closeConfirmed s).store = s.store ∧
    (closeConfirmed s).supply = s.supply ∧ (closeConfirmed s).catchUp = s.catchUp ∧ (closeConfirmed s).pins = s.pins ∧
    (closeConfirmed s).tamper.reason = s.tamper.reason ∧ (closeConfirmed s).attn.bits = s.attn.bits ∧
    (closeConfirmed s).attn.busy = s.attn.busy ∧ (closeConfirmed s).switch.reasons = s.switch.reasons ∧
    (closeConfirmed s).switch.friendly = s.switch.friendly ∧
    (closeConfirmed s).switch.windowHold = s.switch.windowHold := by
  unfold closeConfirmed
  dsimp only
  split_ifs <;> simp

/-- What `closeFailed` leaves alone. -/
@[simp] theorem closeFailed_keeps (s : State) :
    (closeFailed s).pending = s.pending ∧ (closeFailed s).agenda = s.agenda ∧
    (closeFailed s).link = s.link ∧ (closeFailed s).mem = s.mem ∧
    (closeFailed s).intake.list = s.intake.list ∧ (closeFailed s).intake.ready = s.intake.ready ∧
    (closeFailed s).attn.mask = s.attn.mask ∧ (closeFailed s).meter = s.meter ∧ (closeFailed s).energy = s.energy ∧
    (closeFailed s).clock = s.clock ∧ (closeFailed s).book = s.book ∧ (closeFailed s).credit = s.credit ∧
    (closeFailed s).decoder = s.decoder ∧ (closeFailed s).settings = s.settings ∧
    (closeFailed s).window = s.window ∧ (closeFailed s).tamper.caseIn = s.tamper.caseIn ∧
    (closeFailed s).tamper.coverIn = s.tamper.coverIn ∧ (closeFailed s).tamper.magIn = s.tamper.magIn ∧
    (closeFailed s).battery = s.battery ∧ (closeFailed s).store.image = s.store.image ∧
    (closeFailed s).store.lastNumber = s.store.lastNumber ∧ (closeFailed s).store.lastSet = s.store.lastSet ∧
    (closeFailed s).supply.power = s.supply.power ∧ (closeFailed s).supply.startStep = s.supply.startStep ∧
    (closeFailed s).supply.cause = s.supply.cause ∧ (closeFailed s).supply.resetHold = s.supply.resetHold ∧
    (closeFailed s).supply.vsLow = s.supply.vsLow ∧
    (closeFailed s).supply.resetRemembered = s.supply.resetRemembered ∧
    (closeFailed s).supply.failed = s.supply.failed ∧ (closeFailed s).supply.batteryLow = s.supply.batteryLow ∧
    (closeFailed s).catchUp = s.catchUp ∧ (closeFailed s).pins = s.pins ∧ (closeFailed s).attn.bits = s.attn.bits ∧
    (closeFailed s).attn.busy = s.attn.busy := by
  simp [closeFailed]

/-- What `stuckAttemptFailed` leaves alone. -/
@[simp] theorem stuckAttemptFailed_keeps (s : State) :
    (stuckAttemptFailed s).pending = s.pending ∧ (stuckAttemptFailed s).agenda = s.agenda ∧
    (stuckAttemptFailed s).link = s.link ∧ (stuckAttemptFailed s).mem = s.mem ∧
    (stuckAttemptFailed s).intake = s.intake ∧ (stuckAttemptFailed s).attn.mask = s.attn.mask ∧
    (stuckAttemptFailed s).meter = s.meter ∧ (stuckAttemptFailed s).energy = s.energy ∧
    (stuckAttemptFailed s).clock = s.clock ∧ (stuckAttemptFailed s).book = s.book ∧
    (stuckAttemptFailed s).credit = s.credit ∧ (stuckAttemptFailed s).decoder = s.decoder ∧
    (stuckAttemptFailed s).settings = s.settings ∧ (stuckAttemptFailed s).window = s.window ∧
    (stuckAttemptFailed s).tamper.caseIn = s.tamper.caseIn ∧
    (stuckAttemptFailed s).tamper.coverIn = s.tamper.coverIn ∧
    (stuckAttemptFailed s).tamper.magIn = s.tamper.magIn ∧ (stuckAttemptFailed s).battery = s.battery ∧
    (stuckAttemptFailed s).store = s.store ∧ (stuckAttemptFailed s).supply = s.supply ∧
    (stuckAttemptFailed s).catchUp = s.catchUp ∧ (stuckAttemptFailed s).pins = s.pins ∧
    (stuckAttemptFailed s).tamper.reason = s.tamper.reason ∧
    (stuckAttemptFailed s).attn.bits = s.attn.bits ∧ (stuckAttemptFailed s).attn.busy = s.attn.busy ∧
    (stuckAttemptFailed s).switch.reasons = s.switch.reasons ∧
    (stuckAttemptFailed s).switch.friendly = s.switch.friendly ∧
    (stuckAttemptFailed s).switch.windowHold = s.switch.windowHold := by
  simp [stuckAttemptFailed]

/-- What `judgeAttempt` leaves alone. -/
@[simp] theorem judgeAttempt_keeps (s : State) :
    (judgeAttempt s).pending = s.pending ∧ (judgeAttempt s).agenda = s.agenda ∧
    (judgeAttempt s).link = s.link ∧ (judgeAttempt s).mem = s.mem ∧
    (judgeAttempt s).intake.list = s.intake.list ∧ (judgeAttempt s).intake.ready = s.intake.ready ∧
    (judgeAttempt s).attn.mask = s.attn.mask ∧ (judgeAttempt s).meter = s.meter ∧
    (judgeAttempt s).energy = s.energy ∧ (judgeAttempt s).clock = s.clock ∧ (judgeAttempt s).book = s.book ∧
    (judgeAttempt s).credit = s.credit ∧ (judgeAttempt s).decoder = s.decoder ∧
    (judgeAttempt s).settings = s.settings ∧ (judgeAttempt s).window = s.window ∧
    (judgeAttempt s).tamper.caseIn = s.tamper.caseIn ∧ (judgeAttempt s).tamper.coverIn = s.tamper.coverIn ∧
    (judgeAttempt s).tamper.magIn = s.tamper.magIn ∧ (judgeAttempt s).battery = s.battery ∧
    (judgeAttempt s).store.image = s.store.image ∧ (judgeAttempt s).store.lastNumber = s.store.lastNumber ∧
    (judgeAttempt s).store.lastSet = s.store.lastSet ∧ (judgeAttempt s).supply.power = s.supply.power ∧
    (judgeAttempt s).supply.startStep = s.supply.startStep ∧ (judgeAttempt s).supply.cause = s.supply.cause ∧
    (judgeAttempt s).supply.resetHold = s.supply.resetHold ∧ (judgeAttempt s).supply.vsLow = s.supply.vsLow ∧
    (judgeAttempt s).supply.resetRemembered = s.supply.resetRemembered ∧
    (judgeAttempt s).supply.failed = s.supply.failed ∧ (judgeAttempt s).supply.batteryLow = s.supply.batteryLow ∧
    (judgeAttempt s).catchUp = s.catchUp ∧ (judgeAttempt s).pins = s.pins ∧ (judgeAttempt s).attn.bits = s.attn.bits ∧
    (judgeAttempt s).attn.busy = s.attn.busy := by
  unfold judgeAttempt
  split
  · split_ifs <;> (try split) <;> simp
  · simp

/-- What `pulseEnds` leaves alone. -/
@[simp] theorem pulseEnds_keeps (s : State) :
    (pulseEnds s).pending = s.pending ∧ (pulseEnds s).agenda = s.agenda ∧ (pulseEnds s).link = s.link ∧
    (pulseEnds s).mem = s.mem ∧ (pulseEnds s).intake = s.intake ∧ (pulseEnds s).attn = s.attn ∧
    (pulseEnds s).meter = s.meter ∧ (pulseEnds s).energy = s.energy ∧ (pulseEnds s).clock = s.clock ∧
    (pulseEnds s).book = s.book ∧ (pulseEnds s).credit = s.credit ∧ (pulseEnds s).decoder = s.decoder ∧
    (pulseEnds s).settings = s.settings ∧ (pulseEnds s).window = s.window ∧ (pulseEnds s).tamper = s.tamper ∧
    (pulseEnds s).battery = s.battery ∧ (pulseEnds s).store = s.store ∧ (pulseEnds s).supply = s.supply ∧
    (pulseEnds s).catchUp = s.catchUp ∧ (pulseEnds s).pins = s.pins ∧ (pulseEnds s).switch.reasons = s.switch.reasons ∧
    (pulseEnds s).switch.friendly = s.switch.friendly ∧ (pulseEnds s).switch.windowHold = s.switch.windowHold ∧
    (pulseEnds s).switch.acting = s.switch.acting ∧ (pulseEnds s).switch.contactor = s.switch.contactor ∧
    (pulseEnds s).switch.kept = s.switch.kept := by
  unfold pulseEnds
  split <;> simp

/-- What `waitEnds` leaves alone. -/
@[simp] theorem waitEnds_keeps (s : State) :
    (waitEnds s).pending = s.pending ∧ (waitEnds s).agenda = s.agenda ∧ (waitEnds s).link = s.link ∧
    (waitEnds s).mem = s.mem ∧ (waitEnds s).intake = s.intake ∧ (waitEnds s).attn = s.attn ∧
    (waitEnds s).meter = s.meter ∧ (waitEnds s).energy = s.energy ∧ (waitEnds s).clock = s.clock ∧
    (waitEnds s).book = s.book ∧ (waitEnds s).credit = s.credit ∧ (waitEnds s).decoder = s.decoder ∧
    (waitEnds s).settings = s.settings ∧ (waitEnds s).window = s.window ∧ (waitEnds s).tamper = s.tamper ∧
    (waitEnds s).battery = s.battery ∧ (waitEnds s).store = s.store ∧ (waitEnds s).supply = s.supply ∧
    (waitEnds s).catchUp = s.catchUp ∧ (waitEnds s).pins = s.pins ∧ (waitEnds s).switch.reasons = s.switch.reasons ∧
    (waitEnds s).switch.friendly = s.switch.friendly ∧ (waitEnds s).switch.windowHold = s.switch.windowHold ∧
    (waitEnds s).switch.acting = s.switch.acting ∧ (waitEnds s).switch.contactor = s.switch.contactor ∧
    (waitEnds s).switch.kept = s.switch.kept := by
  unfold waitEnds
  split <;> simp

/-- What `stepStuckTimer` leaves alone. -/
@[simp] theorem stepStuckTimer_keeps (s : State) :
    (stepStuckTimer s).pending = s.pending ∧ (stepStuckTimer s).link = s.link ∧
    (stepStuckTimer s).mem = s.mem ∧ (stepStuckTimer s).intake = s.intake ∧ (stepStuckTimer s).attn = s.attn ∧
    (stepStuckTimer s).meter = s.meter ∧ (stepStuckTimer s).energy = s.energy ∧
    (stepStuckTimer s).clock = s.clock ∧ (stepStuckTimer s).book = s.book ∧ (stepStuckTimer s).credit = s.credit ∧
    (stepStuckTimer s).decoder = s.decoder ∧ (stepStuckTimer s).settings = s.settings ∧
    (stepStuckTimer s).window = s.window ∧ (stepStuckTimer s).tamper = s.tamper ∧
    (stepStuckTimer s).battery = s.battery ∧ (stepStuckTimer s).store = s.store ∧
    (stepStuckTimer s).supply = s.supply ∧ (stepStuckTimer s).catchUp = s.catchUp ∧ (stepStuckTimer s).pins = s.pins ∧
    (stepStuckTimer s).switch.reasons = s.switch.reasons ∧ (stepStuckTimer s).switch.friendly = s.switch.friendly ∧
    (stepStuckTimer s).switch.windowHold = s.switch.windowHold ∧
    (stepStuckTimer s).switch.acting = s.switch.acting ∧ (stepStuckTimer s).switch.contactor = s.switch.contactor ∧
    (stepStuckTimer s).switch.kept = s.switch.kept := by
  unfold stepStuckTimer
  dsimp only
  split_ifs <;> simp

/-- What `retryStuck` leaves alone. -/
@[simp] theorem retryStuck_keeps (s : State) :
    (retryStuck s).pending = s.pending ∧ (retryStuck s).agenda = s.agenda ∧
    (retryStuck s).link = s.link ∧ (retryStuck s).mem = s.mem ∧ (retryStuck s).intake = s.intake ∧
    (retryStuck s).attn = s.attn ∧ (retryStuck s).meter = s.meter ∧ (retryStuck s).energy = s.energy ∧
    (retryStuck s).clock = s.clock ∧ (retryStuck s).book = s.book ∧ (retryStuck s).credit = s.credit ∧
    (retryStuck s).decoder = s.decoder ∧ (retryStuck s).settings = s.settings ∧ (retryStuck s).window = s.window ∧
    (retryStuck s).tamper = s.tamper ∧ (retryStuck s).battery = s.battery ∧ (retryStuck s).store = s.store ∧
    (retryStuck s).supply = s.supply ∧ (retryStuck s).catchUp = s.catchUp ∧ (retryStuck s).pins = s.pins ∧
    (retryStuck s).switch.reasons = s.switch.reasons ∧ (retryStuck s).switch.friendly = s.switch.friendly ∧
    (retryStuck s).switch.windowHold = s.switch.windowHold ∧ (retryStuck s).switch.acting = s.switch.acting ∧
    (retryStuck s).switch.contactor = s.switch.contactor := by
  unfold retryStuck
  split <;> simp

/-- What `testStuck` leaves alone. -/
@[simp] theorem testStuck_keeps (s : State) :
    (testStuck s).pending = s.pending ∧ (testStuck s).agenda = s.agenda ∧ (testStuck s).link = s.link ∧
    (testStuck s).mem = s.mem ∧ (testStuck s).intake = s.intake ∧ (testStuck s).attn.mask = s.attn.mask ∧
    (testStuck s).meter = s.meter ∧ (testStuck s).energy = s.energy ∧ (testStuck s).clock = s.clock ∧
    (testStuck s).book = s.book ∧ (testStuck s).credit = s.credit ∧ (testStuck s).decoder = s.decoder ∧
    (testStuck s).settings = s.settings ∧ (testStuck s).window = s.window ∧
    (testStuck s).tamper.caseIn = s.tamper.caseIn ∧ (testStuck s).tamper.coverIn = s.tamper.coverIn ∧
    (testStuck s).tamper.magIn = s.tamper.magIn ∧ (testStuck s).battery = s.battery ∧
    (testStuck s).store = s.store ∧ (testStuck s).supply = s.supply ∧ (testStuck s).catchUp = s.catchUp ∧
    (testStuck s).pins = s.pins ∧
    (testStuck s).tamper.reason = s.tamper.reason ∧ (testStuck s).attn.bits = s.attn.bits ∧
    (testStuck s).attn.busy = s.attn.busy ∧ (testStuck s).switch.reasons = s.switch.reasons ∧
    (testStuck s).switch.friendly = s.switch.friendly ∧ (testStuck s).switch.windowHold = s.switch.windowHold ∧
    (testStuck s).switch.acting = s.switch.acting := by
  unfold testStuck
  split <;> simp

/-- What `weldArrives` leaves alone. -/
@[simp] theorem weldArrives_keeps (s : State) :
    (weldArrives s).pending = s.pending ∧ (weldArrives s).agenda = s.agenda ∧
    (weldArrives s).link = s.link ∧ (weldArrives s).mem = s.mem ∧
    (weldArrives s).intake.list = s.intake.list ∧ (weldArrives s).intake.ready = s.intake.ready ∧
    (weldArrives s).attn.mask = s.attn.mask ∧ (weldArrives s).energy = s.energy ∧ (weldArrives s).clock = s.clock ∧
    (weldArrives s).book = s.book ∧ (weldArrives s).credit = s.credit ∧ (weldArrives s).decoder = s.decoder ∧
    (weldArrives s).settings = s.settings ∧ (weldArrives s).window = s.window ∧
    (weldArrives s).tamper.caseIn = s.tamper.caseIn ∧ (weldArrives s).tamper.coverIn = s.tamper.coverIn ∧
    (weldArrives s).tamper.magIn = s.tamper.magIn ∧ (weldArrives s).battery = s.battery ∧
    (weldArrives s).store.image = s.store.image ∧ (weldArrives s).store.lastNumber = s.store.lastNumber ∧
    (weldArrives s).store.lastSet = s.store.lastSet ∧ (weldArrives s).supply.power = s.supply.power ∧
    (weldArrives s).supply.startStep = s.supply.startStep ∧ (weldArrives s).supply.cause = s.supply.cause ∧
    (weldArrives s).supply.resetHold = s.supply.resetHold ∧ (weldArrives s).supply.vsLow = s.supply.vsLow ∧
    (weldArrives s).supply.resetRemembered = s.supply.resetRemembered ∧
    (weldArrives s).supply.failed = s.supply.failed ∧ (weldArrives s).supply.batteryLow = s.supply.batteryLow ∧
    (weldArrives s).catchUp = s.catchUp ∧ (weldArrives s).pins = s.pins ∧ (weldArrives s).attn.bits = s.attn.bits ∧
    (weldArrives s).attn.busy = s.attn.busy := by
  unfold weldArrives
  dsimp only
  split_ifs <;> simp

/-- What `stepRetryTimer` leaves alone. -/
@[simp] theorem stepRetryTimer_keeps (s : State) :
    (stepRetryTimer s).pending = s.pending ∧ (stepRetryTimer s).link = s.link ∧
    (stepRetryTimer s).mem = s.mem ∧ (stepRetryTimer s).intake = s.intake ∧ (stepRetryTimer s).attn = s.attn ∧
    (stepRetryTimer s).meter = s.meter ∧ (stepRetryTimer s).energy = s.energy ∧
    (stepRetryTimer s).clock = s.clock ∧ (stepRetryTimer s).book = s.book ∧ (stepRetryTimer s).credit = s.credit ∧
    (stepRetryTimer s).decoder = s.decoder ∧ (stepRetryTimer s).settings = s.settings ∧
    (stepRetryTimer s).window = s.window ∧ (stepRetryTimer s).tamper = s.tamper ∧
    (stepRetryTimer s).battery = s.battery ∧ (stepRetryTimer s).store = s.store ∧
    (stepRetryTimer s).supply = s.supply ∧ (stepRetryTimer s).catchUp = s.catchUp ∧ (stepRetryTimer s).pins = s.pins ∧
    (stepRetryTimer s).switch.reasons = s.switch.reasons ∧ (stepRetryTimer s).switch.friendly = s.switch.friendly ∧
    (stepRetryTimer s).switch.windowHold = s.switch.windowHold ∧
    (stepRetryTimer s).switch.acting = s.switch.acting ∧ (stepRetryTimer s).switch.contactor = s.switch.contactor ∧
    (stepRetryTimer s).switch.kept = s.switch.kept := by
  unfold stepRetryTimer
  dsimp only
  split_ifs <;> simp

/-- What `retryExpires` leaves alone. -/
@[simp] theorem retryExpires_keeps (s : State) :
    (retryExpires s).pending = s.pending ∧ (retryExpires s).agenda = s.agenda ∧
    (retryExpires s).link = s.link ∧ (retryExpires s).mem = s.mem ∧ (retryExpires s).intake = s.intake ∧
    (retryExpires s).attn.mask = s.attn.mask ∧ (retryExpires s).meter = s.meter ∧
    (retryExpires s).energy = s.energy ∧ (retryExpires s).clock = s.clock ∧ (retryExpires s).book = s.book ∧
    (retryExpires s).credit = s.credit ∧ (retryExpires s).decoder = s.decoder ∧
    (retryExpires s).settings = s.settings ∧ (retryExpires s).window = s.window ∧
    (retryExpires s).tamper.caseIn = s.tamper.caseIn ∧ (retryExpires s).tamper.coverIn = s.tamper.coverIn ∧
    (retryExpires s).tamper.magIn = s.tamper.magIn ∧ (retryExpires s).battery = s.battery ∧
    (retryExpires s).store = s.store ∧ (retryExpires s).supply = s.supply ∧ (retryExpires s).catchUp = s.catchUp ∧
    (retryExpires s).pins = s.pins ∧
    (retryExpires s).tamper.reason = s.tamper.reason ∧ (retryExpires s).attn.bits = s.attn.bits ∧
    (retryExpires s).attn.busy = s.attn.busy ∧ (retryExpires s).switch.friendly = s.switch.friendly ∧
    (retryExpires s).switch.windowHold = s.switch.windowHold := by
  unfold retryExpires
  split <;> simp

/-- What `stepOverCount` leaves alone. -/
@[simp] theorem stepOverCount_keeps (s : State) :
    (stepOverCount s).pending = s.pending ∧ (stepOverCount s).link = s.link ∧
    (stepOverCount s).mem = s.mem ∧ (stepOverCount s).intake = s.intake ∧ (stepOverCount s).attn = s.attn ∧
    (stepOverCount s).meter = s.meter ∧ (stepOverCount s).energy = s.energy ∧ (stepOverCount s).clock = s.clock ∧
    (stepOverCount s).book = s.book ∧ (stepOverCount s).credit = s.credit ∧ (stepOverCount s).decoder = s.decoder ∧
    (stepOverCount s).settings = s.settings ∧ (stepOverCount s).window = s.window ∧
    (stepOverCount s).tamper = s.tamper ∧ (stepOverCount s).battery = s.battery ∧
    (stepOverCount s).store = s.store ∧ (stepOverCount s).supply = s.supply ∧ (stepOverCount s).catchUp = s.catchUp ∧
    (stepOverCount s).pins = s.pins ∧
    (stepOverCount s).switch.reasons = s.switch.reasons ∧ (stepOverCount s).switch.friendly = s.switch.friendly ∧
    (stepOverCount s).switch.windowHold = s.switch.windowHold ∧ (stepOverCount s).switch.acting = s.switch.acting ∧
    (stepOverCount s).switch.contactor = s.switch.contactor ∧ (stepOverCount s).switch.kept = s.switch.kept := by
  unfold stepOverCount
  dsimp only
  split_ifs <;> simp

/-- What `tripLimiter` leaves alone. -/
@[simp] theorem tripLimiter_keeps (s : State) :
    (tripLimiter s).pending = s.pending ∧ (tripLimiter s).agenda = s.agenda ∧
    (tripLimiter s).link = s.link ∧ (tripLimiter s).mem = s.mem ∧ (tripLimiter s).intake = s.intake ∧
    (tripLimiter s).attn.mask = s.attn.mask ∧ (tripLimiter s).meter = s.meter ∧ (tripLimiter s).energy = s.energy ∧
    (tripLimiter s).clock = s.clock ∧ (tripLimiter s).book = s.book ∧ (tripLimiter s).credit = s.credit ∧
    (tripLimiter s).decoder = s.decoder ∧ (tripLimiter s).settings = s.settings ∧
    (tripLimiter s).window = s.window ∧ (tripLimiter s).tamper.caseIn = s.tamper.caseIn ∧
    (tripLimiter s).tamper.coverIn = s.tamper.coverIn ∧ (tripLimiter s).tamper.magIn = s.tamper.magIn ∧
    (tripLimiter s).battery = s.battery ∧ (tripLimiter s).store = s.store ∧ (tripLimiter s).supply = s.supply ∧
    (tripLimiter s).catchUp = s.catchUp ∧ (tripLimiter s).pins = s.pins ∧ (tripLimiter s).tamper.reason = s.tamper.reason ∧
    (tripLimiter s).attn.bits = s.attn.bits ∧ (tripLimiter s).attn.busy = s.attn.busy ∧
    (tripLimiter s).switch.friendly = s.switch.friendly ∧
    (tripLimiter s).switch.windowHold = s.switch.windowHold := by
  simp [tripLimiter]

/-- What `stepCleanRun` leaves alone. -/
@[simp] theorem stepCleanRun_keeps (s : State) :
    (stepCleanRun s).pending = s.pending ∧ (stepCleanRun s).link = s.link ∧
    (stepCleanRun s).mem = s.mem ∧ (stepCleanRun s).intake = s.intake ∧ (stepCleanRun s).attn = s.attn ∧
    (stepCleanRun s).meter = s.meter ∧ (stepCleanRun s).energy = s.energy ∧ (stepCleanRun s).clock = s.clock ∧
    (stepCleanRun s).book = s.book ∧ (stepCleanRun s).credit = s.credit ∧ (stepCleanRun s).decoder = s.decoder ∧
    (stepCleanRun s).settings = s.settings ∧ (stepCleanRun s).window = s.window ∧
    (stepCleanRun s).tamper = s.tamper ∧ (stepCleanRun s).battery = s.battery ∧ (stepCleanRun s).store = s.store ∧
    (stepCleanRun s).supply = s.supply ∧ (stepCleanRun s).catchUp = s.catchUp ∧ (stepCleanRun s).pins = s.pins ∧
    (stepCleanRun s).switch.reasons = s.switch.reasons ∧ (stepCleanRun s).switch.friendly = s.switch.friendly ∧
    (stepCleanRun s).switch.windowHold = s.switch.windowHold ∧ (stepCleanRun s).switch.acting = s.switch.acting ∧
    (stepCleanRun s).switch.contactor = s.switch.contactor ∧ (stepCleanRun s).switch.kept = s.switch.kept := by
  unfold stepCleanRun
  dsimp only
  split_ifs <;> simp

/-- What `reconnectCloses` leaves alone. -/
@[simp] theorem reconnectCloses_keeps (s : State) :
    (reconnectCloses s).pending = s.pending ∧ (reconnectCloses s).agenda = s.agenda ∧
    (reconnectCloses s).link = s.link ∧ (reconnectCloses s).mem = s.mem ∧
    (reconnectCloses s).intake = s.intake ∧ (reconnectCloses s).attn.mask = s.attn.mask ∧
    (reconnectCloses s).meter = s.meter ∧ (reconnectCloses s).energy = s.energy ∧
    (reconnectCloses s).clock = s.clock ∧ (reconnectCloses s).book = s.book ∧
    (reconnectCloses s).credit = s.credit ∧ (reconnectCloses s).decoder = s.decoder ∧
    (reconnectCloses s).settings = s.settings ∧ (reconnectCloses s).window = s.window ∧
    (reconnectCloses s).tamper = s.tamper ∧ (reconnectCloses s).battery = s.battery ∧
    (reconnectCloses s).store = s.store ∧ (reconnectCloses s).supply = s.supply ∧
    (reconnectCloses s).catchUp = s.catchUp ∧ (reconnectCloses s).pins = s.pins ∧
    (reconnectCloses s).switch.reasons = s.switch.reasons ∧
    (reconnectCloses s).switch.friendly = s.switch.friendly ∧
    (reconnectCloses s).switch.windowHold = s.switch.windowHold ∧
    (reconnectCloses s).switch.acting = s.switch.acting ∧ (reconnectCloses s).attn.bits = s.attn.bits := by
  unfold reconnectCloses
  split <;> simp

/-- What `holdupSwitch` leaves alone. -/
@[simp] theorem holdupSwitch_keeps (s : State) :
    (holdupSwitch s).pending = s.pending ∧ (holdupSwitch s).agenda = s.agenda ∧
    (holdupSwitch s).link = s.link ∧ (holdupSwitch s).mem = s.mem ∧ (holdupSwitch s).intake = s.intake ∧
    (holdupSwitch s).attn = s.attn ∧ (holdupSwitch s).meter = s.meter ∧ (holdupSwitch s).energy = s.energy ∧
    (holdupSwitch s).clock = s.clock ∧ (holdupSwitch s).book = s.book ∧ (holdupSwitch s).credit = s.credit ∧
    (holdupSwitch s).decoder = s.decoder ∧ (holdupSwitch s).settings = s.settings ∧
    (holdupSwitch s).window = s.window ∧ (holdupSwitch s).tamper = s.tamper ∧
    (holdupSwitch s).battery = s.battery ∧ (holdupSwitch s).store = s.store ∧ (holdupSwitch s).supply = s.supply ∧
    (holdupSwitch s).catchUp = s.catchUp ∧ (holdupSwitch s).pins = s.pins ∧ (holdupSwitch s).switch.reasons = s.switch.reasons ∧
    (holdupSwitch s).switch.friendly = s.switch.friendly ∧
    (holdupSwitch s).switch.windowHold = s.switch.windowHold ∧ (holdupSwitch s).switch.acting = s.switch.acting ∧
    (holdupSwitch s).switch.contactor = s.switch.contactor ∧ (holdupSwitch s).switch.kept = s.switch.kept := by
  unfold holdupSwitch
  split <;> simp

/-- What `resumeSwitch` leaves alone. -/
@[simp] theorem resumeSwitch_keeps (s : State) :
    (resumeSwitch s).pending = s.pending ∧ (resumeSwitch s).agenda = s.agenda ∧
    (resumeSwitch s).link = s.link ∧ (resumeSwitch s).mem = s.mem ∧ (resumeSwitch s).intake = s.intake ∧
    (resumeSwitch s).attn = s.attn ∧ (resumeSwitch s).meter = s.meter ∧ (resumeSwitch s).energy = s.energy ∧
    (resumeSwitch s).clock = s.clock ∧ (resumeSwitch s).book = s.book ∧ (resumeSwitch s).credit = s.credit ∧
    (resumeSwitch s).decoder = s.decoder ∧ (resumeSwitch s).settings = s.settings ∧
    (resumeSwitch s).window = s.window ∧ (resumeSwitch s).tamper = s.tamper ∧
    (resumeSwitch s).battery = s.battery ∧ (resumeSwitch s).store = s.store ∧ (resumeSwitch s).supply = s.supply ∧
    (resumeSwitch s).catchUp = s.catchUp ∧ (resumeSwitch s).pins = s.pins ∧ (resumeSwitch s).switch.reasons = s.switch.reasons ∧
    (resumeSwitch s).switch.friendly = s.switch.friendly ∧
    (resumeSwitch s).switch.windowHold = s.switch.windowHold ∧ (resumeSwitch s).switch.acting = s.switch.acting ∧
    (resumeSwitch s).switch.contactor = s.switch.contactor := by
  unfold resumeSwitch
  split <;> simp

/-- What `findContactor` leaves alone. -/
@[simp] theorem findContactor_keeps (s : State) :
    (findContactor s).pending = s.pending ∧ (findContactor s).agenda = s.agenda ∧
    (findContactor s).link = s.link ∧ (findContactor s).mem = s.mem ∧
    (findContactor s).intake.list = s.intake.list ∧ (findContactor s).intake.ready = s.intake.ready ∧
    (findContactor s).attn.mask = s.attn.mask ∧ (findContactor s).meter = s.meter ∧
    (findContactor s).energy = s.energy ∧ (findContactor s).clock = s.clock ∧ (findContactor s).book = s.book ∧
    (findContactor s).credit = s.credit ∧ (findContactor s).decoder = s.decoder ∧
    (findContactor s).settings = s.settings ∧ (findContactor s).window = s.window ∧
    (findContactor s).tamper.caseIn = s.tamper.caseIn ∧ (findContactor s).tamper.coverIn = s.tamper.coverIn ∧
    (findContactor s).tamper.magIn = s.tamper.magIn ∧ (findContactor s).battery = s.battery ∧
    (findContactor s).store.image = s.store.image ∧ (findContactor s).store.lastNumber = s.store.lastNumber ∧
    (findContactor s).store.lastSet = s.store.lastSet ∧ (findContactor s).supply.power = s.supply.power ∧
    (findContactor s).supply.startStep = s.supply.startStep ∧ (findContactor s).supply.cause = s.supply.cause ∧
    (findContactor s).supply.resetHold = s.supply.resetHold ∧ (findContactor s).supply.vsLow = s.supply.vsLow ∧
    (findContactor s).supply.resetRemembered = s.supply.resetRemembered ∧
    (findContactor s).supply.failed = s.supply.failed ∧ (findContactor s).supply.batteryLow = s.supply.batteryLow ∧
    (findContactor s).catchUp = s.catchUp ∧ (findContactor s).pins = s.pins ∧ (findContactor s).attn.bits = s.attn.bits ∧
    (findContactor s).attn.busy = s.attn.busy := by
  unfold findContactor
  dsimp only
  split_ifs <;> simp

/-- What `handAtStart` leaves alone. -/
@[simp] theorem handAtStart_keeps (friendly : Bool) (s : State) :
    (handAtStart friendly s).pending = s.pending ∧ (handAtStart friendly s).agenda = s.agenda ∧
    (handAtStart friendly s).link = s.link ∧ (handAtStart friendly s).mem = s.mem ∧
    (handAtStart friendly s).intake = s.intake ∧ (handAtStart friendly s).attn.mask = s.attn.mask ∧
    (handAtStart friendly s).meter = s.meter ∧ (handAtStart friendly s).energy = s.energy ∧
    (handAtStart friendly s).clock = s.clock ∧ (handAtStart friendly s).book = s.book ∧
    (handAtStart friendly s).credit = s.credit ∧ (handAtStart friendly s).decoder = s.decoder ∧
    (handAtStart friendly s).settings = s.settings ∧ (handAtStart friendly s).window = s.window ∧
    (handAtStart friendly s).tamper.caseIn = s.tamper.caseIn ∧
    (handAtStart friendly s).tamper.coverIn = s.tamper.coverIn ∧
    (handAtStart friendly s).tamper.magIn = s.tamper.magIn ∧ (handAtStart friendly s).battery = s.battery ∧
    (handAtStart friendly s).store = s.store ∧ (handAtStart friendly s).supply = s.supply ∧
    (handAtStart friendly s).catchUp = s.catchUp ∧ (handAtStart friendly s).pins = s.pins ∧
    (handAtStart friendly s).tamper.reason = s.tamper.reason ∧
    (handAtStart friendly s).attn.bits = s.attn.bits ∧ (handAtStart friendly s).attn.busy = s.attn.busy := by
  simp [handAtStart]

/-! ## The tariff calendar -/

/-- What `issueDayEnd` leaves alone. -/
@[simp] theorem issueDayEnd_keeps (s : State) :
    (issueDayEnd s).pending = s.pending ∧ (issueDayEnd s).agenda = s.agenda ∧ (issueDayEnd s).link = s.link ∧
    (issueDayEnd s).mem = s.mem ∧ (issueDayEnd s).intake = s.intake ∧ (issueDayEnd s).attn.mask = s.attn.mask ∧
    (issueDayEnd s).meter = s.meter ∧ (issueDayEnd s).energy = s.energy ∧ (issueDayEnd s).clock = s.clock ∧
    (issueDayEnd s).settings = s.settings ∧ (issueDayEnd s).window = s.window ∧
    (issueDayEnd s).tamper.caseIn = s.tamper.caseIn ∧ (issueDayEnd s).tamper.coverIn = s.tamper.coverIn ∧
    (issueDayEnd s).tamper.magIn = s.tamper.magIn ∧ (issueDayEnd s).battery = s.battery ∧ (issueDayEnd s).store = s.store ∧
    (issueDayEnd s).supply = s.supply ∧ (issueDayEnd s).pins = s.pins ∧ (issueDayEnd s).tamper.reason = s.tamper.reason ∧
    (issueDayEnd s).attn.bits = s.attn.bits ∧ (issueDayEnd s).attn.busy = s.attn.busy := by
  simp [issueDayEnd]

/-- What `dayEnds` leaves alone. -/
@[simp] theorem dayEnds_keeps (n : Nat) (s : State) :
    (dayEnds n s).pending = s.pending ∧ (dayEnds n s).agenda = s.agenda ∧ (dayEnds n s).link = s.link ∧
    (dayEnds n s).mem = s.mem ∧ (dayEnds n s).intake = s.intake ∧ (dayEnds n s).attn.mask = s.attn.mask ∧
    (dayEnds n s).meter = s.meter ∧ (dayEnds n s).energy = s.energy ∧ (dayEnds n s).clock = s.clock ∧
    (dayEnds n s).settings = s.settings ∧ (dayEnds n s).window = s.window ∧
    (dayEnds n s).tamper.caseIn = s.tamper.caseIn ∧ (dayEnds n s).tamper.coverIn = s.tamper.coverIn ∧
    (dayEnds n s).tamper.magIn = s.tamper.magIn ∧ (dayEnds n s).battery = s.battery ∧
    (dayEnds n s).store = s.store ∧ (dayEnds n s).supply = s.supply ∧ (dayEnds n s).pins = s.pins ∧
    (dayEnds n s).tamper.reason = s.tamper.reason ∧ (dayEnds n s).attn.bits = s.attn.bits ∧
    (dayEnds n s).attn.busy = s.attn.busy := by
  induction n generalizing s with
  | zero => simp [dayEnds]
  | succ n ih => simp [dayEnds, ih]

/-- What `issueDays` leaves alone. -/
@[simp] theorem issueDays_keeps (n : Nat) (s : State) :
    (issueDays n s).pending = s.pending ∧ (issueDays n s).agenda = s.agenda ∧ (issueDays n s).link = s.link ∧
    (issueDays n s).mem = s.mem ∧ (issueDays n s).intake = s.intake ∧ (issueDays n s).attn.mask = s.attn.mask ∧
    (issueDays n s).meter = s.meter ∧ (issueDays n s).energy = s.energy ∧ (issueDays n s).clock = s.clock ∧
    (issueDays n s).settings = s.settings ∧ (issueDays n s).window = s.window ∧
    (issueDays n s).tamper.caseIn = s.tamper.caseIn ∧ (issueDays n s).tamper.coverIn = s.tamper.coverIn ∧
    (issueDays n s).tamper.magIn = s.tamper.magIn ∧ (issueDays n s).battery = s.battery ∧ (issueDays n s).store = s.store ∧
    (issueDays n s).supply = s.supply ∧ (issueDays n s).pins = s.pins ∧ (issueDays n s).tamper.reason = s.tamper.reason ∧
    (issueDays n s).attn.bits = s.attn.bits ∧ (issueDays n s).attn.busy = s.attn.busy := by
  unfold issueDays
  dsimp only
  split_ifs <;> simp

/-- What `catchUpGoesOn` leaves alone. -/
@[simp] theorem catchUpGoesOn_keeps (s : State) :
    (catchUpGoesOn s).pending = s.pending ∧ (catchUpGoesOn s).agenda = s.agenda ∧ (catchUpGoesOn s).link = s.link ∧
    (catchUpGoesOn s).mem = s.mem ∧ (catchUpGoesOn s).intake = s.intake ∧ (catchUpGoesOn s).attn.mask = s.attn.mask ∧
    (catchUpGoesOn s).meter = s.meter ∧ (catchUpGoesOn s).energy = s.energy ∧ (catchUpGoesOn s).clock = s.clock ∧
    (catchUpGoesOn s).settings = s.settings ∧ (catchUpGoesOn s).window = s.window ∧
    (catchUpGoesOn s).tamper.caseIn = s.tamper.caseIn ∧ (catchUpGoesOn s).tamper.coverIn = s.tamper.coverIn ∧
    (catchUpGoesOn s).tamper.magIn = s.tamper.magIn ∧ (catchUpGoesOn s).battery = s.battery ∧
    (catchUpGoesOn s).store = s.store ∧ (catchUpGoesOn s).supply = s.supply ∧ (catchUpGoesOn s).pins = s.pins ∧
    (catchUpGoesOn s).tamper.reason = s.tamper.reason ∧ (catchUpGoesOn s).attn.bits = s.attn.bits ∧
    (catchUpGoesOn s).attn.busy = s.attn.busy := by
  simp [catchUpGoesOn]

/-- What `newCatchUp` leaves alone. -/
@[simp] theorem newCatchUp_keeps (s : State) :
    (newCatchUp s).pending = s.pending ∧ (newCatchUp s).agenda = s.agenda ∧ (newCatchUp s).link = s.link ∧
    (newCatchUp s).mem = s.mem ∧ (newCatchUp s).intake = s.intake ∧ (newCatchUp s).attn = s.attn ∧
    (newCatchUp s).meter = s.meter ∧ (newCatchUp s).energy = s.energy ∧ (newCatchUp s).clock = s.clock ∧
    (newCatchUp s).book = s.book ∧ (newCatchUp s).credit = s.credit ∧ (newCatchUp s).decoder = s.decoder ∧
    (newCatchUp s).settings = s.settings ∧ (newCatchUp s).window = s.window ∧ (newCatchUp s).switch = s.switch ∧
    (newCatchUp s).tamper = s.tamper ∧ (newCatchUp s).battery = s.battery ∧ (newCatchUp s).store = s.store ∧
    (newCatchUp s).supply = s.supply ∧ (newCatchUp s).pins = s.pins := by
  simp [newCatchUp]

/-- What `catchUpWhole` leaves alone. -/
@[simp] theorem catchUpWhole_keeps (s : State) :
    (catchUpWhole s).pending = s.pending ∧ (catchUpWhole s).agenda = s.agenda ∧ (catchUpWhole s).link = s.link ∧
    (catchUpWhole s).mem = s.mem ∧
    (catchUpWhole s).intake = s.intake ∧ (catchUpWhole s).attn.mask = s.attn.mask ∧ (catchUpWhole s).meter = s.meter ∧
    (catchUpWhole s).energy = s.energy ∧ (catchUpWhole s).clock = s.clock ∧ (catchUpWhole s).settings = s.settings ∧
    (catchUpWhole s).window = s.window ∧ (catchUpWhole s).tamper.caseIn = s.tamper.caseIn ∧
    (catchUpWhole s).tamper.coverIn = s.tamper.coverIn ∧ (catchUpWhole s).tamper.magIn = s.tamper.magIn ∧
    (catchUpWhole s).battery = s.battery ∧ (catchUpWhole s).store = s.store ∧ (catchUpWhole s).supply = s.supply ∧
    (catchUpWhole s).pins = s.pins ∧ (catchUpWhole s).tamper.reason = s.tamper.reason ∧
    (catchUpWhole s).attn.bits = s.attn.bits ∧ (catchUpWhole s).attn.busy = s.attn.busy := by
  unfold catchUpWhole
  split_ifs <;> simp

/-- What `catchUp` leaves alone. -/
@[simp] theorem catchUp_keeps (s : State) :
    (catchUp s).pending = s.pending ∧ (catchUp s).agenda = s.agenda ∧ (catchUp s).link = s.link ∧ (catchUp s).mem = s.mem ∧
    (catchUp s).intake = s.intake ∧ (catchUp s).attn.mask = s.attn.mask ∧ (catchUp s).meter = s.meter ∧
    (catchUp s).energy = s.energy ∧ (catchUp s).clock = s.clock ∧ (catchUp s).settings = s.settings ∧
    (catchUp s).window = s.window ∧ (catchUp s).tamper.caseIn = s.tamper.caseIn ∧
    (catchUp s).tamper.coverIn = s.tamper.coverIn ∧ (catchUp s).tamper.magIn = s.tamper.magIn ∧
    (catchUp s).battery = s.battery ∧ (catchUp s).store = s.store ∧ (catchUp s).supply = s.supply ∧
    (catchUp s).pins = s.pins ∧ (catchUp s).tamper.reason = s.tamper.reason ∧ (catchUp s).attn.bits = s.attn.bits ∧
    (catchUp s).attn.busy = s.attn.busy := by
  unfold catchUp
  dsimp only
  split_ifs <;> simp

/-- What `catchUpThen` can do: what stands behind the catch-up follows at once, or day ends are left and it waits for them on
the agenda. -/
theorem catchUpThen_cases (later : List Due) (behind : State → State) (s : State) :
    catchUpThen later behind s = behind (catchUp s) ∨
      (catchingUp s = false ∧ 0 < daysLeft (catchUp s) ∧
        catchUpThen later behind s = onAgenda (fun a => .catchUp true :: (later ++ a)) (catchUp s)) := by
  unfold catchUpThen
  dsimp only
  split_ifs with h
  · exact .inl rfl
  · simp only [Bool.or_eq_true, decide_eq_true_eq, not_or, Bool.not_eq_true] at h
    exact .inr ⟨h.1, by omega, rfl⟩

/-- What `setOrCatchUp` leaves alone. -/
@[simp] theorem setOrCatchUp_keeps (s : State) :
    (setOrCatchUp s).pending = s.pending ∧ (setOrCatchUp s).agenda = s.agenda ∧
    (setOrCatchUp s).link = s.link ∧ (setOrCatchUp s).mem = s.mem ∧ (setOrCatchUp s).intake = s.intake ∧
    (setOrCatchUp s).attn.mask = s.attn.mask ∧ (setOrCatchUp s).meter = s.meter ∧
    (setOrCatchUp s).energy = s.energy ∧ (setOrCatchUp s).clock = s.clock ∧
    (setOrCatchUp s).settings = s.settings ∧ (setOrCatchUp s).window = s.window ∧
    (setOrCatchUp s).tamper.caseIn = s.tamper.caseIn ∧ (setOrCatchUp s).tamper.coverIn = s.tamper.coverIn ∧
    (setOrCatchUp s).tamper.magIn = s.tamper.magIn ∧ (setOrCatchUp s).battery = s.battery ∧
    (setOrCatchUp s).store = s.store ∧ (setOrCatchUp s).supply = s.supply ∧ (setOrCatchUp s).pins = s.pins ∧
    (setOrCatchUp s).tamper.reason = s.tamper.reason ∧ (setOrCatchUp s).attn.bits = s.attn.bits ∧
    (setOrCatchUp s).attn.busy = s.attn.busy := by
  unfold setOrCatchUp
  split
  · split_ifs <;> simp
  · simp

/-- What `evaluateFriendly` leaves alone. -/
@[simp] theorem evaluateFriendly_keeps (s : State) :
    (evaluateFriendly s).pending = s.pending ∧ (evaluateFriendly s).agenda = s.agenda ∧
    (evaluateFriendly s).link = s.link ∧ (evaluateFriendly s).mem = s.mem ∧
    (evaluateFriendly s).intake = s.intake ∧ (evaluateFriendly s).attn.mask = s.attn.mask ∧
    (evaluateFriendly s).meter = s.meter ∧ (evaluateFriendly s).energy = s.energy ∧
    (evaluateFriendly s).clock = s.clock ∧ (evaluateFriendly s).book = s.book ∧
    (evaluateFriendly s).credit = s.credit ∧ (evaluateFriendly s).decoder = s.decoder ∧
    (evaluateFriendly s).settings = s.settings ∧ (evaluateFriendly s).window = s.window ∧
    (evaluateFriendly s).tamper.caseIn = s.tamper.caseIn ∧ (evaluateFriendly s).tamper.coverIn = s.tamper.coverIn ∧
    (evaluateFriendly s).tamper.magIn = s.tamper.magIn ∧ (evaluateFriendly s).battery = s.battery ∧
    (evaluateFriendly s).store = s.store ∧ (evaluateFriendly s).supply = s.supply ∧
    (evaluateFriendly s).catchUp = s.catchUp ∧ (evaluateFriendly s).pins = s.pins ∧
    (evaluateFriendly s).tamper.reason = s.tamper.reason ∧
    (evaluateFriendly s).attn.bits = s.attn.bits ∧ (evaluateFriendly s).attn.busy = s.attn.busy ∧
    (evaluateFriendly s).switch.reasons = s.switch.reasons ∧
    (evaluateFriendly s).switch.windowHold = s.switch.windowHold := by
  unfold evaluateFriendly
  split <;> simp

/-- What `applyTime` leaves alone. -/
@[simp] theorem applyTime_keeps (new : Nat) (s : State) :
    (applyTime new s).pending = s.pending ∧ (applyTime new s).agenda = s.agenda ∧ (applyTime new s).link = s.link ∧
    (applyTime new s).mem = s.mem ∧ (applyTime new s).intake = s.intake ∧
    (applyTime new s).attn.mask = s.attn.mask ∧ (applyTime new s).meter = s.meter ∧
    (applyTime new s).energy = s.energy ∧ (applyTime new s).settings = s.settings ∧
    (applyTime new s).window = s.window ∧ (applyTime new s).tamper.caseIn = s.tamper.caseIn ∧
    (applyTime new s).tamper.coverIn = s.tamper.coverIn ∧ (applyTime new s).tamper.magIn = s.tamper.magIn ∧
    (applyTime new s).battery = s.battery ∧ (applyTime new s).store = s.store ∧ (applyTime new s).supply = s.supply ∧
    (applyTime new s).pins = s.pins ∧ (applyTime new s).tamper.reason = s.tamper.reason ∧
    (applyTime new s).attn.bits = s.attn.bits ∧ (applyTime new s).attn.busy = s.attn.busy := by
  simp [applyTime]

/-- What `decideTimeSet` leaves alone. -/
@[simp] theorem decideTimeSet_keeps (w : Work) (s : State) :
    (decideTimeSet w s).pending = s.pending ∧ (decideTimeSet w s).link = s.link ∧
    (decideTimeSet w s).attn.mask = s.attn.mask ∧ (decideTimeSet w s).meter = s.meter ∧
    (decideTimeSet w s).energy = s.energy ∧ (decideTimeSet w s).settings = s.settings ∧
    (decideTimeSet w s).window = s.window ∧ (decideTimeSet w s).tamper.caseIn = s.tamper.caseIn ∧
    (decideTimeSet w s).tamper.coverIn = s.tamper.coverIn ∧ (decideTimeSet w s).tamper.magIn = s.tamper.magIn ∧
    (decideTimeSet w s).battery = s.battery ∧ (decideTimeSet w s).store = s.store ∧
    (decideTimeSet w s).supply = s.supply ∧ (decideTimeSet w s).pins = s.pins ∧
    (decideTimeSet w s).tamper.reason = s.tamper.reason ∧ (decideTimeSet w s).attn.bits = s.attn.bits ∧
    (decideTimeSet w s).intake.ready = s.intake.ready := by
  unfold decideTimeSet
  dsimp only
  split_ifs <;> simp

/-- What `meterSecond` leaves alone. -/
@[simp] theorem meterSecond_keeps (p : SensePins) (s : State) :
    (meterSecond p s).pending = s.pending ∧ (meterSecond p s).link = s.link ∧ (meterSecond p s).mem = s.mem ∧
    (meterSecond p s).intake = s.intake ∧ (meterSecond p s).attn.mask = s.attn.mask ∧ (meterSecond p s).meter = s.meter ∧
    (meterSecond p s).energy = s.energy ∧ (meterSecond p s).settings = s.settings ∧ (meterSecond p s).window = s.window ∧
    (meterSecond p s).tamper.caseIn = s.tamper.caseIn ∧ (meterSecond p s).tamper.coverIn = s.tamper.coverIn ∧
    (meterSecond p s).tamper.magIn = s.tamper.magIn ∧ (meterSecond p s).store = s.store ∧
    (meterSecond p s).supply = s.supply ∧ (meterSecond p s).pins = s.pins ∧
    (meterSecond p s).tamper.reason = s.tamper.reason ∧ (meterSecond p s).attn.bits = s.attn.bits ∧
    (meterSecond p s).attn.busy = s.attn.busy := by
  unfold meterSecond
  split_ifs
  · simp
  · simp
  · rcases catchUpThen_cases [.friendly] evaluateFriendly (tick s) with h | ⟨-, -, h⟩ <;> simp [h]

/-- What `crystalStops` leaves alone. -/
@[simp] theorem crystalStops_keeps (s : State) :
    (crystalStops s).pending = s.pending ∧ (crystalStops s).agenda = s.agenda ∧
    (crystalStops s).link = s.link ∧ (crystalStops s).mem = s.mem ∧
    (crystalStops s).intake.list = s.intake.list ∧ (crystalStops s).intake.ready = s.intake.ready ∧
    (crystalStops s).attn.mask = s.attn.mask ∧ (crystalStops s).meter = s.meter ∧
    (crystalStops s).energy = s.energy ∧ (crystalStops s).book = s.book ∧ (crystalStops s).credit = s.credit ∧
    (crystalStops s).decoder = s.decoder ∧ (crystalStops s).settings = s.settings ∧
    (crystalStops s).window = s.window ∧ (crystalStops s).tamper.caseIn = s.tamper.caseIn ∧
    (crystalStops s).tamper.coverIn = s.tamper.coverIn ∧ (crystalStops s).tamper.magIn = s.tamper.magIn ∧
    (crystalStops s).battery = s.battery ∧ (crystalStops s).store.image = s.store.image ∧
    (crystalStops s).store.lastNumber = s.store.lastNumber ∧ (crystalStops s).store.lastSet = s.store.lastSet ∧
    (crystalStops s).supply.power = s.supply.power ∧ (crystalStops s).supply.startStep = s.supply.startStep ∧
    (crystalStops s).supply.cause = s.supply.cause ∧ (crystalStops s).supply.resetHold = s.supply.resetHold ∧
    (crystalStops s).supply.vsLow = s.supply.vsLow ∧
    (crystalStops s).supply.resetRemembered = s.supply.resetRemembered ∧
    (crystalStops s).supply.failed = s.supply.failed ∧ (crystalStops s).supply.batteryLow = s.supply.batteryLow ∧
    (crystalStops s).catchUp = s.catchUp ∧ (crystalStops s).pins = s.pins ∧ (crystalStops s).attn.bits = s.attn.bits ∧
    (crystalStops s).attn.busy = s.attn.busy := by
  unfold crystalStops
  dsimp only
  split_ifs <;> simp

/-- What `crystalReturns` leaves alone. -/
@[simp] theorem crystalReturns_keeps (s : State) :
    (crystalReturns s).pending = s.pending ∧ (crystalReturns s).agenda = s.agenda ∧
    (crystalReturns s).link = s.link ∧ (crystalReturns s).mem = s.mem ∧
    (crystalReturns s).intake = s.intake ∧ (crystalReturns s).attn = s.attn ∧ (crystalReturns s).meter = s.meter ∧
    (crystalReturns s).energy = s.energy ∧ (crystalReturns s).book = s.book ∧
    (crystalReturns s).credit = s.credit ∧ (crystalReturns s).decoder = s.decoder ∧
    (crystalReturns s).settings = s.settings ∧ (crystalReturns s).window = s.window ∧
    (crystalReturns s).switch = s.switch ∧ (crystalReturns s).tamper.caseIn = s.tamper.caseIn ∧
    (crystalReturns s).tamper.coverIn = s.tamper.coverIn ∧ (crystalReturns s).tamper.magIn = s.tamper.magIn ∧
    (crystalReturns s).battery = s.battery ∧ (crystalReturns s).store = s.store ∧
    (crystalReturns s).supply = s.supply ∧ (crystalReturns s).catchUp = s.catchUp ∧ (crystalReturns s).pins = s.pins ∧
    (crystalReturns s).tamper.reason = s.tamper.reason := by
  unfold crystalReturns
  split_ifs <;> simp

/-- What `applySubmit` leaves alone. -/
@[simp] theorem applySubmit_keeps (s : State) :
    (applySubmit s).pending = s.pending ∧ (applySubmit s).link = s.link ∧
    (applySubmit s).attn.mask = s.attn.mask ∧ (applySubmit s).meter = s.meter ∧ (applySubmit s).energy = s.energy ∧
    (applySubmit s).clock = s.clock ∧ (applySubmit s).credit = s.credit ∧ (applySubmit s).decoder = s.decoder ∧
    (applySubmit s).settings = s.settings ∧ (applySubmit s).window = s.window ∧ (applySubmit s).switch = s.switch ∧
    (applySubmit s).tamper = s.tamper ∧ (applySubmit s).battery = s.battery ∧
    (applySubmit s).store.image = s.store.image ∧ (applySubmit s).store.lastNumber = s.store.lastNumber ∧
    (applySubmit s).store.lastSet = s.store.lastSet ∧ (applySubmit s).supply.power = s.supply.power ∧
    (applySubmit s).supply.startStep = s.supply.startStep ∧ (applySubmit s).supply.cause = s.supply.cause ∧
    (applySubmit s).supply.resetHold = s.supply.resetHold ∧ (applySubmit s).supply.vsLow = s.supply.vsLow ∧
    (applySubmit s).supply.resetRemembered = s.supply.resetRemembered ∧
    (applySubmit s).supply.failed = s.supply.failed ∧ (applySubmit s).supply.batteryLow = s.supply.batteryLow ∧
    (applySubmit s).catchUp = s.catchUp ∧ (applySubmit s).pins = s.pins ∧ (applySubmit s).attn.bits = s.attn.bits ∧
    (applySubmit s).intake.ready = s.intake.ready := by
  unfold applySubmit
  split <;> simp

/-- What `activateDue` leaves alone. -/
@[simp] theorem activateDue_keeps (s : State) :
    (activateDue s).pending = s.pending ∧
    (activateDue s).link = s.link ∧ (activateDue s).mem = s.mem ∧
    (activateDue s).intake.list = s.intake.list ∧ (activateDue s).intake.ready = s.intake.ready ∧
    (activateDue s).attn.mask = s.attn.mask ∧ (activateDue s).meter = s.meter ∧ (activateDue s).energy = s.energy ∧
    (activateDue s).clock = s.clock ∧ (activateDue s).settings = s.settings ∧ (activateDue s).window = s.window ∧
    (activateDue s).tamper.caseIn = s.tamper.caseIn ∧ (activateDue s).tamper.coverIn = s.tamper.coverIn ∧
    (activateDue s).tamper.magIn = s.tamper.magIn ∧ (activateDue s).battery = s.battery ∧
    (activateDue s).store.image = s.store.image ∧ (activateDue s).store.lastNumber = s.store.lastNumber ∧
    (activateDue s).store.lastSet = s.store.lastSet ∧ (activateDue s).supply.power = s.supply.power ∧
    (activateDue s).supply.startStep = s.supply.startStep ∧ (activateDue s).supply.cause = s.supply.cause ∧
    (activateDue s).supply.resetHold = s.supply.resetHold ∧ (activateDue s).supply.vsLow = s.supply.vsLow ∧
    (activateDue s).supply.resetRemembered = s.supply.resetRemembered ∧
    (activateDue s).supply.failed = s.supply.failed ∧ (activateDue s).supply.batteryLow = s.supply.batteryLow ∧
    (activateDue s).pins = s.pins ∧ (activateDue s).tamper.reason = s.tamper.reason ∧
    (activateDue s).attn.bits = s.attn.bits ∧ (activateDue s).attn.busy = s.attn.busy := by
  unfold activateDue
  split
  · simp
  · next t _ =>
    split_ifs
    · rcases catchUpThen_cases [.friendly] evaluateFriendly (requestWrite
        (onBook (fun x => { x with active := { t with activation := 0 }, passive := none }) s)) with h | ⟨-, -, h⟩ <;>
        simp [h]
    · simp

/-- What `refuseBadCode` leaves alone. -/
@[simp] theorem refuseBadCode_keeps (r : Result) (s : State) :
    (refuseBadCode r s).pending = s.pending ∧ (refuseBadCode r s).link = s.link ∧
    (refuseBadCode r s).attn.mask = s.attn.mask ∧ (refuseBadCode r s).meter = s.meter ∧
    (refuseBadCode r s).energy = s.energy ∧ (refuseBadCode r s).clock = s.clock ∧
    (refuseBadCode r s).book = s.book ∧ (refuseBadCode r s).credit = s.credit ∧
    (refuseBadCode r s).settings = s.settings ∧ (refuseBadCode r s).window = s.window ∧
    (refuseBadCode r s).switch = s.switch ∧ (refuseBadCode r s).tamper = s.tamper ∧
    (refuseBadCode r s).battery = s.battery ∧ (refuseBadCode r s).store = s.store ∧
    (refuseBadCode r s).supply = s.supply ∧ (refuseBadCode r s).catchUp = s.catchUp ∧ (refuseBadCode r s).pins = s.pins ∧
    (refuseBadCode r s).attn.bits = s.attn.bits ∧ (refuseBadCode r s).intake.ready = s.intake.ready := by
  unfold refuseBadCode
  split <;> simp

/-- What `startLockout` leaves alone. -/
@[simp] theorem startLockout_keeps (s : State) :
    (startLockout s).pending = s.pending ∧ (startLockout s).agenda = s.agenda ∧
    (startLockout s).link = s.link ∧ (startLockout s).mem = s.mem ∧
    (startLockout s).intake.list = s.intake.list ∧ (startLockout s).intake.ready = s.intake.ready ∧
    (startLockout s).attn.mask = s.attn.mask ∧ (startLockout s).meter = s.meter ∧
    (startLockout s).energy = s.energy ∧ (startLockout s).clock = s.clock ∧ (startLockout s).book = s.book ∧
    (startLockout s).credit = s.credit ∧ (startLockout s).settings = s.settings ∧
    (startLockout s).window = s.window ∧ (startLockout s).tamper.caseIn = s.tamper.caseIn ∧
    (startLockout s).tamper.coverIn = s.tamper.coverIn ∧ (startLockout s).tamper.magIn = s.tamper.magIn ∧
    (startLockout s).battery = s.battery ∧ (startLockout s).store.image = s.store.image ∧
    (startLockout s).store.lastNumber = s.store.lastNumber ∧ (startLockout s).store.lastSet = s.store.lastSet ∧
    (startLockout s).supply.power = s.supply.power ∧ (startLockout s).supply.startStep = s.supply.startStep ∧
    (startLockout s).supply.cause = s.supply.cause ∧ (startLockout s).supply.resetHold = s.supply.resetHold ∧
    (startLockout s).supply.vsLow = s.supply.vsLow ∧
    (startLockout s).supply.resetRemembered = s.supply.resetRemembered ∧
    (startLockout s).supply.failed = s.supply.failed ∧ (startLockout s).supply.batteryLow = s.supply.batteryLow ∧
    (startLockout s).catchUp = s.catchUp ∧ (startLockout s).pins = s.pins ∧ (startLockout s).attn.bits = s.attn.bits ∧
    (startLockout s).attn.busy = s.attn.busy := by
  simp [startLockout]

/-- What `endLockout` leaves alone. -/
@[simp] theorem endLockout_keeps (s : State) :
    (endLockout s).pending = s.pending ∧ (endLockout s).agenda = s.agenda ∧
    (endLockout s).link = s.link ∧ (endLockout s).mem = s.mem ∧ (endLockout s).intake = s.intake ∧
    (endLockout s).attn = s.attn ∧ (endLockout s).meter = s.meter ∧ (endLockout s).energy = s.energy ∧
    (endLockout s).clock = s.clock ∧ (endLockout s).book = s.book ∧ (endLockout s).credit = s.credit ∧
    (endLockout s).settings = s.settings ∧ (endLockout s).window = s.window ∧ (endLockout s).switch = s.switch ∧
    (endLockout s).tamper.caseIn = s.tamper.caseIn ∧ (endLockout s).tamper.coverIn = s.tamper.coverIn ∧
    (endLockout s).tamper.magIn = s.tamper.magIn ∧ (endLockout s).battery = s.battery ∧
    (endLockout s).store = s.store ∧ (endLockout s).supply = s.supply ∧ (endLockout s).catchUp = s.catchUp ∧
    (endLockout s).pins = s.pins ∧
    (endLockout s).tamper.reason = s.tamper.reason := by
  simp [endLockout]

/-- What `decideToken` leaves alone. -/
@[simp] theorem decideToken_keeps (w : Work) (s : State) :
    (decideToken w s).pending = s.pending ∧ (decideToken w s).link = s.link ∧
    (decideToken w s).attn.mask = s.attn.mask ∧ (decideToken w s).meter = s.meter ∧
    (decideToken w s).energy = s.energy ∧ (decideToken w s).clock = s.clock ∧ (decideToken w s).book = s.book ∧
    (decideToken w s).credit = s.credit ∧ (decideToken w s).settings = s.settings ∧
    (decideToken w s).window = s.window ∧ (decideToken w s).switch = s.switch ∧
    (decideToken w s).tamper = s.tamper ∧ (decideToken w s).battery = s.battery ∧
    (decideToken w s).store = s.store ∧ (decideToken w s).supply = s.supply ∧ (decideToken w s).catchUp = s.catchUp ∧
    (decideToken w s).pins = s.pins ∧
    (decideToken w s).attn.bits = s.attn.bits ∧ (decideToken w s).intake.ready = s.intake.ready := by
  unfold decideToken
  dsimp only
  split_ifs <;> (try split) <;> simp

/-- What `refuseToken` leaves alone. -/
@[simp] theorem refuseToken_keeps (code : ResultCode) (item : Nat) (d : Decoded) (s : State) :
    (refuseToken code item d s).pending = s.pending ∧ (refuseToken code item d s).link = s.link ∧
    (refuseToken code item d s).attn.mask = s.attn.mask ∧ (refuseToken code item d s).meter = s.meter ∧
    (refuseToken code item d s).energy = s.energy ∧ (refuseToken code item d s).clock = s.clock ∧
    (refuseToken code item d s).book = s.book ∧ (refuseToken code item d s).credit = s.credit ∧
    (refuseToken code item d s).decoder = s.decoder ∧ (refuseToken code item d s).settings = s.settings ∧
    (refuseToken code item d s).window = s.window ∧ (refuseToken code item d s).switch = s.switch ∧
    (refuseToken code item d s).tamper = s.tamper ∧ (refuseToken code item d s).battery = s.battery ∧
    (refuseToken code item d s).store = s.store ∧ (refuseToken code item d s).supply = s.supply ∧
    (refuseToken code item d s).catchUp = s.catchUp ∧ (refuseToken code item d s).pins = s.pins ∧
    (refuseToken code item d s).attn.bits = s.attn.bits ∧
    (refuseToken code item d s).intake.ready = s.intake.ready := by
  simp [refuseToken]

/-- What `tokenFails` leaves alone. -/
@[simp] theorem tokenFails_keeps (s : State) :
    (tokenFails s).pending = s.pending ∧ (tokenFails s).link = s.link ∧
    (tokenFails s).attn.mask = s.attn.mask ∧ (tokenFails s).meter = s.meter ∧ (tokenFails s).energy = s.energy ∧
    (tokenFails s).clock = s.clock ∧ (tokenFails s).book = s.book ∧ (tokenFails s).credit = s.credit ∧
    (tokenFails s).settings = s.settings ∧ (tokenFails s).window = s.window ∧ (tokenFails s).switch = s.switch ∧
    (tokenFails s).tamper = s.tamper ∧ (tokenFails s).battery = s.battery ∧ (tokenFails s).store = s.store ∧
    (tokenFails s).supply = s.supply ∧ (tokenFails s).catchUp = s.catchUp ∧ (tokenFails s).pins = s.pins ∧
    (tokenFails s).attn.bits = s.attn.bits ∧
    (tokenFails s).intake.ready = s.intake.ready := by
  unfold tokenFails
  split
  · simp
  · split_ifs <;> simp

/-- What `recordToken` leaves alone. -/
@[simp] theorem recordToken_keeps (d : Decoded) (s : State) :
    (recordToken d s).pending = s.pending ∧ (recordToken d s).agenda = s.agenda ∧
    (recordToken d s).link = s.link ∧ (recordToken d s).mem = s.mem ∧
    (recordToken d s).intake = s.intake ∧ (recordToken d s).attn = s.attn ∧ (recordToken d s).meter = s.meter ∧
    (recordToken d s).energy = s.energy ∧ (recordToken d s).clock = s.clock ∧ (recordToken d s).book = s.book ∧
    (recordToken d s).credit = s.credit ∧ (recordToken d s).settings = s.settings ∧
    (recordToken d s).window = s.window ∧ (recordToken d s).switch = s.switch ∧
    (recordToken d s).tamper = s.tamper ∧ (recordToken d s).battery = s.battery ∧
    (recordToken d s).store = s.store ∧ (recordToken d s).supply = s.supply ∧ (recordToken d s).catchUp = s.catchUp ∧
    (recordToken d s).pins = s.pins ∧
    (recordToken d s).decoder.key0 = s.decoder.key0 ∧ (recordToken d s).decoder.key1 = s.decoder.key1 ∧
    (recordToken d s).decoder.key2 = s.decoder.key2 ∧ (recordToken d s).decoder.key3 = s.decoder.key3 ∧
    (recordToken d s).decoder.lockout = s.decoder.lockout ∧
    (recordToken d s).decoder.remoteOrder = s.decoder.remoteOrder := by
  simp [recordToken]

/-- What `spendSerial` leaves alone. -/
@[simp] theorem spendSerial_keeps (d : Decoded) (s : State) :
    (spendSerial d s).pending = s.pending ∧ (spendSerial d s).agenda = s.agenda ∧
    (spendSerial d s).link = s.link ∧ (spendSerial d s).mem = s.mem ∧
    (spendSerial d s).intake = s.intake ∧ (spendSerial d s).attn = s.attn ∧ (spendSerial d s).meter = s.meter ∧
    (spendSerial d s).energy = s.energy ∧ (spendSerial d s).clock = s.clock ∧ (spendSerial d s).book = s.book ∧
    (spendSerial d s).credit = s.credit ∧ (spendSerial d s).settings = s.settings ∧
    (spendSerial d s).window = s.window ∧ (spendSerial d s).switch = s.switch ∧
    (spendSerial d s).tamper = s.tamper ∧ (spendSerial d s).battery = s.battery ∧
    (spendSerial d s).store = s.store ∧ (spendSerial d s).supply = s.supply ∧ (spendSerial d s).catchUp = s.catchUp ∧
    (spendSerial d s).pins = s.pins := by
  simp [spendSerial]

/-- What `awaitWrite` leaves alone. -/
@[simp] theorem awaitWrite_keeps (r : Result) (s : State) :
    (awaitWrite r s).pending = s.pending ∧ (awaitWrite r s).agenda = s.agenda ∧
    (awaitWrite r s).link = s.link ∧ (awaitWrite r s).mem = s.mem ∧
    (awaitWrite r s).intake.list = s.intake.list ∧ (awaitWrite r s).intake.ready = s.intake.ready ∧
    (awaitWrite r s).attn = s.attn ∧ (awaitWrite r s).meter = s.meter ∧ (awaitWrite r s).energy = s.energy ∧
    (awaitWrite r s).clock = s.clock ∧ (awaitWrite r s).book = s.book ∧ (awaitWrite r s).credit = s.credit ∧
    (awaitWrite r s).decoder = s.decoder ∧ (awaitWrite r s).settings = s.settings ∧
    (awaitWrite r s).window = s.window ∧ (awaitWrite r s).switch = s.switch ∧ (awaitWrite r s).tamper = s.tamper ∧
    (awaitWrite r s).battery = s.battery ∧ (awaitWrite r s).store.image = s.store.image ∧
    (awaitWrite r s).store.lastNumber = s.store.lastNumber ∧ (awaitWrite r s).store.lastSet = s.store.lastSet ∧
    (awaitWrite r s).supply.power = s.supply.power ∧ (awaitWrite r s).supply.startStep = s.supply.startStep ∧
    (awaitWrite r s).supply.cause = s.supply.cause ∧ (awaitWrite r s).supply.resetHold = s.supply.resetHold ∧
    (awaitWrite r s).supply.vsLow = s.supply.vsLow ∧
    (awaitWrite r s).supply.resetRemembered = s.supply.resetRemembered ∧
    (awaitWrite r s).supply.failed = s.supply.failed ∧ (awaitWrite r s).supply.batteryLow = s.supply.batteryLow ∧
    (awaitWrite r s).catchUp = s.catchUp ∧ (awaitWrite r s).pins = s.pins := by
  simp [awaitWrite]

/-- What `acceptToken` leaves alone. -/
@[simp] theorem acceptToken_keeps (d : Decoded) (fields : List Byte) (s : State) :
    (acceptToken d fields s).pending = s.pending ∧ (acceptToken d fields s).agenda = s.agenda ∧
    (acceptToken d fields s).link = s.link ∧ (acceptToken d fields s).mem = s.mem ∧
    (acceptToken d fields s).intake.list = s.intake.list ∧ (acceptToken d fields s).intake.ready = s.intake.ready ∧
    (acceptToken d fields s).attn = s.attn ∧ (acceptToken d fields s).meter = s.meter ∧
    (acceptToken d fields s).energy = s.energy ∧ (acceptToken d fields s).clock = s.clock ∧
    (acceptToken d fields s).book = s.book ∧ (acceptToken d fields s).credit = s.credit ∧
    (acceptToken d fields s).settings = s.settings ∧ (acceptToken d fields s).window = s.window ∧
    (acceptToken d fields s).switch = s.switch ∧ (acceptToken d fields s).tamper = s.tamper ∧
    (acceptToken d fields s).battery = s.battery ∧ (acceptToken d fields s).store.image = s.store.image ∧
    (acceptToken d fields s).store.lastNumber = s.store.lastNumber ∧
    (acceptToken d fields s).store.lastSet = s.store.lastSet ∧
    (acceptToken d fields s).supply.power = s.supply.power ∧
    (acceptToken d fields s).supply.startStep = s.supply.startStep ∧
    (acceptToken d fields s).supply.cause = s.supply.cause ∧
    (acceptToken d fields s).supply.resetHold = s.supply.resetHold ∧
    (acceptToken d fields s).supply.vsLow = s.supply.vsLow ∧
    (acceptToken d fields s).supply.resetRemembered = s.supply.resetRemembered ∧
    (acceptToken d fields s).supply.failed = s.supply.failed ∧
    (acceptToken d fields s).supply.batteryLow = s.supply.batteryLow ∧ (acceptToken d fields s).catchUp = s.catchUp ∧
    (acceptToken d fields s).pins = s.pins := by
  simp [acceptToken]

/-- What `applyTest` leaves alone. -/
@[simp] theorem applyTest_keeps (d : Decoded) (s : State) :
    (applyTest d s).pending = s.pending ∧ (applyTest d s).link = s.link ∧
    (applyTest d s).attn.mask = s.attn.mask ∧ (applyTest d s).meter = s.meter ∧ (applyTest d s).energy = s.energy ∧
    (applyTest d s).clock = s.clock ∧ (applyTest d s).book = s.book ∧ (applyTest d s).credit = s.credit ∧
    (applyTest d s).settings = s.settings ∧ (applyTest d s).window = s.window ∧ (applyTest d s).switch = s.switch ∧
    (applyTest d s).tamper = s.tamper ∧ (applyTest d s).battery = s.battery ∧ (applyTest d s).store = s.store ∧
    (applyTest d s).supply = s.supply ∧ (applyTest d s).catchUp = s.catchUp ∧ (applyTest d s).pins = s.pins ∧
    (applyTest d s).attn.bits = s.attn.bits ∧
    (applyTest d s).intake.ready = s.intake.ready := by
  unfold applyTest
  split_ifs <;> simp

/-- What `applyDebtAdd` leaves alone. -/
@[simp] theorem applyDebtAdd_keeps (d : Decoded) (s : State) :
    (applyDebtAdd d s).pending = s.pending ∧ (applyDebtAdd d s).link = s.link ∧
    (applyDebtAdd d s).attn.mask = s.attn.mask ∧ (applyDebtAdd d s).meter = s.meter ∧
    (applyDebtAdd d s).energy = s.energy ∧ (applyDebtAdd d s).clock = s.clock ∧ (applyDebtAdd d s).book = s.book ∧
    (applyDebtAdd d s).settings = s.settings ∧ (applyDebtAdd d s).window = s.window ∧
    (applyDebtAdd d s).battery = s.battery ∧ (applyDebtAdd d s).store.image = s.store.image ∧
    (applyDebtAdd d s).store.lastNumber = s.store.lastNumber ∧ (applyDebtAdd d s).store.lastSet = s.store.lastSet ∧
    (applyDebtAdd d s).supply.power = s.supply.power ∧ (applyDebtAdd d s).supply.startStep = s.supply.startStep ∧
    (applyDebtAdd d s).supply.cause = s.supply.cause ∧ (applyDebtAdd d s).supply.resetHold = s.supply.resetHold ∧
    (applyDebtAdd d s).supply.vsLow = s.supply.vsLow ∧
    (applyDebtAdd d s).supply.resetRemembered = s.supply.resetRemembered ∧
    (applyDebtAdd d s).supply.failed = s.supply.failed ∧
    (applyDebtAdd d s).supply.batteryLow = s.supply.batteryLow ∧ (applyDebtAdd d s).catchUp = s.catchUp ∧
    (applyDebtAdd d s).pins = s.pins ∧
    (applyDebtAdd d s).attn.bits = s.attn.bits ∧ (applyDebtAdd d s).intake.ready = s.intake.ready := by
  unfold applyDebtAdd
  dsimp only
  split_ifs <;> simp

/-- What `applyClear` leaves alone. -/
@[simp] theorem applyClear_keeps (d : Decoded) (s : State) :
    (applyClear d s).pending = s.pending ∧ (applyClear d s).link = s.link ∧
    (applyClear d s).attn.mask = s.attn.mask ∧ (applyClear d s).meter = s.meter ∧
    (applyClear d s).energy = s.energy ∧ (applyClear d s).clock = s.clock ∧ (applyClear d s).book = s.book ∧
    (applyClear d s).settings = s.settings ∧ (applyClear d s).window = s.window ∧
    (applyClear d s).battery = s.battery ∧ (applyClear d s).store.image = s.store.image ∧
    (applyClear d s).store.lastNumber = s.store.lastNumber ∧ (applyClear d s).store.lastSet = s.store.lastSet ∧
    (applyClear d s).supply.power = s.supply.power ∧ (applyClear d s).supply.startStep = s.supply.startStep ∧
    (applyClear d s).supply.cause = s.supply.cause ∧ (applyClear d s).supply.resetHold = s.supply.resetHold ∧
    (applyClear d s).supply.vsLow = s.supply.vsLow ∧
    (applyClear d s).supply.resetRemembered = s.supply.resetRemembered ∧
    (applyClear d s).supply.failed = s.supply.failed ∧ (applyClear d s).supply.batteryLow = s.supply.batteryLow ∧
    (applyClear d s).catchUp = s.catchUp ∧ (applyClear d s).pins = s.pins ∧ (applyClear d s).attn.bits = s.attn.bits ∧
    (applyClear d s).intake.ready = s.intake.ready := by
  unfold applyClear
  split_ifs <;> simp

/-- What `applySetting` leaves alone. -/
@[simp] theorem applySetting_keeps (d : Decoded) (s : State) :
    (applySetting d s).pending = s.pending ∧ (applySetting d s).link = s.link ∧
    (applySetting d s).attn.mask = s.attn.mask ∧ (applySetting d s).meter = s.meter ∧
    (applySetting d s).energy = s.energy ∧ (applySetting d s).clock = s.clock ∧ (applySetting d s).book = s.book ∧
    (applySetting d s).credit = s.credit ∧ (applySetting d s).settings = s.settings ∧
    (applySetting d s).switch = s.switch ∧ (applySetting d s).tamper = s.tamper ∧
    (applySetting d s).battery = s.battery ∧ (applySetting d s).store.image = s.store.image ∧
    (applySetting d s).store.lastNumber = s.store.lastNumber ∧ (applySetting d s).store.lastSet = s.store.lastSet ∧
    (applySetting d s).supply.power = s.supply.power ∧ (applySetting d s).supply.startStep = s.supply.startStep ∧
    (applySetting d s).supply.cause = s.supply.cause ∧ (applySetting d s).supply.resetHold = s.supply.resetHold ∧
    (applySetting d s).supply.vsLow = s.supply.vsLow ∧
    (applySetting d s).supply.resetRemembered = s.supply.resetRemembered ∧
    (applySetting d s).supply.failed = s.supply.failed ∧
    (applySetting d s).supply.batteryLow = s.supply.batteryLow ∧ (applySetting d s).catchUp = s.catchUp ∧
    (applySetting d s).pins = s.pins ∧
    (applySetting d s).attn.bits = s.attn.bits ∧ (applySetting d s).intake.ready = s.intake.ready := by
  unfold applySetting
  dsimp only
  split <;> (try split_ifs) <;> simp

/-- What `applyWindowOpen` leaves alone. -/
@[simp] theorem applyWindowOpen_keeps (d : Decoded) (s : State) :
    (applyWindowOpen d s).pending = s.pending ∧ (applyWindowOpen d s).link = s.link ∧
    (applyWindowOpen d s).attn.mask = s.attn.mask ∧ (applyWindowOpen d s).meter = s.meter ∧
    (applyWindowOpen d s).energy = s.energy ∧ (applyWindowOpen d s).clock = s.clock ∧
    (applyWindowOpen d s).book = s.book ∧ (applyWindowOpen d s).credit = s.credit ∧
    (applyWindowOpen d s).settings = s.settings ∧ (applyWindowOpen d s).battery = s.battery ∧
    (applyWindowOpen d s).store.image = s.store.image ∧
    (applyWindowOpen d s).store.lastNumber = s.store.lastNumber ∧
    (applyWindowOpen d s).store.lastSet = s.store.lastSet ∧ (applyWindowOpen d s).supply.power = s.supply.power ∧
    (applyWindowOpen d s).supply.startStep = s.supply.startStep ∧
    (applyWindowOpen d s).supply.cause = s.supply.cause ∧
    (applyWindowOpen d s).supply.resetHold = s.supply.resetHold ∧
    (applyWindowOpen d s).supply.vsLow = s.supply.vsLow ∧
    (applyWindowOpen d s).supply.resetRemembered = s.supply.resetRemembered ∧
    (applyWindowOpen d s).supply.failed = s.supply.failed ∧
    (applyWindowOpen d s).supply.batteryLow = s.supply.batteryLow ∧ (applyWindowOpen d s).catchUp = s.catchUp ∧
    (applyWindowOpen d s).pins = s.pins ∧
    (applyWindowOpen d s).attn.bits = s.attn.bits ∧ (applyWindowOpen d s).intake.ready = s.intake.ready := by
  unfold applyWindowOpen
  split_ifs <;> simp

/-- What `applyTamperClear` leaves alone. -/
@[simp] theorem applyTamperClear_keeps (d : Decoded) (s : State) :
    (applyTamperClear d s).pending = s.pending ∧ (applyTamperClear d s).link = s.link ∧
    (applyTamperClear d s).attn.mask = s.attn.mask ∧ (applyTamperClear d s).meter = s.meter ∧
    (applyTamperClear d s).energy = s.energy ∧ (applyTamperClear d s).clock = s.clock ∧
    (applyTamperClear d s).book = s.book ∧ (applyTamperClear d s).credit = s.credit ∧
    (applyTamperClear d s).settings = s.settings ∧ (applyTamperClear d s).window = s.window ∧
    (applyTamperClear d s).battery = s.battery ∧ (applyTamperClear d s).store.image = s.store.image ∧
    (applyTamperClear d s).store.lastNumber = s.store.lastNumber ∧
    (applyTamperClear d s).store.lastSet = s.store.lastSet ∧ (applyTamperClear d s).supply.power = s.supply.power ∧
    (applyTamperClear d s).supply.startStep = s.supply.startStep ∧
    (applyTamperClear d s).supply.cause = s.supply.cause ∧
    (applyTamperClear d s).supply.resetHold = s.supply.resetHold ∧
    (applyTamperClear d s).supply.vsLow = s.supply.vsLow ∧
    (applyTamperClear d s).supply.resetRemembered = s.supply.resetRemembered ∧
    (applyTamperClear d s).supply.failed = s.supply.failed ∧
    (applyTamperClear d s).supply.batteryLow = s.supply.batteryLow ∧ (applyTamperClear d s).catchUp = s.catchUp ∧
    (applyTamperClear d s).pins = s.pins ∧
    (applyTamperClear d s).attn.bits = s.attn.bits ∧ (applyTamperClear d s).intake.ready = s.intake.ready := by
  unfold applyTamperClear
  split_ifs <;> simp

/-- What `applyKeyChange` leaves alone. -/
@[simp] theorem applyKeyChange_keeps (d : Decoded) (s : State) :
    (applyKeyChange d s).pending = s.pending ∧ (applyKeyChange d s).link = s.link ∧
    (applyKeyChange d s).attn.mask = s.attn.mask ∧ (applyKeyChange d s).meter = s.meter ∧
    (applyKeyChange d s).energy = s.energy ∧ (applyKeyChange d s).clock = s.clock ∧
    (applyKeyChange d s).book = s.book ∧ (applyKeyChange d s).credit = s.credit ∧
    (applyKeyChange d s).settings = s.settings ∧ (applyKeyChange d s).window = s.window ∧
    (applyKeyChange d s).switch = s.switch ∧ (applyKeyChange d s).tamper = s.tamper ∧
    (applyKeyChange d s).battery = s.battery ∧ (applyKeyChange d s).store.image = s.store.image ∧
    (applyKeyChange d s).store.lastNumber = s.store.lastNumber ∧
    (applyKeyChange d s).store.lastSet = s.store.lastSet ∧ (applyKeyChange d s).supply.power = s.supply.power ∧
    (applyKeyChange d s).supply.startStep = s.supply.startStep ∧
    (applyKeyChange d s).supply.cause = s.supply.cause ∧
    (applyKeyChange d s).supply.resetHold = s.supply.resetHold ∧
    (applyKeyChange d s).supply.vsLow = s.supply.vsLow ∧
    (applyKeyChange d s).supply.resetRemembered = s.supply.resetRemembered ∧
    (applyKeyChange d s).supply.failed = s.supply.failed ∧
    (applyKeyChange d s).supply.batteryLow = s.supply.batteryLow ∧ (applyKeyChange d s).catchUp = s.catchUp ∧
    (applyKeyChange d s).pins = s.pins ∧
    (applyKeyChange d s).attn.bits = s.attn.bits ∧ (applyKeyChange d s).intake.ready = s.intake.ready := by
  unfold applyKeyChange
  dsimp only
  split_ifs <;> simp

/-- What `applyRemote` leaves alone. -/
@[simp] theorem applyRemote_keeps (on : Bool) (d : Decoded) (s : State) :
    (applyRemote on d s).pending = s.pending ∧ (applyRemote on d s).link = s.link ∧
    (applyRemote on d s).attn.mask = s.attn.mask ∧ (applyRemote on d s).meter = s.meter ∧
    (applyRemote on d s).energy = s.energy ∧ (applyRemote on d s).clock = s.clock ∧
    (applyRemote on d s).book = s.book ∧ (applyRemote on d s).credit = s.credit ∧
    (applyRemote on d s).settings = s.settings ∧ (applyRemote on d s).window = s.window ∧
    (applyRemote on d s).battery = s.battery ∧ (applyRemote on d s).store.image = s.store.image ∧
    (applyRemote on d s).store.lastNumber = s.store.lastNumber ∧
    (applyRemote on d s).store.lastSet = s.store.lastSet ∧ (applyRemote on d s).supply.power = s.supply.power ∧
    (applyRemote on d s).supply.startStep = s.supply.startStep ∧
    (applyRemote on d s).supply.cause = s.supply.cause ∧
    (applyRemote on d s).supply.resetHold = s.supply.resetHold ∧
    (applyRemote on d s).supply.vsLow = s.supply.vsLow ∧
    (applyRemote on d s).supply.resetRemembered = s.supply.resetRemembered ∧
    (applyRemote on d s).supply.failed = s.supply.failed ∧
    (applyRemote on d s).supply.batteryLow = s.supply.batteryLow ∧ (applyRemote on d s).catchUp = s.catchUp ∧
    (applyRemote on d s).pins = s.pins ∧
    (applyRemote on d s).attn.bits = s.attn.bits ∧ (applyRemote on d s).intake.ready = s.intake.ready := by
  unfold applyRemote
  split_ifs <;> simp

/-! ## The metering engine -/

/-- What `markSaturation` leaves alone. -/
@[simp] theorem markSaturation_keeps (e : Phases Int) (s : State) :
    (markSaturation e s).pending = s.pending ∧ (markSaturation e s).agenda = s.agenda ∧
    (markSaturation e s).link = s.link ∧ (markSaturation e s).mem = s.mem ∧
    (markSaturation e s).intake = s.intake ∧ (markSaturation e s).attn = s.attn ∧
    (markSaturation e s).meter = s.meter ∧ (markSaturation e s).energy = s.energy ∧
    (markSaturation e s).clock = s.clock ∧ (markSaturation e s).book = s.book ∧
    (markSaturation e s).decoder = s.decoder ∧ (markSaturation e s).settings = s.settings ∧
    (markSaturation e s).window = s.window ∧ (markSaturation e s).switch = s.switch ∧
    (markSaturation e s).tamper = s.tamper ∧ (markSaturation e s).battery = s.battery ∧
    (markSaturation e s).store = s.store ∧ (markSaturation e s).supply = s.supply ∧
    (markSaturation e s).catchUp = s.catchUp ∧ (markSaturation e s).pins = s.pins := by
  unfold markSaturation
  split <;> simp

/-- What `billInterval` leaves alone. -/
@[simp] theorem billInterval_keeps (imported exported t : Nat) (s : State) :
    (billInterval imported exported t s).pending = s.pending ∧
    (billInterval imported exported t s).link = s.link ∧
    (billInterval imported exported t s).mem = s.mem ∧
    (billInterval imported exported t s).intake.list = s.intake.list ∧
    (billInterval imported exported t s).intake.ready = s.intake.ready ∧
    (billInterval imported exported t s).attn.mask = s.attn.mask ∧
    (billInterval imported exported t s).clock = s.clock ∧
    (billInterval imported exported t s).settings = s.settings ∧
    (billInterval imported exported t s).window = s.window ∧
    (billInterval imported exported t s).tamper.caseIn = s.tamper.caseIn ∧
    (billInterval imported exported t s).tamper.coverIn = s.tamper.coverIn ∧
    (billInterval imported exported t s).tamper.magIn = s.tamper.magIn ∧
    (billInterval imported exported t s).battery = s.battery ∧
    (billInterval imported exported t s).store.image = s.store.image ∧
    (billInterval imported exported t s).store.lastNumber = s.store.lastNumber ∧
    (billInterval imported exported t s).store.lastSet = s.store.lastSet ∧
    (billInterval imported exported t s).supply.power = s.supply.power ∧
    (billInterval imported exported t s).supply.startStep = s.supply.startStep ∧
    (billInterval imported exported t s).supply.cause = s.supply.cause ∧
    (billInterval imported exported t s).supply.resetHold = s.supply.resetHold ∧
    (billInterval imported exported t s).supply.vsLow = s.supply.vsLow ∧
    (billInterval imported exported t s).supply.resetRemembered = s.supply.resetRemembered ∧
    (billInterval imported exported t s).supply.failed = s.supply.failed ∧
    (billInterval imported exported t s).supply.batteryLow = s.supply.batteryLow ∧
    (billInterval imported exported t s).pins = s.pins ∧
    (billInterval imported exported t s).tamper.reason = s.tamper.reason ∧
    (billInterval imported exported t s).attn.bits = s.attn.bits ∧
    (billInterval imported exported t s).attn.busy = s.attn.busy := by
  simp [billInterval]

/-- What `closeInterval` leaves alone. -/
@[simp] theorem closeInterval_keeps (m : Measurement) (s : State) :
    (closeInterval m s).pending = s.pending ∧ (closeInterval m s).link = s.link ∧
    (closeInterval m s).mem = s.mem ∧ (closeInterval m s).intake.list = s.intake.list ∧
    (closeInterval m s).intake.ready = s.intake.ready ∧ (closeInterval m s).attn.mask = s.attn.mask ∧
    (closeInterval m s).clock = s.clock ∧ (closeInterval m s).settings = s.settings ∧
    (closeInterval m s).window = s.window ∧ (closeInterval m s).tamper.caseIn = s.tamper.caseIn ∧
    (closeInterval m s).tamper.coverIn = s.tamper.coverIn ∧ (closeInterval m s).tamper.magIn = s.tamper.magIn ∧
    (closeInterval m s).battery = s.battery ∧ (closeInterval m s).store.image = s.store.image ∧
    (closeInterval m s).store.lastNumber = s.store.lastNumber ∧
    (closeInterval m s).store.lastSet = s.store.lastSet ∧ (closeInterval m s).pins = s.pins ∧
    (closeInterval m s).tamper.reason = s.tamper.reason ∧ (closeInterval m s).attn.bits = s.attn.bits ∧
    (closeInterval m s).attn.busy = s.attn.busy ∧ (closeInterval m s).supply.power = s.supply.power ∧
    (closeInterval m s).supply.startStep = s.supply.startStep ∧ (closeInterval m s).supply.cause = s.supply.cause ∧
    (closeInterval m s).supply.resetHold = s.supply.resetHold := by
  unfold closeInterval
  dsimp only
  split <;> simp

/-- What `closePartial` leaves alone. -/
@[simp] theorem closePartial_keeps (p : PartMeasurement) (s : State) :
    (closePartial p s).pending = s.pending ∧ (closePartial p s).link = s.link ∧ (closePartial p s).mem = s.mem ∧
    (closePartial p s).intake.list = s.intake.list ∧ (closePartial p s).intake.ready = s.intake.ready ∧
    (closePartial p s).attn.mask = s.attn.mask ∧ (closePartial p s).clock = s.clock ∧
    (closePartial p s).settings = s.settings ∧ (closePartial p s).window = s.window ∧
    (closePartial p s).tamper.caseIn = s.tamper.caseIn ∧ (closePartial p s).tamper.coverIn = s.tamper.coverIn ∧
    (closePartial p s).tamper.magIn = s.tamper.magIn ∧ (closePartial p s).battery = s.battery ∧
    (closePartial p s).store.image = s.store.image ∧ (closePartial p s).store.lastNumber = s.store.lastNumber ∧
    (closePartial p s).store.lastSet = s.store.lastSet ∧ (closePartial p s).supply.power = s.supply.power ∧
    (closePartial p s).supply.startStep = s.supply.startStep ∧ (closePartial p s).supply.cause = s.supply.cause ∧
    (closePartial p s).supply.resetHold = s.supply.resetHold ∧ (closePartial p s).supply.vsLow = s.supply.vsLow ∧
    (closePartial p s).supply.resetRemembered = s.supply.resetRemembered ∧
    (closePartial p s).supply.failed = s.supply.failed ∧
    (closePartial p s).supply.batteryLow = s.supply.batteryLow ∧ (closePartial p s).pins = s.pins ∧
    (closePartial p s).tamper.reason = s.tamper.reason ∧ (closePartial p s).attn.bits = s.attn.bits ∧
    (closePartial p s).attn.busy = s.attn.busy := by
  unfold closePartial
  dsimp only
  split_ifs <;> simp

/-- What `countCondition` leaves alone. -/
@[simp] theorem countCondition_keeps (c : Condition) (s : State) :
    (countCondition c s).pending = s.pending ∧ (countCondition c s).link = s.link ∧
    (countCondition c s).mem = s.mem ∧ (countCondition c s).intake = s.intake ∧
    (countCondition c s).attn = s.attn ∧ (countCondition c s).energy = s.energy ∧
    (countCondition c s).clock = s.clock ∧ (countCondition c s).book = s.book ∧
    (countCondition c s).credit = s.credit ∧ (countCondition c s).decoder = s.decoder ∧
    (countCondition c s).settings = s.settings ∧ (countCondition c s).window = s.window ∧
    (countCondition c s).switch = s.switch ∧ (countCondition c s).tamper = s.tamper ∧
    (countCondition c s).battery = s.battery ∧ (countCondition c s).store = s.store ∧
    (countCondition c s).supply = s.supply ∧ (countCondition c s).catchUp = s.catchUp ∧ (countCondition c s).pins = s.pins := by
  unfold countCondition
  dsimp only
  split_ifs <;> simp

/-- What `qualifyCondition` leaves alone. -/
@[simp] theorem qualifyCondition_keeps (c : Condition) (s : State) :
    (qualifyCondition c s).pending = s.pending ∧ (qualifyCondition c s).agenda = s.agenda ∧
    (qualifyCondition c s).link = s.link ∧ (qualifyCondition c s).mem = s.mem ∧
    (qualifyCondition c s).intake.list = s.intake.list ∧ (qualifyCondition c s).intake.ready = s.intake.ready ∧
    (qualifyCondition c s).attn.mask = s.attn.mask ∧ (qualifyCondition c s).energy = s.energy ∧
    (qualifyCondition c s).clock = s.clock ∧ (qualifyCondition c s).book = s.book ∧
    (qualifyCondition c s).credit = s.credit ∧ (qualifyCondition c s).decoder = s.decoder ∧
    (qualifyCondition c s).settings = s.settings ∧ (qualifyCondition c s).window = s.window ∧
    (qualifyCondition c s).tamper.caseIn = s.tamper.caseIn ∧
    (qualifyCondition c s).tamper.coverIn = s.tamper.coverIn ∧
    (qualifyCondition c s).tamper.magIn = s.tamper.magIn ∧ (qualifyCondition c s).battery = s.battery ∧
    (qualifyCondition c s).store.image = s.store.image ∧
    (qualifyCondition c s).store.lastNumber = s.store.lastNumber ∧
    (qualifyCondition c s).store.lastSet = s.store.lastSet ∧ (qualifyCondition c s).supply.power = s.supply.power ∧
    (qualifyCondition c s).supply.startStep = s.supply.startStep ∧
    (qualifyCondition c s).supply.cause = s.supply.cause ∧
    (qualifyCondition c s).supply.resetHold = s.supply.resetHold ∧
    (qualifyCondition c s).supply.vsLow = s.supply.vsLow ∧
    (qualifyCondition c s).supply.resetRemembered = s.supply.resetRemembered ∧
    (qualifyCondition c s).supply.failed = s.supply.failed ∧
    (qualifyCondition c s).supply.batteryLow = s.supply.batteryLow ∧ (qualifyCondition c s).catchUp = s.catchUp ∧
    (qualifyCondition c s).pins = s.pins ∧
    (qualifyCondition c s).attn.bits = s.attn.bits ∧ (qualifyCondition c s).attn.busy = s.attn.busy := by
  simp [qualifyCondition]

/-- What `countWeld` leaves alone. -/
@[simp] theorem countWeld_keeps (s : State) :
    (countWeld s).pending = s.pending ∧ (countWeld s).link = s.link ∧ (countWeld s).mem = s.mem ∧
    (countWeld s).intake = s.intake ∧ (countWeld s).attn = s.attn ∧ (countWeld s).energy = s.energy ∧
    (countWeld s).clock = s.clock ∧ (countWeld s).book = s.book ∧ (countWeld s).credit = s.credit ∧
    (countWeld s).decoder = s.decoder ∧ (countWeld s).settings = s.settings ∧ (countWeld s).window = s.window ∧
    (countWeld s).switch = s.switch ∧ (countWeld s).tamper = s.tamper ∧ (countWeld s).battery = s.battery ∧
    (countWeld s).store = s.store ∧ (countWeld s).supply = s.supply ∧ (countWeld s).catchUp = s.catchUp ∧
    (countWeld s).pins = s.pins := by
  unfold countWeld
  dsimp only
  split_ifs <;> simp

/-- What `countLockout` leaves alone. -/
@[simp] theorem countLockout_keeps (s : State) :
    (countLockout s).pending = s.pending ∧ (countLockout s).link = s.link ∧
    (countLockout s).mem = s.mem ∧ (countLockout s).intake = s.intake ∧ (countLockout s).attn = s.attn ∧
    (countLockout s).meter = s.meter ∧ (countLockout s).energy = s.energy ∧ (countLockout s).clock = s.clock ∧
    (countLockout s).book = s.book ∧ (countLockout s).credit = s.credit ∧ (countLockout s).settings = s.settings ∧
    (countLockout s).window = s.window ∧ (countLockout s).switch = s.switch ∧ (countLockout s).tamper = s.tamper ∧
    (countLockout s).battery = s.battery ∧ (countLockout s).store = s.store ∧ (countLockout s).supply = s.supply ∧
    (countLockout s).catchUp = s.catchUp ∧ (countLockout s).pins = s.pins := by
  unfold countLockout
  dsimp only
  split_ifs <;> simp

/-- What `countWindow` leaves alone. -/
@[simp] theorem countWindow_keeps (s : State) :
    (countWindow s).pending = s.pending ∧ (countWindow s).link = s.link ∧ (countWindow s).mem = s.mem ∧
    (countWindow s).intake = s.intake ∧ (countWindow s).attn = s.attn ∧ (countWindow s).meter = s.meter ∧
    (countWindow s).energy = s.energy ∧ (countWindow s).clock = s.clock ∧ (countWindow s).book = s.book ∧
    (countWindow s).credit = s.credit ∧ (countWindow s).decoder = s.decoder ∧
    (countWindow s).settings = s.settings ∧ (countWindow s).switch = s.switch ∧ (countWindow s).tamper = s.tamper ∧
    (countWindow s).battery = s.battery ∧ (countWindow s).store = s.store ∧ (countWindow s).supply = s.supply ∧
    (countWindow s).catchUp = s.catchUp ∧ (countWindow s).pins = s.pins ∧ (countWindow s).window.staged = s.window.staged ∧
    (countWindow s).window.state = s.window.state := by
  unfold countWindow
  dsimp only
  split_ifs <;> simp

/-- What `countPeriodic` leaves alone. -/
@[simp] theorem countPeriodic_keeps (s : State) :
    (countPeriodic s).pending = s.pending ∧ (countPeriodic s).link = s.link ∧
    (countPeriodic s).mem = s.mem ∧ (countPeriodic s).intake = s.intake ∧ (countPeriodic s).attn = s.attn ∧
    (countPeriodic s).meter = s.meter ∧ (countPeriodic s).energy = s.energy ∧ (countPeriodic s).clock = s.clock ∧
    (countPeriodic s).book = s.book ∧ (countPeriodic s).credit = s.credit ∧ (countPeriodic s).decoder = s.decoder ∧
    (countPeriodic s).settings = s.settings ∧ (countPeriodic s).window = s.window ∧
    (countPeriodic s).switch = s.switch ∧ (countPeriodic s).tamper = s.tamper ∧
    (countPeriodic s).battery = s.battery ∧ (countPeriodic s).store.image = s.store.image ∧
    (countPeriodic s).store.lastNumber = s.store.lastNumber ∧ (countPeriodic s).store.lastSet = s.store.lastSet ∧
    (countPeriodic s).supply = s.supply ∧ (countPeriodic s).catchUp = s.catchUp ∧ (countPeriodic s).pins = s.pins ∧
    (countPeriodic s).store.writing = s.store.writing := by
  unfold countPeriodic
  dsimp only
  split_ifs <;> simp

/-! ## The supply monitor -/

/-- What `tellWork` leaves alone. -/
@[simp] theorem tellWork_keeps (s : State) :
    (tellWork s).pending = s.pending ∧ (tellWork s).link = s.link ∧
    (tellWork s).attn.mask = s.attn.mask ∧ (tellWork s).meter = s.meter ∧ (tellWork s).energy = s.energy ∧
    (tellWork s).clock = s.clock ∧ (tellWork s).book = s.book ∧ (tellWork s).credit = s.credit ∧
    (tellWork s).decoder = s.decoder ∧ (tellWork s).settings = s.settings ∧
    (tellWork s).tamper.caseIn = s.tamper.caseIn ∧ (tellWork s).tamper.coverIn = s.tamper.coverIn ∧
    (tellWork s).tamper.magIn = s.tamper.magIn ∧ (tellWork s).battery = s.battery ∧ (tellWork s).store = s.store ∧
    (tellWork s).supply = s.supply ∧ (tellWork s).catchUp = s.catchUp ∧ (tellWork s).pins = s.pins ∧
    (tellWork s).attn.bits = s.attn.bits ∧
    (tellWork s).intake.ready = s.intake.ready ∧ (tellWork s).tamper.reason = s.tamper.reason ∧
    (tellWork s).switch.reasons = s.switch.reasons := by
  unfold tellWork
  split
  · simp
  · split
    · split_ifs <;> simp [finishCommit]
    · simp

/-- What `serveRequests` leaves alone. -/
@[simp] theorem serveRequests_keeps (s : State) :
    (serveRequests s).pending = s.pending ∧ (serveRequests s).agenda = s.agenda ∧
    (serveRequests s).link = s.link ∧ (serveRequests s).mem = s.mem ∧
    (serveRequests s).intake.list = s.intake.list ∧ (serveRequests s).intake.ready = s.intake.ready ∧
    (serveRequests s).attn = s.attn ∧ (serveRequests s).meter = s.meter ∧ (serveRequests s).energy = s.energy ∧
    (serveRequests s).clock = s.clock ∧ (serveRequests s).book = s.book ∧ (serveRequests s).credit = s.credit ∧
    (serveRequests s).decoder = s.decoder ∧ (serveRequests s).settings = s.settings ∧
    (serveRequests s).window = s.window ∧ (serveRequests s).switch = s.switch ∧
    (serveRequests s).tamper = s.tamper ∧ (serveRequests s).battery = s.battery ∧
    (serveRequests s).store.image = s.store.image ∧ (serveRequests s).store.lastNumber = s.store.lastNumber ∧
    (serveRequests s).store.lastSet = s.store.lastSet ∧ (serveRequests s).supply.power = s.supply.power ∧
    (serveRequests s).supply.startStep = s.supply.startStep ∧ (serveRequests s).supply.cause = s.supply.cause ∧
    (serveRequests s).supply.resetHold = s.supply.resetHold ∧ (serveRequests s).supply.vsLow = s.supply.vsLow ∧
    (serveRequests s).supply.resetRemembered = s.supply.resetRemembered ∧
    (serveRequests s).supply.failed = s.supply.failed ∧ (serveRequests s).supply.batteryLow = s.supply.batteryLow ∧
    (serveRequests s).catchUp = s.catchUp ∧ (serveRequests s).pins = s.pins := by
  unfold serveRequests
  split <;> simp

/-- What `dueReady` leaves alone. -/
@[simp] theorem dueReady_keeps (s : State) :
    (dueReady s).pending = s.pending ∧ (dueReady s).link = s.link ∧ (dueReady s).mem = s.mem ∧
    (dueReady s).intake = s.intake ∧ (dueReady s).attn = s.attn ∧ (dueReady s).meter = s.meter ∧
    (dueReady s).energy = s.energy ∧ (dueReady s).clock = s.clock ∧ (dueReady s).book = s.book ∧
    (dueReady s).credit = s.credit ∧ (dueReady s).decoder = s.decoder ∧ (dueReady s).settings = s.settings ∧
    (dueReady s).window = s.window ∧ (dueReady s).switch = s.switch ∧ (dueReady s).tamper = s.tamper ∧
    (dueReady s).battery = s.battery ∧ (dueReady s).store = s.store ∧ (dueReady s).supply = s.supply ∧
    (dueReady s).catchUp = s.catchUp ∧ (dueReady s).pins = s.pins := by
  unfold dueReady
  split <;> simp

/-- What `completeWrite` leaves alone. -/
@[simp] theorem completeWrite_keeps (s : State) :
    (completeWrite s).pending = s.pending ∧ (completeWrite s).link = s.link ∧
    (completeWrite s).attn.mask = s.attn.mask ∧ (completeWrite s).meter = s.meter ∧
    (completeWrite s).energy = s.energy ∧ (completeWrite s).clock = s.clock ∧ (completeWrite s).book = s.book ∧
    (completeWrite s).credit = s.credit ∧ (completeWrite s).decoder = s.decoder ∧
    (completeWrite s).settings = s.settings ∧ (completeWrite s).tamper.caseIn = s.tamper.caseIn ∧
    (completeWrite s).tamper.coverIn = s.tamper.coverIn ∧ (completeWrite s).tamper.magIn = s.tamper.magIn ∧
    (completeWrite s).battery = s.battery ∧ (completeWrite s).supply.power = s.supply.power ∧
    (completeWrite s).supply.startStep = s.supply.startStep ∧ (completeWrite s).supply.cause = s.supply.cause ∧
    (completeWrite s).supply.resetHold = s.supply.resetHold ∧ (completeWrite s).supply.vsLow = s.supply.vsLow ∧
    (completeWrite s).supply.resetRemembered = s.supply.resetRemembered ∧
    (completeWrite s).supply.failed = s.supply.failed ∧ (completeWrite s).supply.batteryLow = s.supply.batteryLow ∧
    (completeWrite s).catchUp = s.catchUp ∧ (completeWrite s).pins = s.pins ∧
    (completeWrite s).tamper.reason = s.tamper.reason ∧
    (completeWrite s).switch.reasons = s.switch.reasons ∧ (completeWrite s).attn.bits = s.attn.bits ∧
    (completeWrite s).intake.ready = s.intake.ready := by
  unfold completeWrite
  split <;> simp

/-- What `abandonWork` leaves alone. -/
@[simp] theorem abandonWork_keeps (s : State) :
    (abandonWork s).pending = s.pending ∧ (abandonWork s).link = s.link ∧
    (abandonWork s).attn.mask = s.attn.mask ∧ (abandonWork s).meter = s.meter ∧ (abandonWork s).energy = s.energy ∧
    (abandonWork s).clock = s.clock ∧ (abandonWork s).book = s.book ∧ (abandonWork s).credit = s.credit ∧
    (abandonWork s).decoder = s.decoder ∧ (abandonWork s).settings = s.settings ∧
    (abandonWork s).window = s.window ∧ (abandonWork s).switch = s.switch ∧ (abandonWork s).tamper = s.tamper ∧
    (abandonWork s).battery = s.battery ∧ (abandonWork s).store = s.store ∧ (abandonWork s).supply = s.supply ∧
    (abandonWork s).catchUp = s.catchUp ∧ (abandonWork s).pins = s.pins ∧ (abandonWork s).attn.bits = s.attn.bits ∧
    (abandonWork s).intake.ready = s.intake.ready := by
  unfold abandonWork
  split
  · simp
  · split <;> simp

/-- What `passLockout` leaves alone, and what it makes of the decoder. -/
@[simp] theorem passLockout_keeps (s : State) :
    (passLockout s).pending = s.pending ∧ (passLockout s).agenda = s.agenda ∧ (passLockout s).link = s.link ∧
    (passLockout s).mem = s.mem ∧ (passLockout s).intake = s.intake ∧ (passLockout s).attn = s.attn ∧
    (passLockout s).meter = s.meter ∧ (passLockout s).energy = s.energy ∧ (passLockout s).clock = s.clock ∧
    (passLockout s).book = s.book ∧ (passLockout s).credit = s.credit ∧ (passLockout s).settings = s.settings ∧
    (passLockout s).window = s.window ∧ (passLockout s).switch = s.switch ∧ (passLockout s).battery = s.battery ∧
    (passLockout s).store = s.store ∧ (passLockout s).supply = s.supply ∧ (passLockout s).catchUp = s.catchUp ∧
    (passLockout s).pins = s.pins ∧
    (passLockout s).tamper.caseIn = s.tamper.caseIn ∧ (passLockout s).tamper.coverIn = s.tamper.coverIn ∧
    (passLockout s).tamper.magIn = s.tamper.magIn ∧ (passLockout s).tamper.reason = s.tamper.reason ∧
    (passLockout s).decoder = { s.decoder with lockout := s.decoder.lockout - 1 } := by
  unfold passLockout
  split
  · next h => simp [h, endLockout]
  · simp

/-- What `enterHoldup` leaves alone. -/
@[simp] theorem enterHoldup_keeps (reset : Bool) (p : PartMeasurement) (s : State) :
    (enterHoldup reset p s).pending = s.pending ∧ (enterHoldup reset p s).link = s.link ∧
    (enterHoldup reset p s).attn.mask = s.attn.mask ∧ (enterHoldup reset p s).clock = s.clock ∧
    (enterHoldup reset p s).settings = s.settings ∧ (enterHoldup reset p s).tamper.caseIn = s.tamper.caseIn ∧
    (enterHoldup reset p s).tamper.coverIn = s.tamper.coverIn ∧
    (enterHoldup reset p s).tamper.magIn = s.tamper.magIn ∧ (enterHoldup reset p s).battery = s.battery ∧
    (enterHoldup reset p s).store.image = s.store.image ∧
    (enterHoldup reset p s).store.lastNumber = s.store.lastNumber ∧
    (enterHoldup reset p s).store.lastSet = s.store.lastSet ∧ (enterHoldup reset p s).pins = s.pins ∧
    (enterHoldup reset p s).tamper.reason = s.tamper.reason ∧
    (enterHoldup reset p s).supply.vsLow = s.supply.vsLow ∧
    (enterHoldup reset p s).supply.startStep = s.supply.startStep ∧
    (enterHoldup reset p s).supply.resetRemembered = s.supply.resetRemembered := by
  simp [enterHoldup]

/-- What `vsFalls` leaves alone. -/
@[simp] theorem vsFalls_keeps (p : PartMeasurement) (s : State) :
    (vsFalls p s).pending = s.pending ∧ (vsFalls p s).link = s.link ∧
    (vsFalls p s).attn.mask = s.attn.mask ∧ (vsFalls p s).clock = s.clock ∧ (vsFalls p s).settings = s.settings ∧
    (vsFalls p s).tamper.caseIn = s.tamper.caseIn ∧ (vsFalls p s).tamper.coverIn = s.tamper.coverIn ∧
    (vsFalls p s).tamper.magIn = s.tamper.magIn ∧ (vsFalls p s).battery = s.battery ∧
    (vsFalls p s).store.image = s.store.image ∧ (vsFalls p s).store.lastNumber = s.store.lastNumber ∧
    (vsFalls p s).store.lastSet = s.store.lastSet ∧ (vsFalls p s).pins = s.pins ∧
    (vsFalls p s).tamper.reason = s.tamper.reason ∧ (vsFalls p s).supply.startStep = s.supply.startStep ∧
    (vsFalls p s).supply.resetRemembered = s.supply.resetRemembered := by
  unfold vsFalls
  split <;> simp

/-- What `markReset` leaves alone. -/
@[simp] theorem markReset_keeps (s : State) :
    (markReset s).pending = s.pending ∧ (markReset s).agenda = s.agenda ∧ (markReset s).link = s.link ∧
    (markReset s).mem = s.mem ∧ (markReset s).intake.list = s.intake.list ∧
    (markReset s).intake.ready = s.intake.ready ∧ (markReset s).attn = s.attn ∧ (markReset s).meter = s.meter ∧
    (markReset s).energy = s.energy ∧ (markReset s).clock = s.clock ∧ (markReset s).book = s.book ∧
    (markReset s).credit = s.credit ∧ (markReset s).decoder = s.decoder ∧ (markReset s).settings = s.settings ∧
    (markReset s).window = s.window ∧ (markReset s).switch = s.switch ∧ (markReset s).tamper = s.tamper ∧
    (markReset s).battery = s.battery ∧ (markReset s).store.image = s.store.image ∧
    (markReset s).store.lastNumber = s.store.lastNumber ∧ (markReset s).store.lastSet = s.store.lastSet ∧
    (markReset s).catchUp = s.catchUp ∧ (markReset s).pins = s.pins ∧ (markReset s).supply.power = s.supply.power ∧
    (markReset s).supply.startStep = s.supply.startStep ∧ (markReset s).supply.vsLow = s.supply.vsLow ∧
    (markReset s).supply.resetRemembered = s.supply.resetRemembered ∧
    (markReset s).supply.cause = s.supply.cause := by
  simp [markReset]

/-- What `resetLow` leaves alone. -/
@[simp] theorem resetLow_keeps (p : PartMeasurement) (s : State) :
    (resetLow p s).pending = s.pending ∧ (resetLow p s).link = s.link ∧
    (resetLow p s).attn.mask = s.attn.mask ∧ (resetLow p s).clock = s.clock ∧
    (resetLow p s).settings = s.settings ∧ (resetLow p s).tamper.caseIn = s.tamper.caseIn ∧
    (resetLow p s).tamper.coverIn = s.tamper.coverIn ∧ (resetLow p s).tamper.magIn = s.tamper.magIn ∧
    (resetLow p s).battery = s.battery ∧ (resetLow p s).store.image = s.store.image ∧
    (resetLow p s).store.lastNumber = s.store.lastNumber ∧ (resetLow p s).store.lastSet = s.store.lastSet ∧
    (resetLow p s).pins = s.pins ∧ (resetLow p s).tamper.reason = s.tamper.reason ∧
    (resetLow p s).supply.startStep = s.supply.startStep ∧ (resetLow p s).supply.vsLow = s.supply.vsLow := by
  unfold resetLow
  split <;> (try split_ifs) <;> simp

/-- What `openIntake` leaves alone. -/
@[simp] theorem openIntake_keeps (s : State) :
    (openIntake s).pending = s.pending ∧ (openIntake s).link = s.link ∧ (openIntake s).attn = s.attn ∧
    (openIntake s).meter = s.meter ∧ (openIntake s).energy = s.energy ∧ (openIntake s).clock = s.clock ∧
    (openIntake s).book = s.book ∧ (openIntake s).credit = s.credit ∧ (openIntake s).decoder = s.decoder ∧
    (openIntake s).settings = s.settings ∧ (openIntake s).window = s.window ∧ (openIntake s).switch = s.switch ∧
    (openIntake s).tamper = s.tamper ∧ (openIntake s).battery = s.battery ∧ (openIntake s).store = s.store ∧
    (openIntake s).supply = s.supply ∧ (openIntake s).catchUp = s.catchUp ∧ (openIntake s).pins = s.pins := by
  simp [openIntake]

/-- What `vsRises` leaves alone. -/
@[simp] theorem vsRises_keeps (s : State) :
    (vsRises s).pending = s.pending ∧ (vsRises s).link = s.link ∧ (vsRises s).attn.mask = s.attn.mask ∧
    (vsRises s).energy = s.energy ∧ (vsRises s).clock = s.clock ∧ (vsRises s).settings = s.settings ∧
    (vsRises s).window = s.window ∧ (vsRises s).tamper.caseIn = s.tamper.caseIn ∧
    (vsRises s).tamper.coverIn = s.tamper.coverIn ∧ (vsRises s).tamper.magIn = s.tamper.magIn ∧
    (vsRises s).battery = s.battery ∧ (vsRises s).store = s.store ∧ (vsRises s).pins = s.pins ∧
    (vsRises s).tamper.reason = s.tamper.reason ∧ (vsRises s).supply.startStep = s.supply.startStep ∧
    (vsRises s).supply.resetRemembered = s.supply.resetRemembered ∧
    (vsRises s).supply.resetHold = s.supply.resetHold := by
  unfold vsRises
  split
  · dsimp only
    split_ifs
    · simp
    · rcases catchUpThen_cases [] id (resumeSwitch (beginInterval (raiseNow attnSupply (setMains (setVsLow false s)))))
        with h | ⟨-, -, h⟩ <;> simp [h]
  · simp
  · simp
  · simp

/-- What `clockReports` leaves alone. -/
@[simp] theorem clockReports_keeps (s : State) :
    (clockReports s).pending = s.pending ∧ (clockReports s).agenda = s.agenda ∧
    (clockReports s).link = s.link ∧ (clockReports s).mem = s.mem ∧
    (clockReports s).intake.list = s.intake.list ∧ (clockReports s).intake.ready = s.intake.ready ∧
    (clockReports s).attn.mask = s.attn.mask ∧ (clockReports s).meter = s.meter ∧
    (clockReports s).energy = s.energy ∧ (clockReports s).book = s.book ∧ (clockReports s).credit = s.credit ∧
    (clockReports s).decoder = s.decoder ∧ (clockReports s).settings = s.settings ∧
    (clockReports s).window = s.window ∧ (clockReports s).tamper.caseIn = s.tamper.caseIn ∧
    (clockReports s).tamper.coverIn = s.tamper.coverIn ∧ (clockReports s).tamper.magIn = s.tamper.magIn ∧
    (clockReports s).battery = s.battery ∧ (clockReports s).store.image = s.store.image ∧
    (clockReports s).store.lastNumber = s.store.lastNumber ∧ (clockReports s).store.lastSet = s.store.lastSet ∧
    (clockReports s).supply.power = s.supply.power ∧ (clockReports s).supply.startStep = s.supply.startStep ∧
    (clockReports s).supply.cause = s.supply.cause ∧ (clockReports s).supply.resetHold = s.supply.resetHold ∧
    (clockReports s).supply.vsLow = s.supply.vsLow ∧
    (clockReports s).supply.resetRemembered = s.supply.resetRemembered ∧
    (clockReports s).supply.failed = s.supply.failed ∧ (clockReports s).supply.batteryLow = s.supply.batteryLow ∧
    (clockReports s).catchUp = s.catchUp ∧ (clockReports s).pins = s.pins ∧ (clockReports s).attn.bits = s.attn.bits ∧
    (clockReports s).attn.busy = s.attn.busy ∧ (clockReports s).clock.time = s.clock.time ∧
    (clockReports s).clock.certain = s.clock.certain ∧ (clockReports s).clock.source = s.clock.source := by
  unfold clockReports
  dsimp only
  split_ifs <;> simp

/-- What `decideReconnect` leaves alone. -/
@[simp] theorem decideReconnect_keeps (s : State) :
    (decideReconnect s).pending = s.pending ∧ (decideReconnect s).link = s.link ∧
    (decideReconnect s).attn.mask = s.attn.mask ∧ (decideReconnect s).meter = s.meter ∧
    (decideReconnect s).energy = s.energy ∧ (decideReconnect s).clock = s.clock ∧
    (decideReconnect s).book = s.book ∧ (decideReconnect s).credit = s.credit ∧
    (decideReconnect s).decoder = s.decoder ∧ (decideReconnect s).settings = s.settings ∧
    (decideReconnect s).window = s.window ∧ (decideReconnect s).tamper.caseIn = s.tamper.caseIn ∧
    (decideReconnect s).tamper.coverIn = s.tamper.coverIn ∧ (decideReconnect s).tamper.magIn = s.tamper.magIn ∧
    (decideReconnect s).battery = s.battery ∧ (decideReconnect s).store = s.store ∧
    (decideReconnect s).supply = s.supply ∧ (decideReconnect s).catchUp = s.catchUp ∧ (decideReconnect s).pins = s.pins ∧
    (decideReconnect s).tamper.reason = s.tamper.reason ∧ (decideReconnect s).attn.bits = s.attn.bits ∧
    (decideReconnect s).intake.ready = s.intake.ready := by
  simp [decideReconnect]

/-- A top-up that is carried out changes the credit engine and what its derivation hands on. -/
theorem topup_keeps {A : Nat} {s t : State} (h : topup A s = some t) :
    t.pending = s.pending ∧ t.agenda = s.agenda ∧ t.link = s.link ∧ t.mem = s.mem ∧ t.intake = s.intake ∧
    t.meter = s.meter ∧ t.energy = s.energy ∧ t.clock = s.clock ∧ t.book = s.book ∧ t.decoder = s.decoder ∧
    t.settings = s.settings ∧ t.window = s.window ∧ t.battery = s.battery ∧ t.store = s.store ∧
    t.supply = s.supply ∧ t.catchUp = s.catchUp ∧ t.pins = s.pins ∧ t.attn.mask = s.attn.mask ∧ t.attn.bits = s.attn.bits := by
  unfold topup at h
  dsimp only at h
  split_ifs at h
  simp only [Option.some.injEq] at h
  subst h
  simp

/-- What `applyCredit` leaves alone. -/
@[simp] theorem applyCredit_keeps (d : Decoded) (s : State) :
    (applyCredit d s).pending = s.pending ∧ (applyCredit d s).link = s.link ∧
    (applyCredit d s).meter = s.meter ∧ (applyCredit d s).energy = s.energy ∧ (applyCredit d s).clock = s.clock ∧
    (applyCredit d s).book = s.book ∧ (applyCredit d s).settings = s.settings ∧
    (applyCredit d s).window = s.window ∧ (applyCredit d s).battery = s.battery ∧
    (applyCredit d s).store.image = s.store.image ∧ (applyCredit d s).supply.power = s.supply.power ∧
    (applyCredit d s).supply.startStep = s.supply.startStep ∧ (applyCredit d s).catchUp = s.catchUp ∧
    (applyCredit d s).pins = s.pins ∧
    (applyCredit d s).attn.mask = s.attn.mask ∧ (applyCredit d s).attn.bits = s.attn.bits ∧
    (applyCredit d s).intake.ready = s.intake.ready := by
  unfold applyCredit
  dsimp only
  split_ifs
  · simp
  · split
    · simp
    · next t h => simp [topup_keeps h]

end Sys2Proof.Machine
end

