-- ==== Sys2Proof/Laws/Induction.lean ====
section
/-! SUPPORT. The induction over commands, made once: a property that every due step and every arrival keeps is kept by
every command, and so by every step of the machine. -/

namespace Sys2Proof.Machine

/-- What a property must be kept by to be kept by every command: the agenda and the link may change, each due step, a catch-up
that goes on, and each effect that a command with an occasion of its own has. -/
structure Kept (P : State → Prop) : Prop where
  agenda : ∀ s a, P s → P { s with agenda := a }
  due : ∀ d s, P s → P (runDue d s)
  catchUp : ∀ s, P s → P (catchUpGoesOn s)
  link : ∀ f s, P s → P (onLink f s)
  byte : ∀ a v s, P s → P (hostByte a v s)
  attention : ∀ data s, P s → P (clearAttention data s)
  mask : ∀ data s, P s → P (replaceMask data s)
  submit : ∀ s, P s → P (applySubmit s)
  refuse : ∀ code d s, decoded s = some d → P s → P (refuseToken code 0 d s)
  test : ∀ d s, decoded s = some d → tokenRefusal 1 d = none → d.plain.cls = 0 → P s → P (applyTest d s)
  credit : ∀ d s, decoded s = some d → tokenRefusal 1 d = none → d.plain.cls = 1 → P s → P (applyCredit d s)
  debtAdd : ∀ d s, decoded s = some d → tokenRefusal 3 d = none → d.plain.cls = 2 → P s → P (applyDebtAdd d s)
  clear : ∀ d s, decoded s = some d → tokenRefusal 3 d = none → d.plain.cls = 3 → P s → P (applyClear d s)
  setting : ∀ d s, decoded s = some d → tokenRefusal 0 d = none → d.plain.cls = 4 → P s → P (applySetting d s)
  windowOpen : ∀ d s, decoded s = some d → tokenRefusal 2 d = none → d.plain.cls = 5 → P s →
    P (applyWindowOpen d s)
  tamperClear : ∀ d s, decoded s = some d → tokenRefusal 2 d = none → d.plain.cls = 6 → P s →
    P (applyTamperClear d s)
  keyChange : ∀ d s, decoded s = some d → tokenRefusal 3 d = none → d.plain.cls = 7 → P s →
    P (applyKeyChange d s)
  remoteOpen : ∀ d s, decoded s = some d → tokenRefusal 3 d = none → d.plain.cls = 8 → P s →
    P (applyRemote true d s)
  remoteClose : ∀ d s, decoded s = some d → tokenRefusal 3 d = none → d.plain.cls = 9 → P s →
    P (applyRemote false d s)
  fails : ∀ s, P s → P (tokenFails s)
  publication : ∀ s, P s → P (endPublication s)
  write : ∀ s, P s → P (completeWrite s)
  interval : ∀ m s, P s → P (closeInterval m s)
  pulse : ∀ s, P s → P (pulseEnds s)
  wait : ∀ s, P s → P (waitEnds s)
  second : ∀ p s, P s → P (meterSecond p s)
  crystalStop : ∀ s, P s → P (crystalStops s)
  crystalReturn : ∀ s, P s → P (crystalReturns s)
  sample : ∀ i high s, P s → P (sampleInput i high s)
  falls : ∀ p s, P s → P (vsFalls p s)
  reset : ∀ p s, P s → P (resetLow p s)
  rises : ∀ s, P s → P (vsRises s)
  failing : ∀ b s, P s → P (vsFails b s)
  start : ∀ i s, P s → P (startFromBattery i s)
  resetStart : ∀ i s, P s → P (startFromReset i s)
  finish : ∀ s, P s → P (finishStart s)
  domain : ∀ s, P s → P (domainLost s)

namespace Kept

variable {P : State → Prop} (k : Kept P)
include k

/-- Due steps up to a stop keep what each of them keeps. -/
theorem runUntil (stop : Due → Bool) (fuel : Nat) (s : State) (h : P s) :
    P (Machine.runUntil stop fuel s) := by
  induction fuel generalizing s with
  | zero => exact h
  | succ n ih =>
    simp only [Machine.runUntil]
    split
    · exact h
    · split
      · exact h
      · exact ih _ (k.due _ _ (k.agenda _ _ h))

/-- The rest of the step in progress. -/
theorem advance (s : State) (h : P s) : P (Machine.advance s) := by
  have ht := k.runUntil Due.isRow dueBound s h
  unfold Machine.advance restCatchUp
  dsimp only
  split_ifs
  · exact k.agenda _ _ (k.runUntil _ _ _ (k.catchUp _ ht))
  · exact k.agenda _ _ ht

/-- Every due step. -/
theorem settle (s : State) (h : P s) : P (Machine.settle s) := k.runUntil _ _ s h

/-- A command that stands for a due step. -/
theorem atOnce (d : Due) (s : State) (h : P s) : P (Machine.atOnce d s) := by
  have ht : P (settleTo d s) := k.runUntil _ _ s h
  unfold Machine.atOnce
  simp only
  split
  · refine k.advance _ ?_
    unfold runHead
    split
    · exact ht
    · exact k.due _ _ (k.agenda _ _ ht)
  · exact ht

/-- A command with an occasion of its own. -/
theorem arrival {f : State → State} (hf : ∀ s, P s → P (f s)) (s : State) (h : P s) :
    P (Machine.arrival f s) := k.advance _ (hf _ (k.settle _ h))

/-- One byte of a memory frame. -/
theorem frameByte (write : Bool) (v : Byte) (s : State) (h : P s) : P (Machine.frameByte write v s) := by
  unfold Machine.frameByte
  split
  · exact h
  · split
    · split
      · exact k.byte _ _ _ (k.link _ _ h)
      · exact k.link _ _ h
    · exact k.link _ _ h

/-- The bytes of a memory frame. -/
theorem frameBytes (write : Bool) (vs : List Byte) (s : State) (h : P s) : P (Machine.frameBytes write vs s) := by
  fun_induction Machine.frameBytes with
  | case1 => exact h
  | case2 => exact k.frameByte _ _ _ h
  | case3 _ _ _ _ ih => exact ih (k.settle _ (k.frameByte _ _ _ h))

/-- A memory frame, or a piece of one. -/
theorem frame (write : Bool) (piece : FramePiece) (s : State) (h : P s) : P (memoryFrame write piece s) := by
  have hb : P (beginFrame write s) := by
    unfold beginFrame
    split
    · exact h
    · exact k.link _ _ h
  unfold memoryFrame endFrame
  split
  · exact k.frameBytes _ _ _ hb
  · exact k.link _ _ (k.frameBytes _ _ _ hb)

/-- A frame answered whole. -/
theorem answer (bytes : List Byte) (s : State) (h : P s) : P (answerFrame bytes s) := k.link _ _ h

/-- The samples of a sense input. -/
theorem samples (i : SenseInput) (xs : List Bool) (s : State) (h : P s) : P (sampleAll i xs s) := by
  induction xs generalizing s with
  | nil => exact h
  | cons x xs ih =>
    refine ih _ ?_
    split
    · exact k.sample _ _ _ h
    · exact h

/-- The end of a decode for one class. -/
theorem token {cls m : Nat} {act : Decoded → State → State}
    (ha : ∀ d s, decoded s = some d → tokenRefusal m d = none → d.plain.cls = cls → P s → P (act d s))
    (s : State) (h : P s) : P (tokenApply cls m act s) := by
  unfold tokenApply
  split
  · exact h
  · next d hd =>
    split
    · next hc =>
      simp only [Bool.and_eq_true, decide_eq_true_eq] at hc
      split
      · exact k.refuse _ _ _ hd h
      · next hr => exact ha _ _ hd hr hc.2 h
    · exact h

/-- Every command keeps the property. -/
theorem exec (c : Instr) (s t : State) (h : P s) (he : Machine.exec c s = .next t) : P t := by
  cases c <;> simp only [Machine.exec, Host.Outcome.next.injEq, execReadMemory, execWriteMemory, execReadRegister,
    execWriteAttention, execWriteAttentionMask, execWriteRegisterIgnored, execUnknownCommandFrame, execToken,
    execReconnect, execEmergency, execTimeSet, execCalendarSubmit, execCalendarSubmitApply, execWindowCloseDiscard,
    execWindowCloseCommit, execWindowClosePayloadRange, execFlagClear, execKindUnknown, execTest, execCredit,
    execDebtAdd, execClear, execSetting, execWindowOpen, execTamperClear, execKeyChange, execRemoteOpen,
    execRemoteClose, execTokenDecodeEnd, execKeypadLockoutStart, execKeypadLockoutEnd, execPublicationEnd,
    execRetentionWriteComplete, execPeriodicWriteDue, execIntervalClose, execConditionQualified,
    execWeldObservation, execLoadTrip, execLoadRetryExpiry, execCleanRunComplete, execStuckRetry,
    execCoilPulseEnd, execConfirmationWaitEnd, execWindowExpiry, execMeterSecond, execCrystalStop,
    execCrystalReturn, execInputQualified, execHoldupEntry, execResetNLow, execHoldupReturn, execBatteryEntry,
    execStartEntry, execResetStart, execStartReady, execBatteryDomainLoss] at he <;> subst he
  case readMemory => exact k.arrival (k.frame _ _) s h
  case writeMemory => exact k.arrival (k.frame _ _) s h
  case readRegister => exact k.arrival (fun _ h => k.answer _ _ h) s h
  case writeAttention => exact k.arrival (fun _ h => k.answer _ _ (k.attention _ _ h)) s h
  case writeAttentionMask => exact k.arrival (fun _ h => k.answer _ _ (k.mask _ _ h)) s h
  case writeRegisterIgnored => exact k.arrival (fun _ h => k.answer _ _ h) s h
  case unknownCommandFrame => exact k.arrival (fun _ h => k.answer _ _ h) s h
  case calendarSubmitApply =>
    refine k.arrival (fun s h => ?_) s h
    unfold submitApplies
    split
    · exact h
    · split
      · exact k.submit _ h
      · exact h
  case test => exact k.arrival (k.token k.test) s h
  case credit => exact k.arrival (k.token k.credit) s h
  case debtAdd => exact k.arrival (k.token k.debtAdd) s h
  case clear => exact k.arrival (k.token k.clear) s h
  case setting => exact k.arrival (k.token k.setting) s h
  case windowOpen => exact k.arrival (k.token k.windowOpen) s h
  case tamperClear => exact k.arrival (k.token k.tamperClear) s h
  case keyChange => exact k.arrival (k.token k.keyChange) s h
  case remoteOpen => exact k.arrival (k.token k.remoteOpen) s h
  case remoteClose => exact k.arrival (k.token k.remoteClose) s h
  case tokenDecodeEnd => exact k.arrival k.fails s h
  case publicationEnd => exact k.arrival k.publication s h
  case retentionWriteComplete => exact k.arrival k.write s h
  case intervalClose m => exact k.arrival (k.interval m) s h
  case coilPulseEnd => exact k.arrival k.pulse s h
  case confirmationWaitEnd => exact k.arrival k.wait s h
  case meterSecond p => exact k.arrival (k.second p) s h
  case crystalStop => exact k.arrival k.crystalStop s h
  case crystalReturn => exact k.arrival k.crystalReturn s h
  case inputQualified i xs => exact k.arrival (k.samples i xs) s h
  case holdupEntry p => exact k.arrival (k.falls p) s h
  case resetNLow p => exact k.arrival (k.reset p) s h
  case holdupReturn => exact k.arrival k.rises s h
  case batteryEntry b => exact k.arrival (k.failing b) s h
  case startEntry i => exact k.arrival (k.start i) s h
  case resetStart i => exact k.arrival (k.resetStart i) s h
  case startReady => exact k.atOnce _ _ (k.finish _ h)
  case batteryDomainLoss => exact k.arrival k.domain s h
  all_goals exact k.atOnce _ _ h

/-- Every step keeps the property, if the queue does not enter it. -/
theorem step (hq : ∀ s q, P s → P (s.withQueue q)) (s t : State) (h : P s) (he : Machine.step s = .next t) :
    P t := by
  unfold Machine.step at he
  split at he
  · cases he; exact h
  · exact k.exec _ _ _ (hq _ _ h) he

end Kept

end Sys2Proof.Machine
end

