-- ==== Sys2Proof/Laws/PerInstr.lean ====
section
/-! SUPPORT. A family of laws about the commands as syntax, one lemma for each constructor of `Instr`. -/

namespace Sys2Proof.Laws.NoWordSpells

/-- No word spells the command: the opcode table of this block gives no row any bits. -/
def Statement (i : Instr) : Prop := ∀ nbits w, decodeTableWord nbits w ≠ some i

/-- No word spells readMemory. -/
theorem readMemory (piece : FramePiece) : Statement (.readMemory piece) := by simp [Statement, decodeTableWord]

/-- No word spells writeMemory. -/
theorem writeMemory (piece : FramePiece) : Statement (.writeMemory piece) := by simp [Statement, decodeTableWord]

/-- No word spells readRegister. -/
theorem readRegister (bytes : List Byte) : Statement (.readRegister bytes) := by simp [Statement, decodeTableWord]

/-- No word spells writeAttention. -/
theorem writeAttention (data : List Byte) : Statement (.writeAttention data) := by simp [Statement, decodeTableWord]

/-- No word spells writeAttentionMask. -/
theorem writeAttentionMask (data : List Byte) : Statement (.writeAttentionMask data) := by simp [Statement, decodeTableWord]

/-- No word spells writeRegisterIgnored. -/
theorem writeRegisterIgnored (bytes : List Byte) : Statement (.writeRegisterIgnored bytes) := by simp [Statement, decodeTableWord]

/-- No word spells unknownCommandFrame. -/
theorem unknownCommandFrame (bytes : List Byte) : Statement (.unknownCommandFrame bytes) := by simp [Statement, decodeTableWord]

/-- No word spells token. -/
theorem token : Statement .token := by simp [Statement, decodeTableWord]

/-- No word spells keypadLockoutStart. -/
theorem keypadLockoutStart : Statement .keypadLockoutStart := by simp [Statement, decodeTableWord]

/-- No word spells test. -/
theorem test : Statement .test := by simp [Statement, decodeTableWord]

/-- No word spells credit. -/
theorem credit : Statement .credit := by simp [Statement, decodeTableWord]

/-- No word spells debtAdd. -/
theorem debtAdd : Statement .debtAdd := by simp [Statement, decodeTableWord]

/-- No word spells clear. -/
theorem clear : Statement .clear := by simp [Statement, decodeTableWord]

/-- No word spells setting. -/
theorem setting : Statement .setting := by simp [Statement, decodeTableWord]

/-- No word spells windowOpen. -/
theorem windowOpen : Statement .windowOpen := by simp [Statement, decodeTableWord]

/-- No word spells tamperClear. -/
theorem tamperClear : Statement .tamperClear := by simp [Statement, decodeTableWord]

/-- No word spells keyChange. -/
theorem keyChange : Statement .keyChange := by simp [Statement, decodeTableWord]

/-- No word spells remoteOpen. -/
theorem remoteOpen : Statement .remoteOpen := by simp [Statement, decodeTableWord]

/-- No word spells remoteClose. -/
theorem remoteClose : Statement .remoteClose := by simp [Statement, decodeTableWord]

/-- No word spells reconnect. -/
theorem reconnect : Statement .reconnect := by simp [Statement, decodeTableWord]

/-- No word spells emergency. -/
theorem emergency : Statement .emergency := by simp [Statement, decodeTableWord]

/-- No word spells timeSet. -/
theorem timeSet : Statement .timeSet := by simp [Statement, decodeTableWord]

/-- No word spells calendarSubmit. -/
theorem calendarSubmit : Statement .calendarSubmit := by simp [Statement, decodeTableWord]

/-- No word spells calendarSubmitApply. -/
theorem calendarSubmitApply : Statement .calendarSubmitApply := by simp [Statement, decodeTableWord]

/-- No word spells windowCloseDiscard. -/
theorem windowCloseDiscard : Statement .windowCloseDiscard := by simp [Statement, decodeTableWord]

/-- No word spells windowCloseCommit. -/
theorem windowCloseCommit : Statement .windowCloseCommit := by simp [Statement, decodeTableWord]

/-- No word spells flagClear. -/
theorem flagClear : Statement .flagClear := by simp [Statement, decodeTableWord]

/-- No word spells kindUnknown. -/
theorem kindUnknown : Statement .kindUnknown := by simp [Statement, decodeTableWord]

/-- No word spells publicationEnd. -/
theorem publicationEnd : Statement .publicationEnd := by simp [Statement, decodeTableWord]

/-- No word spells retentionWriteComplete. -/
theorem retentionWriteComplete : Statement .retentionWriteComplete := by simp [Statement, decodeTableWord]

/-- No word spells periodicWriteDue. -/
theorem periodicWriteDue : Statement .periodicWriteDue := by simp [Statement, decodeTableWord]

/-- No word spells intervalClose. -/
theorem intervalClose (m : Measurement) : Statement (.intervalClose m) := by simp [Statement, decodeTableWord]

/-- No word spells conditionQualified. -/
theorem conditionQualified (c : Condition) : Statement (.conditionQualified c) := by simp [Statement, decodeTableWord]

/-- No word spells weldObservation. -/
theorem weldObservation : Statement .weldObservation := by simp [Statement, decodeTableWord]

/-- No word spells loadTrip. -/
theorem loadTrip : Statement .loadTrip := by simp [Statement, decodeTableWord]

/-- No word spells loadRetryExpiry. -/
theorem loadRetryExpiry : Statement .loadRetryExpiry := by simp [Statement, decodeTableWord]

/-- No word spells cleanRunComplete. -/
theorem cleanRunComplete : Statement .cleanRunComplete := by simp [Statement, decodeTableWord]

/-- No word spells stuckRetry. -/
theorem stuckRetry : Statement .stuckRetry := by simp [Statement, decodeTableWord]

/-- No word spells coilPulseEnd. -/
theorem coilPulseEnd : Statement .coilPulseEnd := by simp [Statement, decodeTableWord]

/-- No word spells confirmationWaitEnd. -/
theorem confirmationWaitEnd : Statement .confirmationWaitEnd := by simp [Statement, decodeTableWord]

/-- No word spells keypadLockoutEnd. -/
theorem keypadLockoutEnd : Statement .keypadLockoutEnd := by simp [Statement, decodeTableWord]

/-- No word spells windowExpiry. -/
theorem windowExpiry : Statement .windowExpiry := by simp [Statement, decodeTableWord]

/-- No word spells meterSecond. -/
theorem meterSecond (pins : SensePins) : Statement (.meterSecond pins) := by simp [Statement, decodeTableWord]

/-- No word spells crystalStop. -/
theorem crystalStop : Statement .crystalStop := by simp [Statement, decodeTableWord]

/-- No word spells crystalReturn. -/
theorem crystalReturn : Statement .crystalReturn := by simp [Statement, decodeTableWord]

/-- No word spells inputQualified. -/
theorem inputQualified (input : SenseInput) (samples : List Bool) : Statement (.inputQualified input samples) := by simp [Statement, decodeTableWord]

/-- No word spells holdupEntry. -/
theorem holdupEntry (p : PartMeasurement) : Statement (.holdupEntry p) := by simp [Statement, decodeTableWord]

/-- No word spells resetNLow. -/
theorem resetNLow (p : PartMeasurement) : Statement (.resetNLow p) := by simp [Statement, decodeTableWord]

/-- No word spells holdupReturn. -/
theorem holdupReturn : Statement .holdupReturn := by simp [Statement, decodeTableWord]

/-- No word spells batteryEntry. -/
theorem batteryEntry (b : BatteryInputs) : Statement (.batteryEntry b) := by simp [Statement, decodeTableWord]

/-- No word spells startEntry. -/
theorem startEntry (i : StartInputs) : Statement (.startEntry i) := by simp [Statement, decodeTableWord]

/-- No word spells resetStart. -/
theorem resetStart (i : StartInputs) : Statement (.resetStart i) := by simp [Statement, decodeTableWord]

/-- No word spells startReady. -/
theorem startReady : Statement .startReady := by simp [Statement, decodeTableWord]

/-- No word spells batteryDomainLoss. -/
theorem batteryDomainLoss : Statement .batteryDomainLoss := by simp [Statement, decodeTableWord]

/-- No word spells tokenDecodeEnd. -/
theorem tokenDecodeEnd : Statement .tokenDecodeEnd := by simp [Statement, decodeTableWord]

/-- No word spells windowClosePayloadRange. -/
theorem windowClosePayloadRange : Statement .windowClosePayloadRange := by simp [Statement, decodeTableWord]

end Sys2Proof.Laws.NoWordSpells
end

