-- ==== Sys2Proof/WellFormed.lean ====
section
/-! DEFINITION. Which operands a command can carry. A command that fails its check is no row of the table: the
machine still answers it (exec is total), but no statement of the reference speaks of it. -/

namespace Sys2Proof

/-- The check of a command's operands: the frames of WRITE_REGISTER_IGNORED and of an unknown command byte are such frames by
their bytes (R1, R4), an elapsed part is at most 1000 ms (R32), an entry to BATTERY cuts a
write off within its eight sections or its completion slot (R179), a start has five steps before its last
(R185), and a sense input is sampled at least once (R162). -/
def Instr.wellFormed : Instr → Bool
  | .writeRegisterIgnored bytes => frameCommand (0x72 :: bytes) = .writeRegisterIgnored bytes
  | .unknownCommandFrame bytes => frameCommand bytes = .unknownCommandFrame bytes
  | .inputQualified _ samples => !samples.isEmpty
  | .holdupEntry p => p.elapsed ≤ 1000
  | .resetNLow p => p.elapsed ≤ 1000
  | .batteryEntry b => b.written ≤ 8
  | .startEntry i => i.steps ≤ 5
  | .resetStart i => i.steps ≤ 5
  | .readMemory _ => true
  | .writeMemory _ => true
  | .readRegister _ => true
  | .writeAttention _ => true
  | .writeAttentionMask _ => true
  | .token => true
  | .keypadLockoutStart => true
  | .test => true
  | .credit => true
  | .debtAdd => true
  | .clear => true
  | .setting => true
  | .windowOpen => true
  | .tamperClear => true
  | .keyChange => true
  | .remoteOpen => true
  | .remoteClose => true
  | .reconnect => true
  | .emergency => true
  | .timeSet => true
  | .calendarSubmit => true
  | .calendarSubmitApply => true
  | .windowCloseDiscard => true
  | .windowCloseCommit => true
  | .flagClear => true
  | .kindUnknown => true
  | .publicationEnd => true
  | .retentionWriteComplete => true
  | .periodicWriteDue => true
  | .intervalClose _ => true
  | .conditionQualified _ => true
  | .weldObservation => true
  | .loadTrip => true
  | .loadRetryExpiry => true
  | .cleanRunComplete => true
  | .stuckRetry => true
  | .coilPulseEnd => true
  | .confirmationWaitEnd => true
  | .keypadLockoutEnd => true
  | .windowExpiry => true
  | .meterSecond _ => true
  | .crystalStop => true
  | .crystalReturn => true
  | .holdupReturn => true
  | .startReady => true
  | .batteryDomainLoss => true
  | .tokenDecodeEnd => true
  | .windowClosePayloadRange => true

end Sys2Proof
end

