-- ==== Sys2Proof/Tests/Slice0.lean ====
section
/-! SUPPORT. Tests: the checks of `WellFormed`, worked examples of the reference, one or two small steps for each command, and
states that meet the hypotheses of the statements. Expected values come from the reference or from hand calculation. -/

namespace Sys2Proof.Tests

open Sys2Proof.Machine Sys2Proof.Safety

/-! ## Small states -/

/-- What a command leaves. -/
def after (c : Instr) (s : State) : State :=
  match exec c s with
  | .next t => t
  | .fault _ => s
  | .refused _ => s

/-- A part in MAINS with factory values and a CERTAIN time. A publication is in progress, so that a test builds no pages. -/
def inMains : State :=
  { State.powered .mains [] ⟨none, none⟩ ⟨800000000, .crystal, true, false⟩ { Battery.lost with intact := true } Image.factory ⟨0, 0⟩ with
    intake := ⟨[], none, true⟩
    attn := { Attn.cleared with busy := true }
    supply := { Supply.off with power := .mains } }

/-- The same part in HOLDUP. -/
def inHoldup : State :=
  { inMains with supply := { inMains.supply with power := .holdup }, intake := ⟨[], none, false⟩ }

/-- The same part in another power state. -/
def inPower (p : Power) : State := { inMains with supply := { inMains.supply with power := p } }

/-- Slot 0 with this body, TAKEN. -/
def slotMemory (body : List Byte) : Memory := cellsFrom 0x200 (2 :: body)

/-- The entry taken from slot 0 with this body. -/
def entry (body : List Byte) : Work := takenWork (slotMemory body) 0

/-- A part whose slot 0 has just been taken with this body. -/
def takenIn (s : State) (body : List Byte) : State :=
  { s with
    mem := slotMemory body
    intake := { s.intake with work := some (entry body) }
    agenda := [dueOf (entry body)] }

/-- The code and the item byte that slot 0 shows. -/
def shown (s : State) : Byte × Byte × Byte := (s.mem.read 0x200, s.mem.read 0x204, s.mem.read 0x205)

/-- A window open with rank 4 and a staged record that has EC_AMOUNT 7. -/
def withWindow (s : State) : State :=
  { s with
    window := ⟨.opened, 4, 60, some { s.settings with ecAmount := 7 }, .none⟩
    switch := { s.switch with windowHold := 2 } }

/-- An account with a balance. -/
def withBalance (s : State) (b : Int) : State :=
  { s with credit := { s.credit with account := { s.credit.account with balance := b } } }

/-- The contactor in a state. -/
def withContactor (s : State) (c : Contactor) : State := { s with switch := { s.switch with contactor := c } }

/-- An attempt as it stands. -/
def withAttempt (s : State) (a : Attempt) (n : Nat) : State :=
  { s with switch := { s.switch with attempt := a, attemptCount := n } }

/-- A step due at once, with nothing behind it. -/
def withDue (s : State) (d : Due) : State := { s with agenda := [d] }

/-- A part in a step of a start. -/
def inStart (k : Nat) : State :=
  { State.powered .start [] ⟨none, none⟩ ⟨800000000, .crystal, true, false⟩ { Battery.lost with intact := true } Image.factory ⟨0, 0⟩ with
    supply := { Supply.off with power := .start, startStep := k } }

/-- A retention write in progress. -/
def withWrite (s : State) : State := { s with store := { s.store with writing := some ⟨1, .a, sectionsOf s⟩ } }

/-! ## WellFormed refuses an ill-formed term for each check -/

theorem test_wf_ignored_register : Instr.wellFormed (.writeRegisterIgnored [1, 0]) = false := by decide
theorem test_wf_unknown_frame : Instr.wellFormed (.unknownCommandFrame [0x61]) = false := by decide
theorem test_wf_samples : Instr.wellFormed (.inputQualified .caseIn []) = false := by decide
theorem test_wf_holdup : Instr.wellFormed (.holdupEntry ⟨1001, ⟨0, 0, 0⟩, ⟨0, 0, 0⟩⟩) = false := by decide
theorem test_wf_reset_low : Instr.wellFormed (.resetNLow ⟨1001, ⟨0, 0, 0⟩, ⟨0, 0, 0⟩⟩) = false := by decide
theorem test_wf_battery : Instr.wellFormed (.batteryEntry ⟨9, false, false⟩) = false := by decide

/-- A start on quiet pins. -/
def quietStart (k : Nat) : StartInputs := ⟨k, ⟨false, false, false⟩, ⟨false, false, false⟩, true, 3000, ⟨0, 0, 0⟩⟩

theorem test_wf_start : Instr.wellFormed (.startEntry (quietStart 6)) = false := by decide
theorem test_wf_reset_start : Instr.wellFormed (.resetStart (quietStart 6)) = false := by decide
theorem test_wf_accepts : Instr.wellFormed (.startEntry (quietStart 5)) = true ∧
    Instr.wellFormed (.writeRegisterIgnored [0, 5]) = true ∧ Instr.wellFormed (.unknownCommandFrame [0x60]) = true := by
  decide

/-! ## The queue -/

theorem test_step_idle : step State.reset = .next State.reset := rfl
theorem test_step_front : (match step { inMains with pending := [.readRegister [1, 0], .coilPulseEnd] } with
    | .next t => (t.pending, t.link.out)
    | _ => ([], none)) = ([.coilPulseEnd], some [0, 0, 0]) := by decide
theorem test_no_word_spells : decodeTableWord 8 0x61 = none := by decide

/-! ## The link (R2, R3, R4, R18, R19) -/

theorem test_read_memory :
    (after (.readMemory ⟨[0x03, 0x00, 0, 0], false⟩) { inMains with mem := [(0x300, 7), (0x301, 9)] }).link =
      ⟨some [0, 0, 0, 7, 9], none⟩ := by decide
theorem test_read_memory_wraps :
    (after (.readMemory ⟨[0xFF, 0xFF, 0, 0], false⟩) { inMains with mem := [(0, 7)] }).link = ⟨some [0, 0, 0, 0, 7], none⟩ := by
  decide
theorem test_write_memory : (after (.writeMemory ⟨[0x02, 0x01, 5, 6], false⟩) inMains).mem =
    [(0x201, 5), (0x202, 6)] := by decide
theorem test_post_takes : (fun s : State => (s.intake.work.map Work.slot, s.mem, s.agenda))
    (after (.writeMemory ⟨[0x02, 0x40, 1], false⟩) { inMains with mem := [(0x241, 3)] }) =
      (some 1, [(0x240, 2), (0x241, 3)], [.emergency]) := by decide
theorem test_read_register : (after (.readRegister [0, 0, 0, 0, 0, 0]) inMains).link.out =
    some [0, 0, 1, 1, 0, 0xFF, 0] := by decide
theorem test_write_attention :
    (after (.writeAttention [0xC5, 0xFF]) { inMains with attn := { inMains.attn with bits := 0x3F } }).attn.bits =
      0x3A := by decide
theorem test_write_attention_mask : (after (.writeAttentionMask [0xC5, 0xFF]) inMains).attn.mask = 0x05 := by decide
/-- R1, R4: the command byte and the register number of a whole frame name its command. -/
theorem test_frames : frameCommand [0x61, 2, 0, 0] = .readMemory ⟨[2, 0, 0], false⟩ ∧
    frameCommand [0x62, 2, 1, 7] = .writeMemory ⟨[2, 1, 7], false⟩ ∧ frameCommand [0x71, 1, 0, 0] = .readRegister [1, 0, 0] ∧
    frameCommand [0x72, 1, 0x3F] = .writeAttention [0x3F] ∧ frameCommand [0x72, 2, 1] = .writeAttentionMask [1] ∧
    frameCommand [0x72, 0, 5] = .writeRegisterIgnored [0, 5] ∧ frameCommand [0x60, 1] = .unknownCommandFrame [0x60, 1] := by
  decide
/-- R2: a read that is held open while a byte it has not reached changes. -/
theorem test_torn_read : (after (.readMemory ⟨[0], false⟩) { (after (.readMemory ⟨[0x02, 0x01, 0], true⟩) inMains) with mem := [(0x202, 9)] }).link =
      ⟨some [0, 0, 0, 0, 9], none⟩ := by decide
/-- R19: ATTN_N follows ATTENTION under its mask, and is released in BATTERY. -/
theorem test_attn : attnLow { inMains with attn := ⟨0x21, 0x3E, 0, 0, false, false⟩ } = true ∧
    attnLow { inMains with attn := ⟨0x21, 0x1E, 0, 0, false, false⟩ } = false ∧
    attnLow { State.reset with attn := ⟨0x21, 0x3E, 0, 0, false, false⟩ } = false := by decide
theorem test_write_register_ignored : after (.writeRegisterIgnored [0, 5]) inMains =
    { inMains with link := ⟨some [0, 0, 0], none⟩ } := rfl
theorem test_unknown_frame : after (.unknownCommandFrame [0x60, 1]) inMains =
    { inMains with link := ⟨some [0, 0], none⟩ } := rfl

/-! ## Entries -/

/-- A keypad code with a digit nibble 0xB at position 7. -/
def badDigit : List Byte := [1, 0, 0, 0, 0x00, 0x12, 0x34, 0xB0, 0, 0, 0, 0, 0, 0, 0, 0]

theorem test_token_digit : shown (after .token (takenIn inMains badDigit)) = (3, 0x11, 7) := by decide
theorem test_token_decodes : (after .token (takenIn inMains [1])).intake.work.map Work.stage = some .decoding := by decide
theorem test_reconnect_closes : (fun s : State => (s.switch.contactor, s.switch.attempt, shown s))
    (after .reconnect (takenIn (withContactor inMains .armed) [2])) = (.closing, .pulse .close, 3, 0, 0) := by decide
theorem test_reconnect_refused : shown (after .reconnect (takenIn { withContactor inMains .opened with
    switch := { inMains.switch with reasons := { Reasons.empty with credit := true } } } [2])) = (3, 0x30, 4) := by decide
theorem test_emergency_grants : (fun s : State => (s.credit.account.grant, s.credit.ecState, shown s))
    (after .emergency (takenIn inMains [3])) = (50000, .inUse, 3, 0, 0) := by decide
theorem test_emergency_refused : shown (after .emergency (takenIn (withBalance inMains 20001) [3])) = (3, 0x31, 0) := by
  decide
theorem test_time_set : (fun s : State => (s.clock.time, shown s))
    (after .timeSet (takenIn inMains [4, 0, 0, 0x2C, 0x09, 0xAF, 0x2F])) = (800000300, 3, 0, 0) := by decide
theorem test_time_set_tolerance : (fun s : State => (s.clock.time, shown s))
    (after .timeSet (takenIn inMains [4, 0, 0, 0x2D, 0x09, 0xAF, 0x2F])) = (800000000, 3, 0x32, 0) := by decide
/-- R46, R56, R176: between two day ends of a catch-up a TIME_SET issues every day end left within its apply. -/
theorem test_time_set_whole : (fun s : State => (s.agenda, s.intake.work, s.book.lastCharged, s.mem.read 0x20F))
    (after .timeSet { takenIn inMains [4, 0, 0, 0x2C, 0x09, 0xAF, 0x2F] with
      agenda := [.timeSet, .catchUp false, .friendly], catchUp := ⟨1, 1⟩
      book := { inMains.book with lastCharged := some 9256 } }) = ([], none, some 9259, 3) := by decide
theorem test_calendar_submit : (after .calendarSubmit (takenIn inMains [5])).intake.work.map Work.stage =
    some .calendar := by decide
theorem test_submit_applies : ((after .calendarSubmitApply { withWindow (takenIn inMains [5]) with
    agenda := [], intake := { inMains.intake with work := some { entry [5] with stage := .calendar } } }).book.passive.map
      Tariff.id) = some 0 := by decide
theorem test_submit_rank : shown (after .calendarSubmitApply { takenIn inMains [5] with
    agenda := [], intake := { inMains.intake with work := some { entry [5] with stage := .calendar } } }) =
      (3, 0x40, 0) := by decide
theorem test_discard : (fun s : State => (s.window, s.switch.windowHold, shown s))
    (after .windowCloseDiscard (takenIn (withWindow inMains) [6])) = (⟨.closed, 0, 0, none, .discarded⟩, 0, 3, 0, 0) := by
  decide
theorem test_commit : (fun s : State => (s.settings.ecAmount, s.window.state, s.window.rank, s.switch.windowHold))
    (after .windowCloseCommit (takenIn (withWindow inMains) [6, 0, 0, 1])) = (7, .committing, 4, 2) := by decide
theorem test_commit_closed : shown (after .windowCloseCommit (takenIn inMains [6, 0, 0, 1])) = (3, 0x34, 0) := by decide
theorem test_window_action : shown (after .windowClosePayloadRange (takenIn inMains [6, 0, 0, 2])) = (3, 0x1D, 0) := by
  decide

/-- An account with all four flags set. -/
def flagged : State := { inMains with credit := { inMains.credit with
  account := { Account.factory with balFloor := true, debtLimit := true, energySat := true, supplyLoss := true } } }

theorem test_flag_clear : (fun s : State => (s.credit.account.flagBits, s.mem.read 0x206, s.mem.read 0x207))
    (after .flagClear (takenIn flagged [7, 0, 0, 5])) = (10, 15, 10) := by decide
theorem test_flag_clear_range : (fun s : State => (s.credit.account.flagBits, shown s))
    (after .flagClear (takenIn flagged [7, 0, 0, 0x10])) = (15, 3, 0x1D, 0) := by decide
theorem test_kind_unknown : shown (after .kindUnknown (takenIn inMains [8])) = (3, 0x50, 0) := by decide

/-! ## Worked examples of the reference -/

/-- The worked example of an interval charge in 04_credit_arithmetic.md: 5,812,340 µWh at 2,873 cu with the residue at 731,000,000. -/
theorem test_interval_charge : (fun a : Account => (a.balance, a.residue, a.energyCharged))
    (chargeAccount 5812340 2873 { Account.factory with balance := 84210, residue := 731000000 }) =
      (84193, 429852820, 17) := by decide

/-- Dates of 03_meter_time_and_the_tariff_calendar.md. -/
theorem test_dates : civilDate 9202 = ⟨2025, 3, 12⟩ ∧ civilDate 9490 = ⟨2025, 12, 25⟩ ∧ civilDate 9600 = ⟨2026, 4, 14⟩ ∧
    civilDate 0 = ⟨2000, 1, 1⟩ ∧ weekday 0 = 5 := by decide

/-- R37's example: at In = 12,000 mA the allowance is 1,500 mA. -/
theorem test_bypass : bypassHolds { Meter.cleared with neutral := 12000, residual := 10400 } = true ∧
    bypassHolds { Meter.cleared with neutral := 12000, residual := 10500 } = false := by decide

/-- R69's example of a debt that meets its limit. -/
theorem test_debt_limit : (fun a : Account => (a.debt, a.debtAdded, a.debtLimit))
    (debtAccount 100000 { Account.factory with debt := 9999990000 }) = (9999999999, 9999, true) := by decide

/-- R96: a serial that closes a gap compacts the spent set. -/
theorem test_serial_compacts : (fun k : KeySlot => (k.floor, k.spent, k.lastSerial))
    (({ KeySlot.factory with floor := 40, spent := [42, 43, 47] } : KeySlot).spend 41) = (43, [47], 41) := by decide

/-- Section 11.5 and R78: the balance display of −12,500 cu. -/
theorem test_balance_display : balanceDisplay (-12500) = [0x01, 0x00, 0x00, 0x00, 0x00, 0x01, 0x25, 0x00] := by decide

/-! ## Timed commands -/

theorem test_publication_end : (fun s : State => (s.attn.bits, s.attn.busy))
    (after .publicationEnd { inMains with attn := { inMains.attn with inFlight := 1 } }) = (1, false) := by decide
theorem test_write_complete : (fun s : State => (s.store.lastNumber, s.store.lastSet, s.store.writing, s.store.image.slot0))
    (after .retentionWriteComplete (withWrite inMains)) = (1, .a, none, ⟨1, true⟩) := by decide
theorem test_periodic_write : (after .periodicWriteDue (withDue inMains .periodicWriteDue)).store.writing.map Write.number =
    some 1 := by decide

/-- A measurement of R33's kind: 2,000,000, −500,000 and 1,000,000 µWh at currents that count. -/
def sample : Measurement :=
  ⟨⟨2000000, -500000, 1000000⟩, ⟨2300, 2300, 2300⟩, ⟨9000, 2000, 4000⟩, 0, 0, 50000, ⟨false, false, false⟩, 2500⟩

theorem test_interval_absolute : (fun s : State => (s.energy.total, s.energy.exported, s.supply.batteryLow))
    (after (.intervalClose sample) inMains) = (3500000, 0, true) := by decide
theorem test_interval_forward : (fun s : State => (s.energy.total, s.energy.exported))
    (after (.intervalClose sample) { inMains with meter := { inMains.meter with law := 1 } }) = (3000000, 500000) := by decide
theorem test_condition : (fun s : State => (s.meter.reverse, s.tamper.records[kindReverse].state))
    (after (.conditionQualified .reverse) (withDue { inMains with
      meter := { inMains.meter with reverse := ⟨false, 10⟩ } } (.conditionQualified .reverse))) =
      (⟨true, 0⟩, .active) := by decide
theorem test_weld : (fun s : State => (s.switch.contactor, s.switch.stuckTimer, s.switch.fault, s.meter.weld))
    (after .weldObservation (withDue { inMains with meter := { inMains.meter with weld := 3 } } .weldObservation)) =
      (.stuck, 60, true, 0) := by decide
theorem test_load_trip : (fun s : State => (s.switch.kept.tripCount, s.switch.retryTimer, s.switch.contactor, s.switch.reasons.load))
    (after .loadTrip (withDue (withContactor inMains .closed) .loadTrip)) = (1, 60, .opening, true) := by decide

/-- LOAD active, with a number of trips. -/
def tripped (n : Nat) : State := { inMains with switch := { inMains.switch with
  reasons := { Reasons.empty with load := true }, kept := { SwitchKept.factory with tripCount := n } } }

theorem test_load_retry : (fun s : State => (s.switch.reasons.load, s.switch.kept.loadLatch, s.switch.contactor))
    (after .loadRetryExpiry (withDue (tripped 1) .loadRetryExpiry)) = (false, false, .closing) := by decide
theorem test_load_latch : (fun s : State => (s.switch.reasons.load, s.switch.kept.loadLatch, s.switch.contactor))
    (after .loadRetryExpiry (withDue (tripped 3) .loadRetryExpiry)) = (true, true, .opened) := by decide
theorem test_clean_run : (after .cleanRunComplete (withDue (tripped 3) .cleanRunComplete)).switch.kept.tripCount = 0 := by
  decide
theorem test_stuck_retry : (fun s : State => (s.switch.attempt, s.switch.attemptCount, s.switch.kept.commandedClosed))
    (after .stuckRetry (withDue (withContactor inMains .stuck) .stuckRetry)) = (.pulse .close, 1, false) := by decide
theorem test_pulse_end : (after .coilPulseEnd (withAttempt inMains (.pulse .open) 1)).switch.attempt = .wait .open := by
  decide
theorem test_pulse_end_holdup : (after .coilPulseEnd (withAttempt inHoldup (.pulse .open) 1)).switch.attempt =
    .rewait .open := by decide
theorem test_wait_end : (after .confirmationWaitEnd (withAttempt inMains (.wait .open) 1)).switch.attempt =
    .judge .open := by decide
theorem test_judge_open_fails : (fun s : State => (s.switch.contactor, s.switch.stuckTimer, s.switch.fault))
    (runDue .judge { withAttempt (withContactor inMains .opening) (.judge .open) 3 with
      meter := { inMains.meter with loadSide := ⟨true, false, false⟩ } }) = (.stuck, 60, true) := by decide
theorem test_lockout_start : (fun s : State => (s.decoder.lockout, s.decoder.badCount, s.tamper.records[kindKeypad].count))
    (after .keypadLockoutStart (withDue { inMains with decoder := { inMains.decoder with badCount := 4 } }
      .keypadLockoutStart)) = (1800, 0, 1) := by decide
theorem test_lockout_end : (fun s : State => (s.decoder.lockout, s.tamper.records[kindKeypad].state))
    (after .keypadLockoutEnd (withDue (runDue .keypadLockoutStart inMains) .keypadLockoutEnd)) = (0, .latched) := by decide
theorem test_window_expiry : (after .windowExpiry (withDue (withWindow inMains) .windowExpiry)).window =
    ⟨.closed, 0, 0, none, .expired⟩ := by decide
theorem test_second : (after (.meterSecond ⟨false, false, false⟩) inMains).clock.time = 800000001 := by decide
theorem test_second_battery : (fun s : State => (s.clock.time, s.battery.caseIn))
    (after (.meterSecond ⟨true, false, false⟩) { State.reset with battery := { Battery.lost with intact := true } }) =
      (1, ⟨1, 1, true, 5⟩) := by decide
theorem test_crystal_stop : (fun s : State => (s.clock, s.tamper.records[kindClock].state, s.attn.due))
    (after .crystalStop inMains) = (⟨800000000, .backup, false, false⟩, .active, 0x28) := by decide
theorem test_crystal_return : (fun s : State => (s.clock, s.tamper.records[kindClock].state))
    (after .crystalReturn (after .crystalStop inMains)) = (⟨800000000, .crystal, false, false⟩, .latched) := by decide
theorem test_input : (fun s : State => (s.tamper.caseIn, s.tamper.records[kindCase].state))
    (after (.inputQualified .caseIn [true, true, true, true, true]) inMains) = (⟨true, 0, true⟩, .active) := by decide
theorem test_input_short : (fun s : State => (s.tamper.caseIn, s.tamper.records[kindCase].state))
    (after (.inputQualified .caseIn [true, true, true, true]) inMains) = (⟨false, 4, true⟩, .clear) := by decide

/-! ## Tokens, at the end of their decode -/

/-- A decode that has ended with this class, serial and payload under key slot 0. -/
def decodedAs (s : State) (cls serial payload : Nat) : Decoded := ⟨entry [1], 0, s.decoder.key0, ⟨cls, serial, payload, 0, 0⟩⟩

/-- A TOKEN entry in slot 0, in its decode. -/
def decoding (s : State) : State :=
  { s with mem := slotMemory [1], intake := { s.intake with work := some { entry [1] with stage := .decoding } } }

/-- The worked example of a top-up in 04_credit_arithmetic.md: 200,000 cu at a balance of −12,500 with a debt of 35,000. -/
theorem test_topup : (fun s : State => (s.credit.account.balance, s.credit.account.debt, s.decoder.lastToken.serial))
    (applyCredit (decodedAs inMains 1 7 2000) { decoding (withBalance inMains (-12500)) with
      settings := { inMains.settings with debtRate := 25 }
      credit := { inMains.credit with account :=
        { Account.factory with balance := -12500, debt := 35000, grant := 50000 } } }) =
      (152500, 0, 7) := by decide
theorem test_topup_limit : shown (applyCredit (decodedAs inMains 1 7 1) (decoding (withBalance inMains 9999999900))) =
    (3, 0x1E, 0) := by decide
theorem test_test_token : (fun s : State => (s.decoder.lastToken, s.decoder.key0.lastSerial, shown s))
    (applyTest (decodedAs inMains 0 0 0) (decoding inMains)) = (⟨0, 0, 0, 0⟩, 0, 3, 0, 0) := by decide
theorem test_debt_add : (applyDebtAdd (decodedAs inMains 2 1 5) (decoding inMains)).credit.account.debt = 500 := by decide
theorem test_clear : (applyClear (decodedAs inMains 3 1 1) (decoding (withBalance inMains 55))).credit.account.balance = 0 := by
  decide
theorem test_setting : (fun s : State => (s.window.staged.map Settings.debtRate, s.settings.debtRate))
    (applySetting (decodedAs inMains 4 1 (13 * 2 ^ 24 + 25)) (decoding (withWindow inMains))) = (some 25, 0) := by decide
theorem test_setting_unknown : shown (applySetting (decodedAs inMains 4 1 (20 * 2 ^ 24)) (decoding (withWindow inMains))) =
    (3, 0x22, 20) := by decide
theorem test_window_open : (fun s : State => (s.window.state, s.window.rank, s.window.remaining, s.switch.hold))
    (applyWindowOpen (decodedAs inMains 5 1 240) (decoding inMains)) = (.opened, 4, 14400, 2) := by decide
theorem test_tamper_clear : (applyTamperClear (decodedAs inMains 6 1 0x100) (decoding (after .crystalReturn
    (after .crystalStop inMains)))).tamper.records[kindClock].state = .clear := by decide
theorem test_key_change : (fun s : State => (s.decoder.key1.present, s.decoder.key1.authority, s.decoder.key1.revision,
      s.decoder.key0.floor))
    (applyKeyChange (decodedAs inMains 7 1 (2 ^ 30 + 2 * 2 ^ 28 + 5 * 2 ^ 20)) (decoding inMains)) = (true, 3, 5, 1) := by
  decide
theorem test_remote_open : (fun s : State => (s.decoder.remoteOrder, s.switch.contactor, s.switch.governing))
    (applyRemote true (decodedAs inMains 8 1 0) (decoding (withContactor inMains .closed))) = (true, .opening, .remote) := by
  decide
theorem test_remote_close : (fun s : State => (s.decoder.remoteOrder, s.switch.contactor))
    (applyRemote false (decodedAs inMains 9 1 0) (decoding (applyRemote true (decodedAs inMains 8 1 0)
      (decoding inMains)))) = (false, .armed) := by decide
/-- The check of the message 0x31323334353637, computed by hand as that section's CRC-16 says. -/
theorem test_check : crc16 (messageBits 0x313233343536370000) = 0x7718 := by decide +kernel
theorem test_bad_code : (fun s : State => (s.decoder.badCount, shown s))
    (refuseBadCode ⟨.checkFail, 0, []⟩ (decoding inMains)) = (1, 3, 0x16, 0) := by decide

/-! ## The supply -/

/-- A part of an interval. -/
def half : PartMeasurement := ⟨500, ⟨1000, 0, 0⟩, ⟨9000, 0, 0⟩⟩

theorem test_holdup : (fun s : State => (s.supply.power, s.intake.ready, s.attn.bits, s.energy.total, s.store.writing.isSome))
    (after (.holdupEntry half) inMains) = (.holdup, false, 0x10, 1000, true) := by decide
theorem test_reset_low : (fun s : State => (s.supply.resetHold, s.supply.resetWrite))
    (after (.resetNLow half) inMains) = (true, .waiting .current) := by decide
theorem test_holdup_return : (fun s : State => (s.supply.power, s.intake.ready)) (after .holdupReturn inHoldup) =
    (.mains, true) := by decide
theorem test_battery : (fun s : State => (s.supply.power, s.battery.supplyLoss, s.store.image.setA.account))
    (after (.batteryEntry ⟨0, false, false⟩) (withWrite inHoldup)) = (.battery, true, ⟨1, false, Account.factory⟩) := by decide
theorem test_domain_loss : (after .batteryDomainLoss { State.reset with clock := ⟨5, .backup, false, true⟩ }).clock =
    ⟨0, .crystal, false, false⟩ := by decide
theorem test_start : (fun s : State => (s.supply.power, s.supply.cause, s.supply.startStep, s.switch.contactor))
    (after (.startEntry (quietStart 4)) State.reset) = (.start, .powerOn, 4, .opened) := by decide
theorem test_reset_start : (fun s : State => (s.supply.power, s.supply.cause, s.supply.startStep))
    (after (.resetStart (quietStart 1)) { inHoldup with
      supply := { inHoldup.supply with resetHold := true, resetWrite := .done } }) = (.start, .resetPin, 1) := by decide
theorem test_low_outlasts_reset : (after (.resetStart (quietStart 1)) { inHoldup with
    supply := { inHoldup.supply with resetHold := true, resetWrite := .done, vsLow := true } }).supply.vsLow = true := by decide
/-- R20: step 5 leaves no frame in progress, whatever has been shifted out. -/
theorem test_start_ends_frame : (clearExchange { inStart 4 with link := ⟨some [0, 0, 0], some ⟨true, .data 5⟩⟩ }).link =
    ⟨some [0, 0, 0], none⟩ := rfl
theorem test_start_ready : (fun s : State => (s.supply.power, s.intake.ready, s.store.lastNumber))
    (after .startReady (withWrite (inStart 5))) = (.mains, true, 1) := by decide
theorem test_start_ready_low : (fun s : State => (s.supply.power, s.intake.ready))
    (after .startReady (after (.holdupEntry half) (withWrite (inStart 5)))) = (.holdup, false) ∧
    (after .startReady (after .holdupReturn (after (.holdupEntry half) (withWrite (inStart 5))))).supply.power = .mains := by
  decide
/-- R113: the partial close at HOLDUP entry takes the last lockout second, and the hold-up write holds what follows. -/
theorem test_holdup_lockout : (fun s : State =>
      (s.decoder.lockout, s.store.writing.map fun w => (w.sections.decoder.lockout, w.sections.records[kindKeypad].state)))
    (after (.holdupEntry half) { runDue .keypadLockoutStart inMains with
      store := inMains.store, decoder := { inMains.decoder with lockout := 1 } }) = (0, some (0, .latched)) := by decide
/-- R179: with slot 0 written last the next write goes to slot 1, also after a start at which no copy passes. -/
theorem test_other_slot : (fun i : Image => (i.slot0, i.slot1.number))
    ((({ Image.factory with slot0 := ⟨3, false⟩, slot1 := ⟨2, false⟩, lastSlot := some .slot0 } : Image)).recorded 1) =
      (⟨3, false⟩, 1) := by decide

/-- The last `n` decimal digits of a number, most significant first. -/
def lastDigits : Nat → Nat → List Nat
  | 0, _ => []
  | n + 1, v => lastDigits n (v / 10) ++ [v % 10]

theorem decimal_lastDigits (n v : Nat) : decimal (lastDigits n v) = v % 10 ^ n := by
  induction n generalizing v with
  | zero => simp [lastDigits, decimal, Nat.mod_one]
  | succ n ih =>
    have h := ih (v / 10)
    simp only [decimal] at h
    simp only [lastDigits, decimal, List.foldl_append, List.foldl_cons, List.foldl_nil, h]
    rw [pow_succ, mul_comm (10 ^ n) 10, Nat.mod_mul]; omega

/-- A TOKEN entry of slot 0, in its decode, whose 24 digits spell a number. -/
def codeOf (v : Nat) : Work := ⟨0, [1, 0, 0, 0] ++ packedDecimal 12 v ++ zeros 47, .decoding⟩

theorem codeOf_digits (v : Nat) : (codeOf v).digits = lastDigits 24 v := by
  simp [Work.digits, codeOf, Work.byteAt, packedDecimal, lastDigits, List.range, List.range.loop, Nat.div_div_eq_div_mul,
    zeros]
  and_intros <;> omega

theorem codeOf_value {v : Nat} (h : v < 10 ^ 22) : (codeOf v).selector = 0 ∧ (codeOf v).bodyValue = v := by
  have e : (lastDigits 24 v) = lastDigits 2 (v / 10 ^ 22) ++ lastDigits 22 v := by
    simp [lastDigits, Nat.div_div_eq_div_mul]
  constructor
  · rw [Work.selector, codeOf_digits, e, List.take_append_of_le_length (by simp [lastDigits]),
      List.take_of_length_le (by simp [lastDigits]), decimal_lastDigits, Nat.div_eq_of_lt h]
    rfl
  · rw [Work.bodyValue, codeOf_digits, e, List.drop_append_of_le_length (by simp [lastDigits]),
      List.drop_of_length_le (by simp [lastDigits]), List.nil_append, decimal_lastDigits, Nat.mod_eq_of_lt h]


/-- A plaintext with its check field. -/
def plainOfFields (cls serial payload : Nat) : Block :=
  let m : Block := BitVec.ofNat 72 (cls * 2 ^ 68 + serial * 2 ^ 48 + payload * 2 ^ 16)
  m ||| (crc16 (messageBits m)).setWidth 72

/-- The entry whose decode under key slot 0 ends with a plaintext. -/
def codeFor (s : State) (p : Block) : Work := codeOf (Config.transform s.decoder.key0.key p).toNat

/-- A part at the end of the decode of that entry. -/
def decodingEnd (s : State) (p : Block) : State :=
  { s with mem := [(0x200, 2)], intake := ⟨[], some (codeFor s p), true⟩, agenda := [] }

theorem codeFor_value (s : State) (p : Block) : (codeFor s p).selector = 0 ∧
    (codeFor s p).bodyValue = (Config.transform s.decoder.key0.key p).toNat :=
  codeOf_value (lt_trans (BitVec.isLt _) (by norm_num))

theorem decode_ends (s : State) (p : Block) (h : s.supply.power = .mains) :
    DecodeEnds (decodingEnd s p) (codeFor s p) p where
  canonical := by show Memory.wf [(0x200, 2)] = true; decide
  slot := Nat.zero_lt_succ _
  waiting := by simp [decodingEnd]
  work := rfl
  stage := rfl
  idle := rfl
  power := .inl h
  body := by
    rw [(codeFor_value s p).2, tokenKey, (codeFor_value s p).1]
    exact (BitVec.ofNat_toNat _ _).trans (BitVec.setWidth_eq _)

theorem passes (s : State) (p : Block) (cls min : Nat) (h : s.supply.power = .mains) (hg : Genuine p)
    (hc : tokenClass p = cls) (hs : serialCheck s.decoder.key0 cls (tokenSerial p) min = none) :
    Passes (decodingEnd s p) (codeFor s p) p cls min :=
  { decode_ends s p h with
    genuine := hg
    named := hc
    checks := by rw [tokenKey, (codeFor_value s p).1]; exact hs }

/-! ## States that meet the hypotheses of the statements, one theorem for each -/

theorem taken_witness (s : State) (body : List Byte) (h : s.intake.list = []) :
    Taken (takenIn s body) (entry body) where
  canonical := by
    have h := Memory.wf_splice (m := []) rfl 0x200 (2 :: body)
    rwa [show Memory.splice [] 0x200 (2 :: body) = slotMemory body by simp [Memory.splice, slotMemory]] at h
  slot := Nat.zero_lt_succ _
  waiting := by simp [takenIn, h]
  work := rfl
  stage := rfl
  due := rfl

/-- A part in MAINS whose blocks agree, with a publication in progress and commands waiting. -/
def lawful (cs : List Instr) : State :=
  { withBalance inMains 100000 with
    pending := cs
    mem := [(0, 1)]
    credit := { Credit.cleared with account := { Account.factory with balance := 100000, credited := 100000 } } }

theorem lawful_settings (p : Settings) (h : p = Settings.factory) : LawfulSettings p := by
  subst h; intro id h1 h2; interval_cases id <;> decide

theorem lawful_account (b : Nat) (h : b ≤ 9999999999) :
    LawfulAccount { Account.factory with balance := b, credited := b } := by
  constructor <;> constructor <;> simp [Account.factory]
  omega

theorem lawful_keys : LawfulKeys Decoder.factory := by
  have h : ∀ k : KeySlot, k.spent = [] → k.floor = 0 → k.lastSerial = 0 → LawfulKey k := fun k h1 h2 h3 =>
    ⟨by simp [h1], by simp [h1], by simp [h1], by omega, .inl (by omega)⟩
  exact ⟨h _ rfl rfl rfl, h _ rfl rfl rfl, h _ rfl rfl rfl, h _ rfl rfl rfl⟩

theorem lawful_tariff (n a : Nat) (h : n ≤ 65535) (ha : a ≤ 4294967295) :
    LawfulTariff { CalendarBook.factory.active with id := n, activation := a } := by
  constructor <;> simp [CalendarBook.factory, Tariff.factory, Bands.toList, Bands.zero, *]

theorem lawful_book : LawfulBook CalendarBook.factory :=
  ⟨lawful_tariff 0 0 (by norm_num) (by norm_num), fun _ h => by cases h⟩

/-- A calendar at the ends of the ranges of R47. -/
def edgeTariff : Tariff where
  id := 65535
  offset := 840
  prices := ⟨999999, 0, 0, 0, 0, 999999⟩
  defaultBand := 5
  switchPoints := [⟨0xFF, 1439, 5⟩, ⟨0x7F, 0, 0⟩, ⟨0x80, 0, 5⟩]
  holidays := [⟨0, 2, 29⟩, ⟨2000, 2, 29⟩, ⟨2135, 12, 31⟩]
  windows := [⟨0xFF, 1439, 1440⟩, ⟨0xFF, 0, 1⟩]
  standing := 10000000
  activation := 4294967295

/-- SettingsStayLawful, IntervalsMeasureAndCharge, HoldupBegins: the ends of R47's ranges are lawful, and a band of 6 is not. -/
theorem witness_tariff : LawfulTariff edgeTariff ∧ ¬LawfulTariff { edgeTariff with defaultBand := 6 } ∧
    LawfulBook { CalendarBook.factory with active := edgeTariff, passive := some edgeTariff } := by
  have h : LawfulTariff edgeTariff := by constructor <;> decide
  exact ⟨h, fun x => absurd x.defaultBand (by decide), h, fun _ e => by cases e; exact h⟩

/-- SwitchStaysSettled: LOAD governs over CREDIT at one level, above a window's hold, with the factory settings but LOAD_LEVEL
and CREDIT_LEVEL at 3. -/
theorem witness_rules : ∃ s : State, LawfulSettings s.settings ∧ s.settings.loadLevel = s.settings.creditLevel ∧
    holdLevel s = 2 ∧ governingReason s = .load ∧ isIn .credit (actingSet s) = true := by
  refine ⟨{ inMains with
      settings := { Settings.factory with loadLevel := 3, creditLevel := 3 }
      switch := { inMains.switch with windowHold := 2, reasons := ⟨false, false, true, true⟩ } }, ?_,
    by decide, by decide, by decide, by decide⟩
  intro id h1 h2; interval_cases id <;> decide

/-- SettingTokensStage: the ends of a setting's range of R130, and of an input mode's of R131. -/
theorem test_setting_range : SettingRange 4 30 ∧ SettingRange 4 3600 ∧ ¬SettingRange 4 29 ∧ ¬SettingRange 4 3601 ∧
    SettingRange 17 1 ∧ SettingRange 19 0x3FF ∧ ¬SettingRange 18 0x300 ∧ ¬SettingRange 18 0x401 := by
  refine ⟨?_, ?_, ?_, ?_, ?_, ?_, ?_, ?_⟩ <;> decide

/-- MemoryStaysCanonical, AccountsStayLawful, SettingsStayLawful, KeysStayLawful, EnergyStaysSummed, EnergyNeverFalls,
SwitchStaysSettled, ReasonsStayAgreed, CounterKeepsTelling: a state of MAINS with a command in front. -/
theorem witness_invariants : (lawful [.coilPulseEnd]).mem.wf = true ∧ SettingsLawful (lawful [.coilPulseEnd]) ∧
    CalendarsLawful (lawful [.coilPulseEnd]) ∧ AccountsLawful (lawful [.coilPulseEnd]) ∧ KeysLawful (lawful [.coilPulseEnd]) ∧
    EnergySumsUp (lawful [.coilPulseEnd]) ∧ SwitchSettled (lawful [.coilPulseEnd]) ∧
    ReasonsAgree (lawful [.coilPulseEnd]) ∧ CounterTells (lawful [.coilPulseEnd]) ∧
    (lawful [.coilPulseEnd]).supply.power ≠ .start ∧ ∃ t, step (lawful [.coilPulseEnd]) = .next t := by
  have hs : LawfulSettings Settings.factory := lawful_settings _ rfl
  have ha := lawful_account 100000 (by norm_num)
  have hf := lawful_account 0 (by norm_num)
  refine ⟨by decide, ⟨hs, by simp [lawful, withBalance, inMains, State.powered, Window.cleared], hs, hs, ?_⟩,
    ⟨lawful_book, lawful_book, lawful_book, ?_⟩,
    ⟨ha, hf, hf, ?_⟩, ⟨lawful_keys, lawful_keys, lawful_keys, ?_⟩, ⟨by unfold SumsUp; decide, by unfold SumsUp; decide, by unfold SumsUp; decide, ?_⟩,
    ⟨fun _ => by decide, fun _ => by decide, fun _ => by decide⟩,
    ⟨fun _ => by decide, fun _ => by decide, fun _ => by decide, fun _ => by decide, fun _ => by decide⟩,
    by unfold CounterTells; decide, by decide, ⟨_, rfl⟩⟩ <;>
  · intro w hw; cases hw

/-- SlotsStayAgreed: the state above with slot 1 POSTED and slot 0 TAKEN. -/
theorem witness_slots : ∃ s : State, s.mem.wf = true ∧ SlotsAgree s ∧ s.intake.list = [1] ∧ ∃ t, step s = .next t := by
  refine ⟨{ inMains with mem := [(0x200, 2), (0x240, 1)], intake := ⟨[1], some ⟨0, [], .decoding⟩, true⟩ }, by decide,
    ⟨by decide, by decide, by decide, ?_, ?_⟩, rfl, ⟨_, rfl⟩⟩
  · intro w hw; cases hw; decide
  · intro n hn
    simp only [Option.some.injEq, exists_eq_left']
    interval_cases n <;> decide

/-- ReadMemoryReturnsTheMemory, WrittenBytesAreStored: no frame in progress, one of the other kind, and one that stands before the
byte for the last address there is. -/
theorem witness_frames : inMains.agenda = [] ∧ (∀ w, NoFrame w inMains) ∧ inMains.supply.power ≠ .battery ∧
    (∀ w, ∃ s : State, s.agenda = [] ∧ InFrame w 65535 s ∧ NoFrame (!w) s) ∧
    ∃ s : State, s.agenda = [] ∧ NoFrame false s ∧ NoFrame true s ∧ s.supply.power = .battery := by
  refine ⟨rfl, fun w f h => (by cases h), by decide, fun w => ⟨{ inMains with link := ⟨some [0, 0, 0], some ⟨w, .data 65535⟩⟩ },
    rfl, ⟨rfl, by decide, by simp [inMains]⟩, ?_⟩, State.reset, rfl, ?_, ?_, rfl⟩
  · intro f h; cases h; cases w <;> decide
  · intro f h; cases h
  · intro f h; cases h

/-- RegisterWritesReachAttention: a publication that carries bit 0, MAINS for a HOLDUP entry, and a hold-up for a return. -/
theorem witness_attention : inMains.agenda = [] ∧ inMains.supply.power = .mains ∧ inMains.attn.busy = true ∧
    (∃ s : State, s.agenda = [] ∧ s.supply.power = .mains ∧ s.attn.busy = true ∧ s.attn.inFlight.getLsbD 0 = true) ∧
    inHoldup.agenda = [] ∧ inHoldup.supply.power = .holdup ∧ inHoldup.supply.resetHold = false ∧ inHoldup.intake.list = [] :=
  ⟨rfl, rfl, rfl, ⟨{ inMains with attn := { inMains.attn with inFlight := 1 } }, rfl, rfl, rfl, rfl⟩, rfl, rfl, rfl, rfl⟩

/-- StepTakesFrontCommand: an empty queue, and bytes that name no frame type and no register. -/
theorem witness_registers : inMains.agenda = [] ∧ inMains.pending = [] ∧ ((0x60 : Byte) ≠ 0x61 ∧ (0x60 : Byte) ≠ 0x62 ∧
    (0x60 : Byte) ≠ 0x71 ∧ (0x60 : Byte) ≠ 0x72) ∧ ((0 : Byte) ≠ 1 ∧ (0 : Byte) ≠ 2) := by decide

/-- WrittenBytesAreStored: a whole slot body, and the last byte of an unlocked image. -/
theorem witness_stored : ∃ s : State, s.agenda = [] ∧ s.mem.wf = true ∧ s.supply.power = .mains ∧
    (slotBase 15 < 256 * (0x05 : Byte).toNat + (0xC1 : Byte).toNat ∧
      256 * (0x05 : Byte).toNat + (0xC1 : Byte).toNat + 63 ≤ slotBase 15 + 64 ∧ ownerOf s.mem 15 = ownerEmpty) ∧
    (256 * (0x0B : Byte).toNat + (0xFF : Byte).toNat + 1 ≤ 0xC00 ∧ ∀ w, s.intake.work = some w → w.kind ≠ 5) := by
  exact ⟨inMains, rfl, rfl, rfl, by decide, by decide, by simp [inMains]⟩

/-- WrittenBytesAreIgnored: START; a page, an unused address, a held slot body and a locked image in MAINS. -/
theorem witness_ignored : (inStart 0).agenda = [] ∧ (inStart 0).supply.power = .start ∧
    ∃ s : State, s.agenda = [] ∧ inPages 0x13FF = true ∧ ownerOf s.mem 0 ≠ ownerEmpty ∧
      ∃ w, s.intake.work = some w ∧ w.kind = 5 :=
  ⟨rfl, rfl, { takenIn inMains [5] with agenda := [] }, rfl, by decide, by decide, _, rfl, by decide⟩

/-- PostingAnEntry: each of its two cases. -/
theorem witness_posting : (∃ s : State, s.agenda = [] ∧ s.mem.wf = true ∧ s.supply.power = .mains ∧
      ownerOf s.mem 15 = ownerEmpty ∧ s.intake.work ≠ none) ∧
    (∃ s : State, s.agenda = [] ∧ s.mem.wf = true ∧ s.supply.power = .mains ∧ ownerOf s.mem 15 = ownerEmpty ∧
      s.intake.work = none ∧ s.intake.ready = true ∧ s.intake.list = []) ∧
    256 * (0x05 : Byte).toNat + (0xC0 : Byte).toNat = slotBase 15 :=
  ⟨⟨{ takenIn inMains [1] with agenda := [] }, rfl, by decide, rfl, by decide, by simp [takenIn]⟩,
    ⟨inMains, rfl, rfl, rfl, by decide, rfl, rfl, rfl⟩, by decide⟩

/-- OwnerBytesWithdrawAndReturn: a POSTED slot, a DONE one and a TAKEN one; an EMPTY one in MAINS and in START; a list to take
from; and an entry in work. -/
theorem witness_owner : ∃ s : State, s.agenda = [] ∧ s.mem.wf = true ∧ s.supply.power = .holdup ∧
    ownerOf s.mem 0 = ownerPosted ∧ ownerOf s.mem 1 = ownerDone ∧ ownerOf s.mem 2 = ownerTaken :=
  ⟨{ inHoldup with mem := [(0x200, 1), (0x240, 3), (0x280, 2)] }, rfl, by decide, rfl, by decide, by decide, by decide⟩
theorem witness_owner_moves : (ownerOf inMains.mem 15 = ownerEmpty ∧ inMains.supply.power = .mains) ∧
    (ownerOf (inStart 1).mem 15 = ownerEmpty ∧ (inStart 1).agenda = [] ∧ (inStart 1).supply.power = .start) ∧
    (∃ s : State, s.mem.wf = true ∧ s.intake.work = none ∧ s.intake.ready = true ∧ s.intake.list = [15]) ∧
    ∃ s w, OwnSlot s w ∧ s.intake.work = some w :=
  ⟨by decide, by decide, ⟨{ inMains with mem := [(0x5C0, 1)], intake := ⟨[15], none, true⟩ }, by decide, rfl, rfl, rfl⟩,
    ⟨_, _, (taken_witness inMains [1] rfl).toOwnSlot, rfl⟩⟩

/-- PlainEntriesComplete: kinds 0, 8 and 255, the action 2, and masks of both sorts. -/
theorem witness_plain : (entry [0]).kind = 0 ∧ (entry [8]).kind = 8 ∧ (entry [255]).kind = 255 ∧
    ((entry [6, 0, 0, 2]).kind = 6 ∧ (entry [6, 0, 0, 2]).byteAt 4 = 2) ∧
    ((entry [7, 0, 0, 15]).kind = 7 ∧ (entry [7, 0, 0, 15]).byteAt 4 = 15) ∧ (entry [7, 0, 0, 16]).byteAt 4 = 16 ∧
    ∀ body, Taken (takenIn inMains body) (entry body) :=
  ⟨by decide, by decide, by decide, by decide, by decide, by decide, fun b => taken_witness _ b rfl⟩

/-- A keypad code with the body 9,999,999,999,999,999,999,999, above every block. -/
def tooLarge : List Byte := [1, 0, 0, 0, 0x00, 0x99, 0x99, 0x99, 0x99, 0x99, 0x99, 0x99, 0x99, 0x99, 0x99, 0x99]

/-- TokenPreChecks: an entry that passes, one that fails, and the fifth bad code. -/
theorem witness_prechecks : (∀ s body, s.intake.list = [] → Taken (takenIn s body) (entry body)) ∧
    preCheck (takenIn inMains [1]) (entry [1]) = none ∧
    (preCheck (takenIn inMains badDigit) (entry badDigit)).map Result.code = some .digitInvalid ∧
    (preCheck (takenIn inMains tooLarge) (entry tooLarge)).map Result.code = some .bodyRange ∧
    (preCheck (takenIn { inMains with decoder := { inMains.decoder with badCount := 4 } } tooLarge)
      (entry tooLarge)).map Result.code = some .bodyRange :=
  ⟨taken_witness, by decide +kernel, by decide +kernel, by decide +kernel, by decide +kernel⟩

/-- KeypadLockoutStartsAndEnds: its two beginnings and its end. -/
theorem witness_lockout : (∃ s w r, OwnSlot s w ∧ s.intake.work = some w ∧
      s.agenda = [.keypadLockoutStart, .complete r] ∧ s.tamper.records[kindKeypad].state ≠ .active) ∧
    (∃ s w r, OwnSlot s w ∧ s.intake.work = some w ∧
      s.agenda = [.keypadLockoutStart, .complete r] ∧ s.tamper.records[kindKeypad].state = .active) ∧
    ∃ s : State, s.agenda = [.keypadLockoutEnd, .windowCount, .periodicCount, .publish] := by
  have h := (taken_witness inMains [1] rfl).toOwnSlot
  exact ⟨⟨{ takenIn inMains [1] with agenda := [.keypadLockoutStart, .complete ⟨.bodyRange, 0, []⟩] }, entry [1], _,
      ⟨h.canonical, h.slot, h.waiting⟩, rfl, rfl, by decide⟩,
    ⟨{ takenIn inMains [1] with
        agenda := [.keypadLockoutStart, .complete ⟨.bodyRange, 0, []⟩]
        tamper := { inMains.tamper with
          records := inMains.tamper.records.set kindKeypad { TamperRecord.cleared with state := .active } } },
      entry [1], _, ⟨h.canonical, h.slot, h.waiting⟩, rfl, rfl, by decide⟩,
    { inMains with agenda := [.keypadLockoutEnd, .windowCount, .periodicCount, .publish] }, rfl⟩

/-- ReconnectClosesOrTellsWhy: accepted in MAINS and in HOLDUP, and refused. -/
theorem witness_reconnect : (∀ s, s.intake.list = [] → Taken (takenIn s [2]) (entry [2])) ∧ (entry [2]).kind = 2 ∧
    actingSet (reconnected (withContactor inMains .armed)) = Reasons.empty ∧
    actingSet (reconnected (withContactor inHoldup .opened)) = Reasons.empty ∧
    actingSet (reconnected { inMains with switch := { inMains.switch with
      reasons := { Reasons.empty with credit := true } } }) ≠ Reasons.empty :=
  ⟨fun s h => taken_witness s _ h, by decide, by decide, by decide, by decide⟩

/-- EmergencyGrantsOrRefuses: offered at the bound of EC_OFFER, and refused one cu above it. -/
theorem witness_emergency : (∀ s, s.intake.list = [] → Taken (takenIn s [3]) (entry [3])) ∧ (entry [3]).kind = 3 ∧
    ecStateOf (withBalance inMains 20000).credit.account inMains.settings = .offered ∧
    ecStateOf (withBalance inMains 20001).credit.account inMains.settings = .unavailable :=
  ⟨fun s h => taken_witness s _ h, by decide, by decide, by decide⟩

/-- TimeSetMovesTheClock: 300 seconds ahead is accepted, 301 is not, and an UNCERTAIN time takes any. -/
theorem witness_time_set : (∀ s body, s.intake.list = [] → Taken (takenIn s body) (entry body)) ∧
    (entry [4, 0, 0, 0x2C, 0x09, 0xAF, 0x2F]).kind = 4 ∧
    (entry [4, 0, 0, 0x2C, 0x09, 0xAF, 0x2F]).field 4 4 = inMains.clock.time + 300 ∧
    (entry [4, 0, 0, 0x2D, 0x09, 0xAF, 0x2F]).field 4 4 = inMains.clock.time + 301 ∧
    inMains.window.state = .closed ∧ inMains.clock.certain = true ∧ State.reset.clock.certain = false :=
  ⟨taken_witness, by decide, by decide, by decide, rfl, rfl, rfl⟩

/-- DiscardDropsTheWindow and CommitActivatesTheStaged: with a window and without one. -/
theorem witness_window_close : (∀ s body, s.intake.list = [] → Taken (takenIn s body) (entry body)) ∧
    ((entry [6]).kind = 6 ∧ (entry [6]).byteAt 4 = 0) ∧
    ((entry [6, 0, 0, 1]).kind = 6 ∧ (entry [6, 0, 0, 1]).byteAt 4 = 1) ∧
    inMains.window.state = .closed ∧ (withWindow inMains).window.state ≠ .closed ∧
    (withWindow inMains).window.staged ≠ none ∧ inMains.supply.power = .mains :=
  ⟨taken_witness, by decide, by decide, rfl, by decide, by simp [withWindow], rfl⟩

/-- An entry of CALENDAR_SUBMIT that waits for its apply, with this image and window. -/
def submitted (s : State) : State :=
  { takenIn s [5] with agenda := [], intake := { s.intake with work := some { entry [5] with stage := .calendar } } }

/-- CalendarSubmissionsAreJudged: taken; and waiting, refused for its rank and accepted. -/
theorem witness_submit : Taken (takenIn inMains [5]) (entry [5]) ∧ (entry [5]).kind = 5 ∧
    OwnSlot (submitted inMains) { entry [5] with stage := .calendar } ∧
    submitRefusal (submitted inMains).window (submitted inMains).mem = some (.calRank, 0) ∧
    submitRefusal (submitted (withWindow inMains)).window (submitted (withWindow inMains)).mem = none := by
  have h := (taken_witness inMains [5] rfl).toOwnSlot
  exact ⟨taken_witness _ _ rfl, by decide, ⟨h.canonical, h.slot, h.waiting⟩, by decide, by decide⟩

/-- An image with these counts (section 11.6: 0x01D) and these bytes from an offset on. -/
def imageOf (counts : List Byte) (offset : Nat) (bytes : List Byte) : Memory :=
  ((submitted (withWindow inMains)).mem.splice 0x081D counts).splice (0x0800 + offset) bytes

/-- CalendarSubmissionsAreJudged: each refusal behind the rank's, and the items and offsets: 25 switch points; minute 1440 of
switch point 0; 29 February 2100 as holiday 0; a second switch point at the minute and on a day type of the first; and what one
friendly window holds. -/
theorem witness_image :
    submitRefusal (withWindow inMains).window (imageOf [25, 0, 0] 0x30 []) = some (.calCount, 0x10) ∧
    submitRefusal (withWindow inMains).window (imageOf [1, 0, 0] 0x30 [1, 0xA0, 0x05, 2]) = some (.calField, 0x10) ∧
    submitRefusal (withWindow inMains).window (imageOf [0, 1, 0] 0x90 [0x34, 0x08, 2, 29]) = some (.calDate, 0x40) ∧
    submitRefusal (withWindow inMains).window (imageOf [2, 0, 0] 0x30 [1, 60, 0, 2, 3, 60, 0, 1]) =
      some (.calDuplicate, 0x11) ∧
    (imageTariff (imageOf [0, 0, 1] 0xD0 [0x81, 60, 0, 0xA0, 0x05])).windows = [⟨0x81, 60, 1440⟩] := by
  refine ⟨?_, ?_, ?_, ?_, ?_⟩ <;> decide +kernel

/-- The plaintexts of the witnesses below are genuine, and carry their fields. -/
theorem plain_fields :
    (∀ x ∈ [(0, 0, 0), (0, 0, 1), (1, 1, 1), (1, 1, 99999999), (1, 1, 0), (1, 1, 100000000), (2, 1, 1), (2, 1, 0), (3, 1, 1),
        (3, 1, 3), (3, 1, 0), (3, 1, 4), (4, 1, 13 * 2 ^ 24 + 100), (4, 1, 13 * 2 ^ 24 + 101), (4, 1, 20 * 2 ^ 24),
        (5, 1, 240), (5, 1, 241), (6, 1, 1023), (6, 1, 1024), (7, 1, 2 ^ 30 + 2 ^ 20), (7, 1, 2 ^ 30),
        (8, 1, 0), (8, 1, 1), (9, 1, 0), (9, 1, 1), (10, 1, 0), (15, 1, 0)],
      Genuine (plainOfFields x.1 x.2.1 x.2.2) ∧ tokenClass (plainOfFields x.1 x.2.1 x.2.2) = x.1 ∧
        tokenSerial (plainOfFields x.1 x.2.1 x.2.2) = x.2.1 ∧ tokenPayload (plainOfFields x.1 x.2.1 x.2.2) = x.2.2) ∧
    ¬Genuine 0 := by
  unfold Genuine; decide +kernel

/-- AuthorityAndSerialRefuse, TestsAndFailedDecodesComplete and the statements of every class: a decode ends with each of
the plaintexts above in a part in MAINS; and the tokens of the ten classes pass their checks under the factory key. -/
theorem witness_tokens :
    (∀ s p, s.supply.power = .mains → DecodeEnds (decodingEnd s p) (codeFor s p) p) ∧
    (∀ p n, Genuine p → tokenClass p = 0 → tokenSerial p = 0 → n = tokenPayload p →
      Passes (decodingEnd inMains p) (codeFor inMains p) p 0 1) ∧
    (∀ s p cls min, s.supply.power = .mains → s.decoder = Decoder.factory → Genuine p → tokenClass p = cls →
      tokenSerial p = 1 → 1 ≤ cls → min ≤ 4 → Passes (decodingEnd s p) (codeFor s p) p cls min) := by
  refine ⟨decode_ends, fun p n hg hc hs _ => passes inMains p 0 1 rfl hg hc (by rw [hs]; decide), ?_⟩
  intro s p cls min h hd hg hc hs h1 h2
  refine passes s p cls min h hg hc ?_
  have e : (Decoder.factory.key0.authority, Decoder.factory.key0.floor, Decoder.factory.key0.lastSerial,
    Decoder.factory.key0.spent) = (4, 0, 0, []) := rfl
  simp only [Prod.mk.injEq] at e
  simp [serialCheck, hd, hs, e, Nat.not_lt.mpr h2, Nat.ne_of_gt h1]

/-- AuthorityAndSerialRefuse: each of its five codes, under a key of authority 2 with the window of R96's kind. -/
theorem witness_serials :
    let k : KeySlot := { KeySlot.factory with authority := 2, floor := 40, spent := [43, 47], lastSerial := 47 }
    serialCheck k 2 48 3 = some .authority ∧ serialCheck k 1 0 1 = some .serialForm ∧
    serialCheck k 0 1 1 = some .serialForm ∧ serialCheck k 1 40 1 = some .serialOld ∧
    serialCheck k 1 43 1 = some .serialUsed ∧ serialCheck k 1 1065 1 = some .serialAhead ∧
    serialCheck k 1 1064 1 = none ∧ serialCheck k 1 41 1 = none := by
  decide

/-- The bounds of the classes' own checks: a balance at its limit, a debt rate of 100, a window, its rank, and a key slot
that a KEY_CHANGE may replace. -/
theorem witness_class_checks :
    (withBalance inMains 9999999999).supply.power = .mains ∧ (withWindow inMains).window.rank = 4 ∧
    (withWindow inMains).window.staged ≠ none ∧ inMains.window.state = .closed ∧
    inMains.credit.account.debt ≤ 9999999999 ∧ inMains.decoder = Decoder.factory ∧
    settingInRange 13 100 = true ∧ settingInRange 13 101 = false ∧
    (inMains.decoder.key 1).revision < 1 ∧ (inMains.decoder.key 1).present = false := by
  exact ⟨rfl, rfl, by simp [withWindow], rfl, by decide, rfl, by decide, by decide, by decide, rfl⟩

/-- SpentSerialsStaySpent: a window with members, and its next serial. -/
theorem witness_spent : ∃ k : KeySlot, LawfulKey k ∧ serialCheck k 1 41 1 = none ∧ serialCheck k 1 43 1 ≠ none := by
  refine ⟨{ KeySlot.factory with floor := 40, spent := [43, 47], lastSerial := 47 }, ⟨?_, ?_, ?_, ?_, ?_⟩, ?_, ?_⟩ <;>
    simp [KeySlot.factory, serialCheck]

/-- PublicationsEnd: none in progress, one, and one with another queued. -/
theorem witness_publications : (∃ s : State, s.agenda = [] ∧ s.mem.wf = true ∧ s.attn.busy = false) ∧
    (∃ s : State, s.agenda = [] ∧ s.mem.wf = true ∧ s.attn.busy = true ∧ s.attn.queued = false) ∧
    (∃ s : State, s.agenda = [] ∧ s.mem.wf = true ∧ s.attn.busy = true ∧ s.attn.queued = true) :=
  ⟨⟨State.reset, rfl, rfl, rfl⟩, ⟨inMains, rfl, rfl, rfl, rfl⟩,
    ⟨{ inMains with attn := { inMains.attn with queued := true } }, rfl, rfl, rfl, rfl⟩⟩

/-- An entry that waits for the write in progress. -/
def awaiting (body : List Byte) : State :=
  { withWrite (takenIn inMains body) with
    agenda := []
    intake := { inMains.intake with work := some { entry body with stage := .waiting .current ⟨.accepted, 0, []⟩ } } }

/-- RetentionWritesComplete: with and without a further request, for an entry that waits, and for a commit. -/
theorem witness_writes : (withWrite inMains).store.writing ≠ none ∧ (withWrite inMains).store.requested = false ∧
    (∀ body, OwnSlot (awaiting body) { entry body with stage := .waiting .current ⟨.accepted, 0, []⟩ } ∧
      (awaiting body).agenda = [] ∧ (awaiting body).store.writing ≠ none ∧ (awaiting body).supply.power ≠ .start) ∧
    (entry [1]).kind ≠ 6 ∧ (entry [6, 0, 0, 1]).kind = 6 := by
  refine ⟨by simp [withWrite], rfl, fun body => ?_, by decide, by decide⟩
  have h := (taken_witness inMains body rfl).toOwnSlot
  exact ⟨⟨h.canonical, h.slot, by simp [awaiting, inMains]⟩, rfl, by simp [awaiting, withWrite],
    by simp [awaiting, withWrite, takenIn, inMains]⟩

/-- The part in MAINS with a passive calendar that is due to the second, and its last charged date the day before. -/
def withDueCalendar : State :=
  { inMains with book :=
    { inMains.book with lastCharged := some 9258, passive := some { inMains.book.active with id := 7, activation := 800000000 } } }

/-- IntervalsMeasureAndCharge, HoldupBegins: a calendar that is due, with an idle store and behind a write in progress; and one
that is not due yet. -/
theorem witness_activation : withDueCalendar.agenda = [] ∧ withDueCalendar.supply.power = .mains ∧
    LawfulBook withDueCalendar.book ∧
    CalendarDue withDueCalendar ∧ activationDays withDueCalendar = 1 ∧ StoreFree withDueCalendar ∧
    CalendarDue (withWrite withDueCalendar) ∧ ¬StoreFree (withWrite withDueCalendar) ∧
    ¬CalendarDue { withDueCalendar with clock := { withDueCalendar.clock with time := 799999999 } } ∧ ¬CalendarDue inMains := by
  refine ⟨rfl, rfl, ⟨lawful_tariff 0 0 (by norm_num) (by norm_num), fun _ h => by
      cases h; exact lawful_tariff 7 800000000 (by norm_num) (by norm_num)⟩, ⟨_, rfl, by decide⟩, by decide, ⟨rfl, by decide⟩,
    ⟨_, rfl, by decide⟩, ?_, ?_, ?_⟩
  · rintro ⟨h, -⟩; simp [withWrite] at h
  · rintro ⟨c, h, hd⟩; cases h; revert hd; decide
  · rintro ⟨c, h, -⟩; simp [inMains, State.powered, CalendarBook.factory] at h
theorem test_activation : (fun s : State => (s.book.active.id, s.book.lastCharged, s.store.writing.map fun w => w.sections.book.active.id,
      s.attn.due)) (after (.intervalClose sample) withDueCalendar) = (7, some 9259, some 7, 0x26) := by decide

/-- IntervalsMeasureAndCharge, SecondsPass, InputsQualify, HoldupBegins: the part in MAINS, with no calendar to activate. -/
theorem witness_mains : inMains.agenda = [] ∧ inMains.supply.power = .mains ∧ inMains.book.passive = none ∧
    LawfulBook inMains.book ∧ inMains.mem.wf = true ∧
    inMains.window.state ≠ .opened ∧ (withWindow inMains).window.state = .opened ∧
    (∃ s w, OwnSlot s w ∧ s.agenda = [] ∧ s.supply.power = .mains ∧ LawfulBook s.book ∧ s.book.passive = none ∧
      s.intake.work = some w ∧ w.stage = .calendar) ∧
    (∀ p, DecodeEnds (decodingEnd inMains p) (codeFor inMains p) p) := by
  have h := (taken_witness inMains [5] rfl).toOwnSlot
  exact ⟨rfl, rfl, rfl, lawful_book, rfl, by decide, rfl,
    ⟨submitted inMains, { entry [5] with stage := .calendar }, ⟨h.canonical, h.slot, h.waiting⟩, rfl, rfl, lawful_book, rfl, rfl, rfl⟩,
    fun p => decode_ends _ p rfl⟩

/-- ConditionsQualify, LoadLimiterTripsAndRecovers, PulsesAndWaitsEnd, WeldsAreObserved, CountdownsEnd: their step is due, in
each of their cases. -/
theorem witness_due : (∀ d, (withDue inMains d).agenda = d :: []) ∧
    (qualification .bypass inMains.meter).reported = false ∧
    (qualification .bypass { inMains.meter with bypass := ⟨true, 10⟩ }).reported = true ∧
    inMains.tamper.records[kindBypass].state ≠ .active ∧
    inMains.switch.reasons.load = false ∧ (tripped 1).switch.kept.tripCount < (tripped 1).settings.loadLockoutTrips ∧
    (tripped 3).settings.loadLockoutTrips ≤ (tripped 3).switch.kept.tripCount ∧
    inMains.switch.contactor = .opened ∧ inMains.switch.fault = false ∧ holdLevel inMains < 3 ∧
    tamperReasonOf (presentRecords inMains kindSwitch) = inMains.tamper.reason ∧
    tamperReasonOf (presentRecords { inMains with settings := { inMains.settings with tamperActions := 0x3FF } }
      kindSwitch) = true ∧
    (withWindow inMains).window.state = .opened ∧ inMains.store.writing = none :=
  ⟨fun _ => rfl, by decide, by decide, by decide, rfl, by decide, by decide, rfl, rfl, by decide, by decide, by decide, rfl,
    rfl⟩

/-- AttemptsAreJudged: a judgment due in MAINS that confirms, and one that does not, with the acting set as it stands. -/
theorem witness_judge :
    (∀ w n, (withAttempt inMains (.judge w) n).switch.attempt = .judge w ∧
      (withAttempt inMains (.judge w) n).switch.acting = actingSet (withAttempt inMains (.judge w) n)) ∧
    attemptConfirmed .open inMains = true ∧ attemptConfirmed .close inMains = false ∧
    attemptConfirmed .open { inMains with meter := { inMains.meter with loadSide := ⟨true, true, true⟩ } } = false ∧
    attemptConfirmed .close { inMains with meter := { inMains.meter with
      supplySide := ⟨true, true, true⟩, loadSide := ⟨true, true, true⟩ } } = true :=
  ⟨fun _ _ => ⟨rfl, rfl⟩, by decide, by decide, by decide, by decide⟩

/-- A calendar with points at 06:00 and 22:00 on weekdays, a point at 08:00 on holidays, two holidays and one window. -/
def someTariff : Tariff :=
  { inMains.book.active with
    defaultBand := 3
    switchPoints := [⟨0x1F, 1320, 1⟩, ⟨0x1F, 360, 2⟩, ⟨0x80, 480, 4⟩]
    holidays := [⟨0, 12, 25⟩, ⟨2025, 3, 12⟩]
    windows := [⟨0x1F, 600, 720⟩] }

/-- SecondsPass: what a calendar says on 2025-03-13, a Thursday, at each edge, and on its holidays. -/
theorem witness_calendar : dayType someTariff 9202 = 7 ∧ dayType someTariff 9490 = 7 ∧ dayType someTariff 9203 = 3 ∧
    (∀ x ∈ [(0, 3), (359, 3), (360, 2), (1319, 2), (1320, 1)],
      bandAt someTariff (9203 * 86400 + 60 * x.1) = x.2) ∧
    bandAt someTariff (9202 * 86400 + 60 * 480) = 4 ∧ bandAt someTariff (9202 * 86400 + 60 * 479) = 3 ∧
    (∀ x ∈ [(599, false), (600, true), (719, true), (720, false)],
      friendlyPeriod someTariff (9203 * 86400 + 60 * x.1) = x.2) := by decide

/-- SecondsPass: a date passed that is to be charged, and none. -/
theorem witness_seconds : dayEndsAt inMains true 800000001 = 0 ∧
    dayEndsAt { inMains with book := { inMains.book with lastCharged := some 9258 } } true 800000001 = 1 ∧
    dayEndsAt { inMains with book := { inMains.book with lastCharged := some 9256 } } true 800000001 = 3 ∧
    inMains.supply.power ≠ .battery := by
  decide

/-- SecondsPass, IntervalsMeasureAndCharge: two day ends left, with one step and with 127 behind them, and the last of 366. -/
theorem witness_between :
    (BetweenDays { inMains with
      agenda := [.catchUp false, .friendly], catchUp := ⟨1, 1⟩, attn := { inMains.attn with busy := false }
      book := { inMains.book with lastCharged := some 9257 } } [.friendly] ∧ ([.friendly] : List Due).length < 128) ∧
    (BetweenDays { inMains with
      agenda := .catchUp false :: List.replicate 127 .friendly, catchUp := ⟨1, 1⟩
      attn := { inMains.attn with busy := false }
      book := { inMains.book with lastCharged := some 9257 } } (List.replicate 127 .friendly) ∧
      (List.replicate 127 Due.friendly).length < 128) ∧
    BetweenDays { inMains with
      agenda := [.catchUp false], catchUp := ⟨365, 7⟩, attn := { inMains.attn with busy := false }
      book := { inMains.book with lastCharged := some 8000 } } [] :=
  ⟨⟨⟨rfl, by decide⟩, by decide⟩, ⟨⟨rfl, by decide⟩, by simp⟩, ⟨rfl, by decide⟩⟩

/-- A catch-up of two days issues its first day end at once, and each takes the standing charge (R56, R64): of 4,800 cu each,
30,000 cu become 25,200 and then 20,400 (the figures of section 4.4). -/
theorem test_day_ends : ∀ n ∈ [1, 2], (dayEnds n { inMains with
      credit := { inMains.credit with account := { Account.factory with balance := 30000 } }
      book := { inMains.book with active := { Tariff.factory with standing := 4800 }, lastCharged := some 9257 } }).credit.account.balance
    = 30000 - 4800 * n := by decide

/-- BatteryKeepsTime, CrystalsStopAndReturn, OtherPowerStatesRemember, SupplyFails, StartsRestore: the power states. -/
theorem witness_power : (∀ p, (inPower p).agenda = [] ∧ (inPower p).supply.power = p) ∧
    (inPower .battery).battery.intact = true ∧ State.reset.battery.intact = false ∧
    State.reset.supply.power = .battery ∧ (inPower .mains).clock.source = .crystal ∧
    (∀ k, (inStart k).supply.power = .start ∧ (inStart k).supply.startStep = k) ∧
    (withWrite inHoldup).store.writing ≠ none ∧ inHoldup.supply.resetHold = false ∧
    (∃ s : State, s.supply.power = .holdup ∧ s.supply.resetHold = true ∧ s.supply.resetWrite = .done) :=
  ⟨fun _ => ⟨rfl, rfl⟩, rfl, rfl, rfl, rfl, fun _ => ⟨rfl, rfl⟩, by simp [withWrite], rfl,
    ⟨{ inHoldup with supply := { inHoldup.supply with resetHold := true, resetWrite := .done } }, rfl, rfl, rfl⟩⟩

/-- InputsQualify: a level to be counted, and one that qualifies with the fifth sample. -/
theorem witness_inputs : modeActive inMains.settings.caseInput true ≠ (inputState inMains .caseIn).qualified ∧
    (inputState inMains .caseIn).debounce + 1 < inMains.settings.caseInput % 256 ∧
    (∃ x : InputState, inMains.settings.caseInput % 256 ≤ x.debounce + 1) ∧ inMains.settings.caseInput.testBit 8 = false ∧
    (∀ s : State, s.agenda = [] → ∃ t, exec (.inputQualified .caseIn [true]) s = .next t) :=
  ⟨by decide, by decide, ⟨⟨false, 4, false⟩, by decide⟩, by decide, fun _ _ => ⟨_, rfl⟩⟩

/-- HoldupReturns: nothing to take, and an entry to take. -/
theorem witness_return : inHoldup.agenda = [] ∧ inHoldup.mem.wf = true ∧ inHoldup.supply.power = .holdup ∧
    inHoldup.supply.resetHold = false ∧ inHoldup.intake.list = [] ∧ ∃ s : State, s.agenda = [] ∧ s.mem.wf = true ∧
      s.supply.power = .holdup ∧ s.supply.resetHold = false ∧ s.intake.work = none ∧ s.intake.list = [3] :=
  ⟨rfl, rfl, rfl, rfl, rfl,
    { inHoldup with mem := [(0x2C0, 1)], intake := ⟨[3], none, false⟩ }, rfl, by decide, rfl, rfl, rfl, rfl⟩

/-- StartsEndInMains: before the start write's end, and behind it, with and without something remembered. -/
theorem witness_ready : (withWrite (inStart 5)).store.writing ≠ none ∧
    (∃ t, exec .retentionWriteComplete (withWrite (inStart 5)) = .next t) ∧
    (withDue (inStart 5) .startReady).agenda = [.startReady] ∧ (inStart 5).intake = ⟨[], none, false⟩ ∧
    (inStart 5).supply.vsLow = false ∧ (inStart 5).supply.resetRemembered = false ∧
    (∃ s : State, s.agenda = [.startReady] ∧ s.supply.power = .start ∧ s.supply.startStep = 5 ∧
      s.intake = ⟨[], none, false⟩ ∧ s.supply.resetRemembered = true) :=
  ⟨by simp [withWrite], ⟨_, rfl⟩, rfl, rfl, rfl, rfl,
    ⟨{ withDue (inStart 5) .startReady with supply := { (inStart 5).supply with resetRemembered := true } }, rfl, rfl, rfl, rfl,
      rfl⟩⟩

end Sys2Proof.Tests
end

section
/-! SUPPORT. A command on an empty agenda: its effect is made as it stands, and it goes on with what the effect makes due. -/

namespace Sys2Proof.Proofs
open Sys2Proof.Machine Sys2Proof.Safety

/-! ## Arrivals on an empty agenda -/

/-- Due steps are made up to the first one that stops them. -/
theorem runUntil_of_stop {stop : Due → Bool} {s : State} (h : ∀ d ∈ s.agenda.head?, stop d = true) (fuel : Nat) :
    runUntil stop fuel s = s := by
  cases fuel with
  | zero => rfl
  | succ k =>
    unfold runUntil
    split
    · rfl
    · next d rest hd => simp [h d (by simp [hd])]

theorem settle_of_idle {s : State} (h : s.agenda = []) : settle s = s := runUntil_of_stop (by simp [h]) _

theorem onAgenda_of_same {f : List Due → List Due} {s : State} (h : f s.agenda = s.agenda) : onAgenda f s = s := by
  rw [onAgenda, h]

/-- A step goes no further than to a row of the table. -/
theorem advance_of_row {s : State} (h : ∀ d ∈ s.agenda.head?, d.isRow = true) : advance s = s := by
  have hhead : s.agenda.head? ≠ some (.catchUp false) := fun hc => by simpa [Due.isRow] using h _ hc
  have hrest : restCatchUp s = s := onAgenda_of_same (by
    split
    · next f rest ha => simp [ha, Due.isRow] at h
    · rfl)
  simp only [advance, runUntil_of_stop h, if_neg hhead, hrest]

theorem advance_of_idle {s : State} (h : s.agenda = []) : advance s = s := advance_of_row (by simp [h])

theorem arrival_of_idle {s : State} (h : s.agenda = []) (f : State → State) : arrival f s = advance (f s) := by
  rw [arrival, settle_of_idle h]

/-- What a taken entry is due for is a row of the table (R11). -/
theorem dueOf_isRow (w : Work) : (dueOf w).isRow = true := by
  unfold dueOf
  split
  case h_6 => split_ifs <;> rfl
  all_goals rfl

/-! ## What a statement compares -/

theorem samePart_trans {s t u : State} {p : Part} (h : SamePart s t p) (k : SamePart t u p) : SamePart s u p := by
  cases p <;> exact Eq.trans k h

theorem sameExcept_trans {ps : List Part} {s t u : State} (h : SameExcept ps s t) (k : SameExcept ps t u) :
    SameExcept ps s u := fun p hp => samePart_trans (h p hp) (k p hp)

theorem onMem_sameExcept {ps : List Part} (hp : .mem ∈ ps) (f : Memory → Memory) (s : State) :
    SameExcept ps s (onMem f s) := by
  intro p h
  cases p with
  | mem => exact absurd hp h
  | _ => rfl

theorem onIntake_sameExcept {ps : List Part} (hp : .intake ∈ ps) (f : Intake → Intake) (s : State) :
    SameExcept ps s (onIntake f s) := by
  intro p h
  cases p with
  | intake => exact absurd hp h
  | _ => rfl

theorem onLink_sameExcept {ps : List Part} (hp : .answer ∈ ps) (f : Link → Link) (s : State) :
    SameExcept ps s (onLink f s) := by
  intro p h
  cases p with
  | answer => exact absurd hp h
  | _ => rfl

theorem onAttn_sameExcept {ps : List Part} (hp : .attn ∈ ps) (f : Attn → Attn) (s : State) :
    SameExcept ps s (onAttn f s) := by
  intro p h
  cases p with
  | attn => exact absurd hp h
  | _ => rfl

/-! ## Power -/

/-- Frames take effect exactly in MAINS and HOLDUP (R6). -/
theorem memoryWritable_iff (s : State) :
    memoryWritable s = true ↔ s.supply.power = .mains ∨ s.supply.power = .holdup := by
  simp [memoryWritable]

theorem writable_of_ne {s : State} (hb : s.supply.power ≠ .battery) (hs : s.supply.power ≠ .start) :
    memoryWritable s = true := by
  rw [memoryWritable_iff]
  cases h : s.supply.power with
  | mains => exact .inl rfl
  | holdup => exact .inr rfl
  | start => exact absurd h hs
  | battery => exact absurd h hb

end Sys2Proof.Proofs
end

section
/-! SUPPORT. The memory outside the pages, the taking and the completion of entries, and a WRITE_MEMORY frame with one data
byte. -/

namespace Sys2Proof.Proofs
open Sys2Proof.Machine Sys2Proof.Safety

/-! ## Publications write the pages alone -/

theorem page_length (size : Nat) (fields : List (Nat × List Byte)) : (page size fields).length = size := by
  simp only [page, List.length_append, List.length_take, List.length_replicate]
  omega

theorem passiveView_length (s : State) : (passiveView s).length = 0x400 := by
  unfold passiveView
  split
  · exact List.length_replicate
  · exact page_length _ _

/-- An address outside the pages keeps its byte as the pages are written. -/
theorem read_writePages {a : Nat} (h : inPages a = false) (s : State) (gen : Nat) :
    (writePages s gen).read a = s.mem.read a := by
  simp only [inPages, Bool.or_eq_false_iff, Bool.and_eq_false_iff, decide_eq_false_iff_not] at h
  have hstatus : (statusPage s gen).length = 0x200 := page_length _ _
  have htamper : (tamperPage s).length = 0x200 := page_length _ _
  have hactive : (tariffView s.book.active).length = 0x400 := page_length _ _
  have hpassive := passiveView_length s
  unfold writePages
  rw [Memory.read_splice_other _ _ _ (by omega), Memory.read_splice_other _ _ _ (by omega),
    Memory.read_splice_other _ _ _ (by omega), Memory.read_splice_other _ _ _ (by omega)]

/-- A publication requested leaves every byte outside the pages (R14). -/
theorem read_requestPublication {a : Nat} (h : inPages a = false) (s : State) :
    (requestPublication s).mem.read a = s.mem.read a := by
  unfold requestPublication
  split
  · rfl
  · exact read_writePages h _ _

/-! ## The slots -/

/-- The sixteen slots lie in the work slots (section 1.2). -/
theorem slotBase_range {n : Nat} (h : n < 16) : 0x200 ≤ slotBase n ∧ slotBase n < 0x600 := by
  unfold slotBase
  omega

theorem slotBase_not_inPages {n : Nat} (h : n < 16) : inPages (slotBase n) = false := by
  have hrange := slotBase_range h
  simp only [inPages, Bool.or_eq_false_iff, Bool.and_eq_false_iff, decide_eq_false_iff_not]
  omega

theorem slotBase_inj {m n : Nat} : slotBase m = slotBase n ↔ m = n := by
  simp [slotBase]

theorem ownerOf_write_same {m : Memory} (hm : m.wf = true) (n : Nat) (v : Byte) :
    ownerOf (m.write (slotBase n) v) n = v := Memory.read_write_same hm _ _

/-! ## Taking and completing -/

/-- What the intake's look at its list can do: take the head where nothing is in work and it is open, or nothing (R10). -/
theorem takeNext_cases (s : State) :
    (∃ n rest, s.intake.list = n :: rest ∧ s.intake.work = none ∧ s.intake.ready = true ∧
      takeNext s = dueFirst (dueOf (takenWork s.mem n)) (onMem (fun m => m.write (slotBase n) ownerTaken)
        (onIntake (fun i => { i with list := rest, work := some (takenWork s.mem n) }) s))) ∨
    takeNext s = s := by
  unfold takeNext
  split
  · next n rest hw hr hl => exact .inl ⟨n, rest, hl, hw, hr, rfl⟩
  · exact .inr rfl

theorem takeNext_of_head {s : State} {n : Nat} {rest : List Nat} (hw : s.intake.work = none)
    (hr : s.intake.ready = true) (hl : s.intake.list = n :: rest) :
    takeNext s = dueFirst (dueOf (takenWork s.mem n)) (onMem (fun m => m.write (slotBase n) ownerTaken)
      (onIntake (fun i => { i with list := rest, work := some (takenWork s.mem n) }) s)) := by
  simp [takeNext, hw, hr, hl]

/-- The intake changes the owner byte of the head of its list alone. -/
theorem read_takeNext_other {s : State} {a : Nat} (h : ∀ n ∈ s.intake.list, slotBase n ≠ a) :
    (takeNext s).mem.read a = s.mem.read a := by
  rcases takeNext_cases s with ⟨n, rest, hl, -, -, ht⟩ | ht
  · rw [ht]
    exact Memory.read_write_other _ _ (h n (by simp [hl])).symm
  · rw [ht]

theorem takeNext_onLink (f : Link → Link) (s : State) : takeNext (onLink f s) = onLink f (takeNext s) := by
  simp only [takeNext, onLink_keeps]
  split <;> rfl

/-- Where the next due step is a row of the table, it still is behind the intake's look at its list. -/
theorem takeNext_head_isRow {s : State} (h : ∀ d ∈ s.agenda.head?, d.isRow = true) :
    ∀ d ∈ (takeNext s).agenda.head?, d.isRow = true := by
  rcases takeNext_cases s with ⟨n, rest, -, -, -, ht⟩ | ht <;> rw [ht]
  · simp [dueOf_isRow]
  · exact h

/-- A completion leaves its slot DONE (R12), whatever is taken and published behind it. -/
theorem ownerOf_completeEntry {s : State} {w : Work} (h : OwnSlot s w) (hw : s.intake.work = some w) (r : Result) :
    ownerOf (completeEntry r s).mem w.slot = ownerDone := by
  obtain ⟨hwf, hslot, hwaiting⟩ := h
  have hothers : ∀ n ∈ s.intake.list, slotBase n ≠ slotBase w.slot := fun n hn he =>
    (hwaiting n hn).2 (slotBase_inj.1 he)
  simp only [completeEntry, hw, ownerOf]
  rw [read_requestPublication (slotBase_not_inPages hslot), read_takeNext_other (by simpa using hothers)]
  exact Memory.read_write_same (Memory.wf_splice (Memory.wf_splice hwf _ _) _ _) _ _

/-! ## The table of R8 -/

theorem hostOwnerByte_post {s : State} {n : Nat} (ho : ownerOf s.mem n = ownerEmpty) (hp : s.supply.power = .mains) :
    hostOwnerByte n ownerPosted s = takeNext (onMem (fun m => m.write (slotBase n) ownerPosted)
      (onIntake (fun i => { i with list := i.list ++ [n] }) s)) := by
  simp [hostOwnerByte, ho, hp]

theorem hostOwnerByte_withdraw {s : State} {n : Nat} (ho : ownerOf s.mem n = ownerPosted) :
    hostOwnerByte n ownerEmpty s = onMem (fun m => m.write (slotBase n) ownerEmpty)
      (onIntake (fun i => { i with list := i.list.filter (fun k => k ≠ n) }) s) := by
  simp [hostOwnerByte, ho, ownerEmpty, ownerPosted, bne, beq_eq_decide]

theorem hostOwnerByte_return {s : State} {n : Nat} (ho : ownerOf s.mem n = ownerDone) :
    hostOwnerByte n ownerEmpty s = onMem (fun m => m.write (slotBase n) ownerEmpty) s := by
  simp [hostOwnerByte, ho, ownerEmpty, ownerPosted, ownerDone]

theorem hostOwnerByte_ignore {s : State} {n : Nat} {v : Byte}
    (hempty : ¬(v = ownerEmpty ∧ (ownerOf s.mem n = ownerPosted ∨ ownerOf s.mem n = ownerDone)))
    (hposted : ¬(v = ownerPosted ∧ ownerOf s.mem n = ownerEmpty ∧ s.supply.power = .mains)) :
    hostOwnerByte n v s = s := by
  unfold hostOwnerByte
  simp only [Bool.and_eq_true, decide_eq_true_eq]
  rw [if_neg (by tauto), if_neg (by tauto), if_neg (by tauto)]

theorem hostOwnerByte_onLink (f : Link → Link) (n : Nat) (v : Byte) (s : State) :
    hostOwnerByte n v (onLink f s) = onLink f (hostOwnerByte n v s) := by
  simp only [hostOwnerByte, onLink_keeps]
  split_ifs
  · exact takeNext_onLink f (onMem (fun m => m.write (slotBase n) ownerPosted)
      (onIntake (fun i => { i with list := i.list ++ [n] }) s))
  · rfl
  · rfl
  · rfl

/-- A host byte leaves a row of the table next where one was, or nothing was due. -/
theorem hostOwnerByte_head_isRow (n : Nat) (v : Byte) {s : State} (h : ∀ d ∈ s.agenda.head?, d.isRow = true) :
    ∀ d ∈ (hostOwnerByte n v s).agenda.head?, d.isRow = true := by
  simp only [hostOwnerByte]
  split_ifs
  · exact takeNext_head_isRow h
  · exact h
  · exact h
  · exact h

/-- The first byte of a slot is its owner byte (section 1.3). -/
theorem hostByte_slotBase {n : Nat} (hn : n < 16) (v : Byte) (s : State) :
    hostByte (slotBase n) v s = if memoryWritable s = true then hostOwnerByte n v s else s := by
  have hslots : inSlots (slotBase n) = true := by simpa [inSlots] using slotBase_range hn
  have hindex : (slotBase n - 0x0200) / 64 = n := by simp [slotBase]
  have hstart : (slotBase n - 0x0200) % 64 = 0 := by simp [slotBase]
  simp only [hostByte, hslots, hindex, hstart]
  cases memoryWritable s <;> simp

/-! ## A WRITE_MEMORY frame with one data byte (R3) -/

/-- The answer to a WRITE_MEMORY frame of four bytes with its command byte: 0x00 for each (R3). -/
def wroteOne (_ : Link) : Link := ⟨some [0, 0, 0, 0], none⟩

/-- The link in a frame in progress: the bytes shifted out, and the place. -/
def inProgress (write : Bool) (out : List Byte) (place : FramePlace) (_ : Link) : Link := ⟨some out, some ⟨write, place⟩⟩

/-- Where the link answers, the frame in progress is the open one. -/
theorem openFrame_inProgress {s : State} (hb : s.supply.power ≠ .battery) (write : Bool) (out : List Byte)
    (place : FramePlace) : openFrame write (onLink (inProgress write out place) s) = some ⟨write, place⟩ := by
  simp [openFrame, inProgress, hb]

theorem frameByte_high {s : State} (hb : s.supply.power ≠ .battery) (write : Bool) (out : List Byte) (hi : Byte) :
    frameByte write hi (onLink (inProgress write out .start) s) =
      onLink (inProgress write (out ++ [0]) (.half hi)) s := by
  simp only [frameByte, openFrame_inProgress hb]
  rfl

theorem frameByte_low {s : State} (hb : s.supply.power ≠ .battery) (write : Bool) (out : List Byte) (hi lo : Byte) :
    frameByte write lo (onLink (inProgress write out (.half hi)) s) =
      onLink (inProgress write (out ++ [0]) (.data (frameAddress hi lo))) s := by
  simp only [frameByte, openFrame_inProgress hb]
  rfl

theorem frameByte_written {s : State} (hb : s.supply.power ≠ .battery) (out : List Byte) (a : Nat) (v : Byte) :
    frameByte true v (onLink (inProgress true out (.data a)) s) =
      hostByte a v (onLink (inProgress true (out ++ [0]) (.data ((a + 1) % Config.addressSpace))) s) := by
  simp only [frameByte, openFrame_inProgress hb]
  rfl

theorem beginFrame_of_noFrame {write : Bool} {s : State} (hf : NoFrame write s) (hb : s.supply.power ≠ .battery) :
    beginFrame write s = onLink (inProgress write [0] .start) s := by
  have hnone : openFrame write s = none := by
    unfold openFrame
    split
    · rfl
    · next f h => simp [hf f h]
  simp only [beginFrame, hnone, hb]
  rfl

/-- A whole frame with one data byte, an owner byte's, has the effect of that byte where frames take effect, and none
elsewhere. -/
theorem memoryFrame_ownerByte {s : State} (ha : s.agenda = []) (hf : NoFrame true s) (hb : s.supply.power ≠ .battery)
    {hi lo : Byte} {n : Nat} (hn : n < 16) (h : frameAddress hi lo = slotBase n) (v : Byte) :
    memoryFrame true ⟨[hi, lo, v], false⟩ s =
      onLink wroteOne (if memoryWritable s = true then hostOwnerByte n v s else s) := by
  have hidle (f : Link → Link) : settle (onLink f s) = onLink f s := settle_of_idle ha
  have hwritable (f : Link → Link) : memoryWritable (onLink f s) = memoryWritable s := rfl
  simp only [memoryFrame, frameBytes, beginFrame_of_noFrame hf hb, frameByte_high hb, frameByte_low hb, hidle,
    frameByte_written hb, h, hostByte_slotBase hn, hwritable, hostOwnerByte_onLink]
  split_ifs <;> rfl

/-- A WRITE_MEMORY frame with one data byte, an owner byte's, has the effect of that byte where frames take effect, and none
elsewhere (R3, R6). -/
theorem exec_writeOwnerByte {s : State} (ha : s.agenda = []) (hf : NoFrame true s) (hb : s.supply.power ≠ .battery)
    {hi lo : Byte} {n : Nat} (hn : n < 16) (h : frameAddress hi lo = slotBase n) (v : Byte) :
    exec (.writeMemory ⟨[hi, lo, v], false⟩) s =
      .next (onLink wroteOne (if memoryWritable s = true then hostOwnerByte n v s else s)) := by
  have hrow : ∀ d ∈ s.agenda.head?, d.isRow = true := by simp [ha]
  have hexec : exec (.writeMemory ⟨[hi, lo, v], false⟩) s = .next (arrival (memoryFrame true ⟨[hi, lo, v], false⟩) s) := rfl
  rw [hexec, arrival_of_idle ha, memoryFrame_ownerByte ha hf hb hn h, advance_of_row]
  split_ifs
  · exact hostOwnerByte_head_isRow n v hrow
  · exact hrow

/-- Settles O19: of the frame nothing is left but the owner byte's effect, which is read off the table of R8; the taking and
the completion write their owner byte last, and the page writes behind them reach no slot. -/
theorem ownerBytesWithdrawAndReturn : Obligations.OwnerBytesWithdrawAndReturn := by
  refine ⟨fun hi lo n v s ha hf hwf hb hn h => ⟨_, exec_writeOwnerByte ha hf hb hn h v, ?posted, ?withdrawn, ?returned,
    ?ignored⟩, fun s n rest hwf _ hw hr hl => ?taken, fun s w r h hw => ownerOf_completeEntry h hw r⟩
  case posted =>
    rintro rfl ho hp
    have hw : memoryWritable s = true := (memoryWritable_iff s).2 (.inl hp)
    rw [if_pos hw, hostOwnerByte_post ho hp, ← takeNext_onLink]
    refine ⟨_, ?_, rfl, ownerOf_write_same hwf n _, rfl, fun b hne => Memory.read_write_other _ _ hne⟩
    exact sameExcept_trans (sameExcept_trans (onIntake_sameExcept (by simp) _ _) (onMem_sameExcept (by simp) _ _))
      (onLink_sameExcept (by simp) _ _)
  case withdrawn =>
    rintro rfl ho hp
    rw [if_pos (writable_of_ne hb hp), hostOwnerByte_withdraw ho]
    refine ⟨?_, ownerOf_write_same hwf n _, rfl, fun b hne => Memory.read_write_other _ _ hne⟩
    exact sameExcept_trans (sameExcept_trans (onIntake_sameExcept (by simp) _ _) (onMem_sameExcept (by simp) _ _))
      (onLink_sameExcept (by simp) _ _)
  case returned =>
    rintro rfl ho hp
    rw [if_pos (writable_of_ne hb hp), hostOwnerByte_return ho]
    refine ⟨?_, ownerOf_write_same hwf n _, fun b hne => Memory.read_write_other _ _ hne⟩
    exact sameExcept_trans (onMem_sameExcept (by simp) _ _) (onLink_sameExcept (by simp) _ _)
  case ignored =>
    intro hempty hposted
    rw [hostOwnerByte_ignore hempty hposted, ite_self]
    exact onLink_sameExcept (by simp) _ _
  case taken =>
    rw [takeNext_of_head hw hr hl]
    exact ownerOf_write_same hwf n _

end Sys2Proof.Proofs
end

section
/-! SUPPORT. ATTENTION and its line: what due steps leave of it, the registers' writes, and the raises. -/

namespace Sys2Proof.Proofs
open Sys2Proof.Machine Sys2Proof.Safety

/-! ## Due steps leave ATTENTION alone -/

/-- The power state and the ATTENTION bits of `t` are those of `s`. -/
structure KeepsAttention (s t : State) : Prop where
  power : t.supply.power = s.supply.power
  bits : t.attn.bits = s.attn.bits

theorem KeepsAttention.refl (s : State) : KeepsAttention s s := ⟨rfl, rfl⟩

theorem KeepsAttention.trans {s t u : State} (h : KeepsAttention s t) (k : KeepsAttention t u) : KeepsAttention s u :=
  ⟨k.power.trans h.power, k.bits.trans h.bits⟩

theorem KeepsAttention.writable {s t : State} (h : KeepsAttention s t) : memoryWritable t = memoryWritable s := by
  simp only [memoryWritable, h.power]

theorem onAgenda_keepsAttention (f : List Due → List Due) (s : State) : KeepsAttention s (onAgenda f s) := ⟨rfl, rfl⟩

theorem onLink_keepsAttention (f : Link → Link) (s : State) : KeepsAttention s (onLink f s) := ⟨rfl, rfl⟩

/-- A step at the entry in work leaves ATTENTION alone if its block's decision does. -/
theorem withWork_keepsAttention {f : Work → State → State} (hf : ∀ w s, KeepsAttention s (f w s)) (s : State) :
    KeepsAttention s (withWork f s) := by
  unfold withWork
  split
  · exact .refl s
  · split_ifs
    · exact hf _ s
    · exact .refl s

/-- Step 6 of a start raises SUPPLY where it leads on to HOLDUP (R186); no other due step raises or clears a bit at once, nor
moves the power state. -/
theorem runDue_keepsAttention {s : State} (h : s.supply.power ≠ .start) (d : Due) : KeepsAttention s (runDue d s) := by
  cases d with
  | startReady => simp only [runDue, enterMains, if_neg h]; exact .refl s
  | catchUp => exact .refl s
  | token | reconnect | emergency | timeSet | calendarSubmit | windowCloseDiscard | windowCloseCommit
  | windowClosePayloadRange | flagClear | kindUnknown =>
    exact withWork_keepsAttention (fun w s => ⟨by simp, by simp⟩) s
  | _ => exact ⟨by simp [runDue], by simp [runDue]⟩

theorem runUntil_keepsAttention (stop : Due → Bool) (fuel : Nat) {s : State} (h : s.supply.power ≠ .start) :
    KeepsAttention s (runUntil stop fuel s) := by
  induction fuel generalizing s with
  | zero => exact .refl s
  | succ fuel ih =>
    unfold runUntil
    split
    · exact .refl s
    · next d rest _ =>
      split_ifs
      · exact .refl s
      · have hd := (onAgenda_keepsAttention (fun _ => rest) s).trans (runDue_keepsAttention (by simpa using h) d)
        exact hd.trans (ih (by rw [hd.power]; exact h))

theorem settle_keepsAttention {s : State} (h : s.supply.power ≠ .start) : KeepsAttention s (settle s) :=
  runUntil_keepsAttention _ _ h

theorem advance_keepsAttention {s : State} (h : s.supply.power ≠ .start) : KeepsAttention s (advance s) := by
  have hrows := runUntil_keepsAttention Due.isRow dueBound h
  have hnext : KeepsAttention s (catchUpGoesOn (runUntil Due.isRow dueBound s)) :=
    hrows.trans ⟨by simp, by simp⟩
  simp only [advance]
  refine .trans ?_ (onAgenda_keepsAttention _ _)
  split_ifs
  · exact hnext.trans (runUntil_keepsAttention _ _ (by rw [hnext.power]; exact h))
  · exact hrows

theorem ne_start_of_writable {s : State} (h : memoryWritable s = true) : s.supply.power ≠ .start := by
  rcases (memoryWritable_iff s).1 h with h | h <;> simp [h]

theorem ne_battery_of_writable {s : State} (h : memoryWritable s = true) : s.supply.power ≠ .battery := by
  rcases (memoryWritable_iff s).1 h with h | h <;> simp [h]

/-! ## ATTN_N (R19) -/

theorem bitVec_ne_zero_iff {n : Nat} (x : BitVec n) : x ≠ 0 ↔ ∃ i, i < n ∧ x.getLsbD i = true := by
  have hsome : x ≠ 0 ↔ ∃ i, x.getLsbD i = true := by
    simpa using not_congr (BitVec.zero_iff_eq_false (x := x))
  exact hsome.trans ⟨fun ⟨i, hi⟩ => ⟨i, BitVec.lt_of_getLsbD hi, hi⟩, fun ⟨i, _, hi⟩ => ⟨i, hi⟩⟩

theorem attnLow_iff (s : State) :
    attnLow s = true ↔
      s.supply.power ≠ .battery ∧ ∃ i, i < 6 ∧ s.attn.bits.getLsbD i = true ∧ s.attn.mask.getLsbD i = true := by
  simp only [attnLow, Bool.and_eq_true, bne_iff_ne, bitVec_ne_zero_iff, BitVec.getLsbD_and]

/-! ## Register frames -/

/-- The bits that an ATTENTION write clears are gone behind it, and the others stand. -/
theorem cleared_getLsbD {x : BitVec 6} {v : Byte} {i : Nat} (h : i < 6) :
    (x &&& ~~~(v.setWidth 6)).getLsbD i = (x.getLsbD i && !v.getLsbD i) := by
  simp [h]

theorem exec_readRegister {s : State} (ha : s.agenda = []) (bytes : List Byte) :
    exec (.readRegister bytes) s = .next (answerFrame (readRegisterAnswer bytes s) s) :=
  congrArg _ ((arrival_of_idle ha _).trans (advance_of_idle ha))

theorem exec_writeAttention {s : State} (ha : s.agenda = []) (hw : memoryWritable s = true) (v : Byte) (rest : List Byte) :
    exec (.writeAttention (v :: rest)) s = .next (answerFrame (zeros (2 + (v :: rest).length))
      (onAttn (fun x => { x with bits := x.bits &&& ~~~(v.setWidth 6) }) s)) := by
  have hclear : clearAttention (v :: rest) s = onAttn (fun x => { x with bits := x.bits &&& ~~~(v.setWidth 6) }) s :=
    if_pos hw
  rw [← hclear]
  refine congrArg _ ((arrival_of_idle ha _).trans (advance_of_idle ?_))
  simpa [hclear] using ha

theorem exec_writeAttentionMask {s : State} (ha : s.agenda = []) (hw : memoryWritable s = true) (v : Byte)
    (rest : List Byte) :
    exec (.writeAttentionMask (v :: rest)) s = .next (answerFrame (zeros (2 + (v :: rest).length))
      (onAttn (fun x => { x with mask := v.setWidth 6 }) s)) := by
  have hmask : replaceMask (v :: rest) s = onAttn (fun x => { x with mask := v.setWidth 6 }) s := if_pos hw
  rw [← hmask]
  refine congrArg _ ((arrival_of_idle ha _).trans (advance_of_idle ?_))
  simpa [hmask] using ha

/-- An ATTENTION write clears its bits whatever is due around it: no due step raises one again. -/
theorem writeAttention_clears {s : State} (hw : memoryWritable s = true) (v : Byte) (rest : List Byte) :
    ∃ t, exec (.writeAttention (v :: rest)) s = .next t ∧ t.attn.bits = s.attn.bits &&& ~~~(v.setWidth 6) := by
  have hsettle := settle_keepsAttention (ne_start_of_writable hw)
  have hwritable : memoryWritable (settle s) = true := hsettle.writable.trans hw
  have hclear : clearAttention (v :: rest) (settle s) =
      onAttn (fun x => { x with bits := x.bits &&& ~~~(v.setWidth 6) }) (settle s) := if_pos hwritable
  refine ⟨_, rfl, ?_⟩
  rw [arrival, (advance_keepsAttention (by simpa [hclear] using ne_start_of_writable hwritable)).bits, hclear]
  simp [hsettle.bits]

/-! ## Raises (R17) -/

/-- `c` raises bit `i` of ATTENTION by its own effect, wherever the supply monitor and the publication in progress stand as in
`s`; the part is in MAINS or HOLDUP then. -/
def Raises (c : Instr) (s : State) (i : Nat) : Prop :=
  ∃ f, (∀ t, exec c t = .next (arrival f t)) ∧
    ∀ t, t.supply = s.supply → t.attn.busy = s.attn.busy → t.attn.inFlight = s.attn.inFlight →
      (f t).attn.bits.getLsbD i = true ∧ memoryWritable (f t) = true

/-- On an empty agenda the bit stands when the command has been made. -/
theorem Raises.exec {c : Instr} {s t : State} {i : Nat} (h : Raises c s i) (ha : t.agenda = [])
    (hs : t.supply = s.supply) (hb : t.attn.busy = s.attn.busy) (hf : t.attn.inFlight = s.attn.inFlight) :
    ∃ u, Machine.exec c t = .next u ∧ u.attn.bits.getLsbD i = true ∧ memoryWritable u = true := by
  obtain ⟨f, hexec, hraise⟩ := h
  obtain ⟨hbit, hw⟩ := hraise t hs hb hf
  have hkeeps := advance_keepsAttention (ne_start_of_writable hw)
  refine ⟨advance (f t), by rw [hexec, arrival_of_idle ha], ?_, hkeeps.writable.trans hw⟩
  rw [hkeeps.bits]
  exact hbit

theorem endPublication_bits {s : State} (h : s.attn.busy = true) :
    (endPublication s).attn.bits = s.attn.bits ||| s.attn.inFlight := by
  have hclose : (closePublication s).attn.bits = s.attn.bits ||| s.attn.inFlight := rfl
  simp only [endPublication, h, if_true]
  split_ifs <;> simp [hclose]

/-- HOLDUP entry raises SUPPLY at once (R17, R176). -/
theorem enterHoldup_raises (reset : Bool) (p : PartMeasurement) (s : State) :
    (enterHoldup reset p s).attn.bits = s.attn.bits ||| attnSupply ∧ (enterHoldup reset p s).supply.power = .holdup := by
  simp [enterHoldup]

theorem supply_bit (x : BitVec 6) : (x ||| attnSupply).getLsbD 4 = true := by
  simp [attnSupply]

theorem publicationEnd_raises {s : State} {i : Nat} (hw : memoryWritable s = true) (hb : s.attn.busy = true)
    (hf : s.attn.inFlight.getLsbD i = true) : Raises .publicationEnd s i := by
  refine ⟨endPublication, fun t => rfl, fun t hs hbt hft => ⟨?_, ?_⟩⟩
  · rw [endPublication_bits (hbt.trans hb), hft]
    simp [hf]
  · simpa [memoryWritable, hs] using hw

theorem holdupEntry_raises {s : State} (hp : s.supply.power = .mains) (p : PartMeasurement) :
    Raises (.holdupEntry p) s 4 := by
  refine ⟨vsFalls p, fun t => rfl, fun t hs _ _ => ?_⟩
  obtain ⟨hbits, hpower⟩ := enterHoldup_raises false p (setVsLow true t)
  simp only [vsFalls, hs, hp, hbits, supply_bit, memoryWritable_iff, hpower]
  simp

theorem resetNLow_raises {s : State} (hp : s.supply.power = .mains) (p : PartMeasurement) :
    Raises (.resetNLow p) s 4 := by
  refine ⟨resetLow p, fun t => rfl, fun t hs _ _ => ?_⟩
  obtain ⟨hbits, hpower⟩ := enterHoldup_raises true p t
  simp only [resetLow, hs, hp, hbits, supply_bit, memoryWritable_iff, hpower]
  simp

/-- A return to MAINS raises SUPPLY (R177), also where a catch-up begins with it. -/
theorem vsRises_raises {s : State} (hp : s.supply.power = .holdup) (hr : s.supply.resetHold = false) :
    (vsRises s).attn.bits = s.attn.bits ||| attnSupply ∧ (vsRises s).supply.power = .mains := by
  simp only [vsRises, hp]
  rcases catchUpThen_cases [] id (resumeSwitch (beginInterval (raiseNow attnSupply (setMains (setVsLow false s)))))
    with h | ⟨-, -, h⟩ <;> simp [h, hr]

theorem holdupReturn_raises {s : State} (hp : s.supply.power = .holdup) (hr : s.supply.resetHold = false) :
    Raises .holdupReturn s 4 := by
  refine ⟨vsRises, fun t => rfl, fun t hs _ _ => ?_⟩
  obtain ⟨hbits, hpower⟩ := vsRises_raises (s := t) (by rw [hs, hp]) (by rw [hs, hr])
  rw [hbits, memoryWritable_iff, hpower]
  exact ⟨supply_bit _, .inl rfl⟩

/-- A clear and a raise of one bit, in either order: the later one decides (R18). -/
theorem clear_and_raise {c : Instr} {s : State} {i : Nat} {v : Byte} (ha : s.agenda = []) (hw : memoryWritable s = true)
    (hi : i < 6) (hv : v.getLsbD i = true) (h : Raises c s i) (rest : List Byte) :
    (∃ t, exec (.writeAttention (v :: rest)) s = .next t ∧ ∃ u, exec c t = .next u ∧
      u.attn.bits.getLsbD i = true ∧ (u.attn.mask.getLsbD i = true → attnLow u = true)) ∧
    (∃ t, exec c s = .next t ∧ t.attn.bits.getLsbD i = true ∧
      ∃ u, exec (.writeAttention (v :: rest)) t = .next u ∧ u.attn.bits.getLsbD i = false) := by
  constructor
  · refine ⟨_, exec_writeAttention ha hw v rest, ?_⟩
    obtain ⟨u, hu, hbit, hwu⟩ := h.exec (t := answerFrame (zeros (2 + (v :: rest).length))
      (onAttn (fun x => { x with bits := x.bits &&& ~~~(v.setWidth 6) }) s)) ha rfl rfl rfl
    exact ⟨u, hu, hbit, fun hm => (attnLow_iff u).2 ⟨ne_battery_of_writable hwu, i, hi, hbit, hm⟩⟩
  · obtain ⟨t, ht, hbit, hwt⟩ := h.exec ha rfl rfl rfl
    obtain ⟨u, hu, hbits⟩ := writeAttention_clears hwt v rest
    refine ⟨t, ht, hbit, u, hu, ?_⟩
    rw [hbits, cleared_getLsbD hi, hv]
    simp

/-- Settles O21: the register frames act on an empty agenda as they stand; each raise is its command's own effect, and no due
step of MAINS or HOLDUP raises or clears a bit, so that the later of a clear and a raise decides. -/
theorem registerWritesReachAttention : Obligations.RegisterWritesReachAttention := by
  refine ⟨fun v rest s ⟨ha, hp⟩ => ?writes, fun x s ⟨ha, hp⟩ => ?reads, fun v rest c s i ⟨ha, hp⟩ hi hv hc => ?orders,
    attnLow_iff⟩
  case writes =>
    have hw := (memoryWritable_iff s).2 hp
    refine ⟨⟨_, exec_writeAttention ha hw v rest, ?_, rfl, fun i hi => cleared_getLsbD hi⟩,
      ⟨_, exec_writeAttentionMask ha hw v rest, ?_, rfl, ?_, ?_⟩⟩
    · exact sameExcept_trans (onAttn_sameExcept (by simp) _ _) (onLink_sameExcept (by simp) _ _)
    · exact sameExcept_trans (onAttn_sameExcept (by simp) _ _) (onLink_sameExcept (by simp) _ _)
    · intro i hi
      simp [hi]
    · intro i hi hbit hv
      rw [attnLow_iff]
      exact ⟨ne_battery_of_writable hw, i, hi, hbit, by simp [hi, hv]⟩
  case reads =>
    have hb := ne_battery_of_writable ((memoryWritable_iff s).2 hp)
    refine ⟨⟨_, exec_readRegister ha _, onLink_sameExcept (by simp) _ _⟩,
      ⟨_, exec_readRegister ha _, onLink_sameExcept (by simp) _ _, ?_⟩⟩
    simp [answerFrame, hb, readRegisterAnswer, registerBytes, zeros]
  case orders =>
    have hw := (memoryWritable_iff s).2 hp
    refine clear_and_raise ha hw hi hv ?_ rest
    rcases hc with ⟨rfl, hb, hf⟩ | ⟨rfl, hm, hc⟩ | ⟨rfl, hh, hr, -, rfl⟩
    · exact publicationEnd_raises hw hb hf
    · split at hc
      · exact holdupEntry_raises hm _
      · exact resetNLow_raises hm _
      · exact hc.elim
    · exact holdupReturn_raises hh hr

end Sys2Proof.Proofs
end

section
/-! SUPPORT. What a retention write takes, and one rule for each kind of it: where each single operation on the data of a section
keeps its rule, every command does, for the live data and for all copies of it. -/

namespace Sys2Proof.Proofs
open Sys2Proof.Machine Sys2Proof.Safety

/-! ## Rules on the sections -/

/-- A predicate for each of the sections that blocks change by arithmetic. -/
structure Rules where
  account : Account → Prop
  energy : Energy → Prop
  decoder : Decoder → Prop
  settings : Settings → Prop
  book : CalendarBook → Prop

/-- Sections that obey their rules. -/
structure Obeys (R : Rules) (x : Sections) : Prop where
  account : R.account x.account
  energy : R.energy x.energy
  decoder : R.decoder x.decoder
  settings : R.settings x.settings
  book : R.book x.book

/-- A copy set whose copies hold sections that obey their rules. -/
structure SetObeys (R : Rules) (c : CopySet) : Prop where
  account : R.account c.account.held
  energy : R.energy c.energy.held
  decoder : R.decoder c.decoder.held
  settings : R.settings c.settings.held
  book : R.book c.book.held

/-- Both copy sets of an image obey the rules. -/
structure ImageObeys (R : Rules) (i : Image) : Prop where
  setA : SetObeys R i.setA
  setB : SetObeys R i.setB

/-- All that the part holds obeys the rules: the live sections, the staged record, the image, and what a write took. -/
structure Held (R : Rules) (s : State) : Prop where
  live : Obeys R (sectionsOf s)
  staged : ∀ p, s.window.staged = some p → R.settings p
  image : ImageObeys R s.store.image
  taken : ∀ w, s.store.writing = some w → Obeys R w.sections

/-- What the operations on single sections have to keep for the rules to be kept by every command. -/
structure RulesKept (R : Rules) : Prop where
  accountFactory : R.account Account.factory
  energyFactory : R.energy Energy.factory
  decoderFactory : R.decoder Decoder.factory
  settingsFactory : R.settings Settings.factory
  bookFactory : R.book CalendarBook.factory
  flags : ∀ a b c d e, R.account a →
    R.account { a with balFloor := b, debtLimit := c, energySat := d, supplyLoss := e }
  charge : ∀ billed price a, R.account a → R.account (chargeAccount billed price a)
  dayEnd : ∀ standing daily (x : Credit), R.account x.account → R.account (x.dayEnd standing daily).account
  topup : ∀ p A a, R.settings p → R.account a →
    ¬a.balance + A - topupRecovery p.debtRate A a.debt > Config.balanceLimit →
    R.account (topupAccount A (topupRecovery p.debtRate A a.debt) a)
  debt : ∀ A a, R.account a → R.account (debtAccount A a)
  clear : ∀ n a, R.account a → R.account (clearAccount n a)
  grant : ∀ p a, R.settings p → R.account a → ecStateOf a p = .offered → R.account { a with grant := p.ecAmount }
  register : ∀ e band billed exported, R.energy e → R.energy (e.add band billed exported)
  keys : ∀ d e : Decoder, e.key0 = d.key0 → e.key1 = d.key1 → e.key2 = d.key2 → e.key3 = d.key3 → R.decoder d →
    R.decoder e
  spend : ∀ d (x : Decoded) least, x.key = d.key x.slot → tokenRefusal least x = none → x.plain.cls ≠ 0 →
    x.plain.serial < 1048576 → R.decoder d → R.decoder (d.setKey x.slot (x.key.spend x.plain.serial))
  install : ∀ d n c key, R.decoder d → R.decoder (d.setKey n (installedKey c key))
  setting : ∀ p id v, settingInRange id v = true → R.settings p → R.settings (p.set id v)
  chargedTo : ∀ b date, R.book b → R.book { b with lastCharged := date }
  activate : ∀ b c, b.passive = some c → R.book b →
    R.book { b with active := { c with activation := 0 }, passive := none }
  submit : ∀ b w m, submitRefusal w m = none → R.book b → R.book { b with passive := some (imageTariff m) }

variable {R : Rules} {s t : State}

/-! ## The retention image -/

theorem freshCopy_held {α : Type} (n : WriteNumber) (x : α) : (freshCopy n x).held = x := rfl

/-- A copy under a write that is cut off holds what it held or what the write took. -/
theorem cutCopy_held {α : Type} {P : α → Prop} {x : α} {old : Copy α} (hx : P x) (ho : P old.held) (k i : Nat)
    (n : WriteNumber) : P (cutCopy k i n x old).held := by
  unfold cutCopy freshCopy
  split_ifs
  · exact hx
  · exact hx
  · exact ho

theorem setObeys_ofWrite {w : Write} (h : Obeys R w.sections) : SetObeys R (CopySet.ofWrite w) :=
  ⟨h.account, h.energy, h.decoder, h.settings, h.book⟩

theorem setObeys_ofCutWrite {w : Write} {c : CopySet} (h : Obeys R w.sections) (hc : SetObeys R c) (k : Nat) :
    SetObeys R (CopySet.ofCutWrite k w c) :=
  ⟨cutCopy_held h.account hc.account _ _ _, cutCopy_held h.energy hc.energy _ _ _,
    cutCopy_held h.decoder hc.decoder _ _ _, cutCopy_held h.settings hc.settings _ _ _,
    cutCopy_held h.book hc.book _ _ _⟩

theorem ImageObeys.get {i : Image} (h : ImageObeys R i) (n : SetName) : SetObeys R (i.get n) := by
  cases n
  · exact h.setA
  · exact h.setB

theorem ImageObeys.withSet {i : Image} {c : CopySet} (h : ImageObeys R i) (hc : SetObeys R c) (n : SetName) :
    ImageObeys R (i.withSet n c) := by
  cases n
  · exact ⟨hc, h.setB⟩
  · exact ⟨h.setA, hc⟩

theorem ImageObeys.withSlot {i : Image} (h : ImageObeys R i) (c : CompletionSlot) : ImageObeys R (i.withSlot c) := by
  unfold Image.withSlot
  split
  · exact ⟨h.setA, h.setB⟩
  · exact ⟨h.setA, h.setB⟩

theorem imageObeys_completed {x : Store} {w : Write} (h : ImageObeys R x.image) (hw : Obeys R w.sections) :
    ImageObeys R (x.completed w).image := by
  obtain ⟨-, ha, hb, -, -⟩ := recorded_slots (x.image.withSet w.target (CopySet.ofWrite w)) w.number
  have hset := h.withSet (setObeys_ofWrite hw) w.target
  exact ⟨by simpa [Store.completed, ha] using hset.setA, by simpa [Store.completed, hb] using hset.setB⟩

theorem imageObeys_cutOff {x : Store} (h : ImageObeys R x.image)
    (hw : ∀ w, x.writing = some w → Obeys R w.sections) (k : Nat) : ImageObeys R (x.cutOff k) := by
  unfold Store.cutOff
  split
  · exact h
  · next w hx =>
    have hcut := h.withSet (setObeys_ofCutWrite (hw w hx) (h.get w.target) k) w.target
    dsimp only
    split_ifs
    · exact hcut
    · exact hcut.withSlot _

theorem ImageObeys.damage {i : Image} (h : ImageObeys R i) (d : Damage) : ImageObeys R (i.damage d) :=
  ⟨⟨h.setA.account, h.setA.energy, h.setA.decoder, h.setA.settings, h.setA.book⟩,
    ⟨h.setB.account, h.setB.energy, h.setB.decoder, h.setB.settings, h.setB.book⟩⟩

/-- What a start restores is held by one of the two copies, or is the factory value. -/
theorem restored_getD {α : Type} {P : α → Prop} {a b : Copy α} {factory : α} (ha : P a.held) (hb : P b.held)
    (hf : P factory) (l : LastWrite) : P ((restored l a b).getD factory) := by
  unfold restored
  split
  · dsimp only [Option.getD_some]
    split_ifs
    · exact hb
    · exact ha
  · exact ha
  · exact hb
  · exact hf

theorem obeys_restored (k : RulesKept R) {i : Image} (h : ImageObeys R i) (on : Bool) :
    Obeys R (restoredSections i on) :=
  ⟨restored_getD h.setA.account h.setB.account k.accountFactory _,
    restored_getD h.setA.energy h.setB.energy k.energyFactory _,
    restored_getD h.setA.decoder h.setB.decoder k.decoderFactory _,
    restored_getD h.setA.settings h.setB.settings k.settingsFactory _,
    restored_getD h.setA.book h.setB.book k.bookFactory _⟩

/-! ## Parts of the state -/

/-- What the rules look at is unchanged. -/
theorem Held.same (h : Held R s) (e : t.credit.account = s.credit.account ∧ t.energy = s.energy ∧
    t.decoder = s.decoder ∧ t.settings = s.settings ∧ t.book = s.book ∧ t.window.staged = s.window.staged ∧
    t.store.image = s.store.image ∧ t.store.writing = s.store.writing) : Held R t := by
  obtain ⟨ha, he, hd, hp, hb, hs, hi, hw⟩ := e
  obtain ⟨⟨la, le, ld, lp, lb⟩, staged, image, taken⟩ := h
  exact ⟨⟨by simpa [sectionsOf, ha] using la, by simpa [sectionsOf, he] using le, by simpa [sectionsOf, hd] using ld,
    by simpa [sectionsOf, hp] using lp, by simpa [sectionsOf, hb] using lb⟩, by simpa [hs] using staged,
    by simpa [hi] using image, by simpa [hw] using taken⟩

theorem Held.onAccount (h : Held R s) {f : Credit → Credit} (ha : R.account (f s.credit).account) :
    Held R (onCredit f s) :=
  ⟨⟨ha, h.live.energy, h.live.decoder, h.live.settings, h.live.book⟩, h.staged, h.image, h.taken⟩

theorem Held.onDecoder (h : Held R s) {f : Decoder → Decoder} (hd : R.decoder (f s.decoder)) :
    Held R (Machine.onDecoder f s) :=
  ⟨⟨h.live.account, h.live.energy, hd, h.live.settings, h.live.book⟩, h.staged, h.image, h.taken⟩

theorem Held.onBook (h : Held R s) {f : CalendarBook → CalendarBook} (hb : R.book (f s.book)) :
    Held R (Machine.onBook f s) :=
  ⟨⟨h.live.account, h.live.energy, h.live.decoder, h.live.settings, hb⟩, h.staged, h.image, h.taken⟩

theorem Held.onWindow (h : Held R s) {f : Window → Window} (hw : ∀ p, (f s.window).staged = some p → R.settings p) :
    Held R (Machine.onWindow f s) :=
  ⟨⟨h.live.account, h.live.energy, h.live.decoder, h.live.settings, h.live.book⟩, hw, h.image, h.taken⟩

theorem Held.onSettings (h : Held R s) {f : Settings → Settings} (hp : R.settings (f s.settings)) :
    Held R (Machine.onSettings f s) :=
  ⟨⟨h.live.account, h.live.energy, h.live.decoder, hp, h.live.book⟩, h.staged, h.image, h.taken⟩

theorem Held.onMeter (h : Held R s) (f : Meter → Meter) : Held R (onMeter f s) := h.same (by simp)

theorem Held.onSupply (h : Held R s) (f : Supply → Supply) : Held R (onSupply f s) := h.same (by simp)

theorem Held.onAgenda (h : Held R s) (f : List Due → List Due) : Held R (onAgenda f s) := h.same (by simp)

theorem Held.markDue (h : Held R s) (bits : BitVec 6) : Held R (markDue bits s) := h.same (by simp)

theorem Held.onStore (h : Held R s) {f : Store → Store} (hi : (f s.store).image = s.store.image)
    (hw : (f s.store).writing = s.store.writing) : Held R (onStore f s) := h.same (by simp [hi, hw])

/-! ## Retention writes -/

theorem Held.beginWrite (h : Held R s) : Held R (Machine.beginWrite s) := by
  refine ⟨?_, ?_, ?_, ?_⟩
  · exact ⟨h.live.account, h.live.energy, h.live.decoder, h.live.settings, h.live.book⟩
  · exact h.staged
  · exact h.image
  · rintro w hw
    obtain rfl := Option.some.inj hw
    exact ⟨h.live.account, h.live.energy, h.live.decoder, h.live.settings, h.live.book⟩

theorem Held.requestWrite (h : Held R s) : Held R (Machine.requestWrite s) := by
  unfold Machine.requestWrite
  split_ifs
  · exact h.same (by simp)
  · exact h.beginWrite

/-! ## Reports -/

theorem Held.enteredActive (h : Held R s) : Held R (enteredActive s) :=
  (Held.requestWrite (h.markDue attnTamper)).same (by simp [Machine.enteredActive])

theorem Held.reportPresent (h : Held R s) (n : Fin 10) : Held R (reportPresent n s) := by
  unfold Machine.reportPresent
  dsimp only
  split_ifs
  · exact h
  · exact Held.enteredActive (h.same (by simp))

theorem Held.reportGone (h : Held R s) (n : Fin 10) : Held R (reportGone n s) := h.same (by simp)

theorem Held.report (h : Held R s) (n : Fin 10) (present : Bool) : Held R (report n present s) := by
  unfold Machine.report
  split_ifs
  · exact h.reportPresent n
  · exact h.reportGone n

theorem Held.reportBoth (h : Held R s) (n : Fin 10) : Held R (reportBoth n s) := (h.reportPresent n).reportGone n

theorem Held.qualifiedChange (h : Held R s) (i : SenseInput) (active : Bool) : Held R (qualifiedChange i active s) := by
  unfold Machine.qualifiedChange
  split_ifs
  · exact h.reportBoth _
  · exact h
  · exact h.report _ _

theorem Held.sampleInput (h : Held R s) (i : SenseInput) (high : Bool) : Held R (sampleInput i high s) := by
  unfold Machine.sampleInput
  dsimp only
  split_ifs
  · exact h.same (by simp)
  · exact Held.qualifiedChange (h.same (by simp)) _ _
  · exact h.same (by simp)

theorem Held.mergeWatch (h : Held R s) (i : SenseInput) (b : BatteryWatch) (high : Bool) :
    Held R (mergeWatch i b high s) := by
  unfold Machine.mergeWatch
  dsimp only
  split_ifs
  · exact h
  · exact h.same (by simp)
  · exact Held.enteredActive (h.same (by simp))

theorem Held.inputStartReport (h : Held R s) (i : SenseInput) : Held R (inputStartReport i s) := by
  unfold Machine.inputStartReport
  dsimp only
  split_ifs
  · exact h.reportBoth _
  · exact h
  · exact h.report _ _

theorem Held.deriveTamper (h : Held R s) : Held R (deriveTamper s) := h.same (by simp)

theorem Held.refreshActions (h : Held R s) : Held R (refreshActions s) := h.same (by simp [Machine.refreshActions])

theorem Held.onBattery (h : Held R s) (f : Battery → Battery) : Held R (Machine.onBattery f s) := h.same (by simp)

theorem Held.setupInput (h : Held R s) (i : SenseInput) (high : Bool) : Held R (setupInput i high s) :=
  h.same (by simp)

theorem Held.settleInputs (h : Held R s) : Held R (settleInputs s) := by
  have hmerged := (h.mergeWatch .caseIn s.battery.caseIn s.pins.sense.caseHigh).mergeWatch .coverIn s.battery.coverIn
    s.pins.sense.coverHigh
  exact (((((((hmerged.onBattery _).setupInput .caseIn _).setupInput .coverIn _).setupInput .magIn _).inputStartReport
    .caseIn).inputStartReport .coverIn).inputStartReport .magIn).refreshActions.deriveTamper

/-! ## The contactor -/

theorem Held.raiseFault (h : Held R s) : Held R (raiseFault s) := by
  unfold Machine.raiseFault
  split_ifs
  · exact h
  · exact Held.reportPresent (h.same (by simp)) _

theorem Held.openFailed (h : Held R s) : Held R (openFailed s) :=
  Held.same (Held.raiseFault (h.same (t := setStuckTimer 60 (setContactor .stuck (endAttempt s))) (by simp)))
    (by simp [Machine.openFailed])

theorem Held.closeFailed (h : Held R s) : Held R (closeFailed s) :=
  Held.same (Held.raiseFault
    (h.same (t := markManualClose (commandPosition false (setContactor .opened (endAttempt s)))) (by simp)))
    (by simp [Machine.closeFailed])

theorem Held.judgeAttempt (h : Held R s) : Held R (judgeAttempt s) := by
  unfold Machine.judgeAttempt
  split
  · next w _ =>
    cases w
    · dsimp only
      split_ifs
      · exact h.same (by simp)
      · exact h.same (by simp)
      · exact h.same (by simp)
      · exact h.openFailed
    · dsimp only
      split_ifs
      · exact h.same (by simp)
      · exact h.same (by simp)
      · exact h.same (by simp)
      · exact h.same (by simp)
      · exact h.closeFailed
  · exact h

theorem Held.weldArrives (h : Held R s) : Held R (weldArrives s) := by
  unfold Machine.weldArrives
  dsimp only
  split_ifs
  · have hstuck := h.onMeter (fun x => { x with weld := 0 })
    exact Held.same (Held.raiseFault (hstuck.same (t := setStuckTimer 60 (setContactor .stuck
      (Machine.onMeter (fun x => { x with weld := 0 }) s))) (by simp))) (by simp)
  · exact h.same (by simp)

theorem Held.findContactor (h : Held R s) : Held R (findContactor s) := by
  unfold Machine.findContactor
  dsimp only
  split_ifs
  · exact (h.reportBoth kindSwitch).same (by simp)
  · exact (h.reportGone kindSwitch).same (by simp)
  · exact (h.reportBoth kindSwitch).same (by simp)
  · exact (h.reportGone kindSwitch).same (by simp)

end Sys2Proof.Proofs
end

section
/-! SUPPORT. Rules on the sections, continued: the credit engine, the calendars, tokens, the supply and the starts; and with them
every command. -/

namespace Sys2Proof.Proofs
open Sys2Proof.Machine Sys2Proof.Safety

variable {R : Rules} {s t : State}

/-! ## The credit engine -/

theorem Held.deriveCredit (h : Held R s) : Held R (deriveCredit s) := h.same (by simp)

theorem Held.setAccount (h : Held R s) {a : Account} (ha : R.account a) : Held R (setAccount a s) := h.onAccount ha

theorem Held.changeCredit (h : Held R s) {f : Credit → Credit} (ha : R.account (f s.credit).account) :
    Held R (Machine.deriveCredit (onCredit f s)) := Held.deriveCredit (h.onAccount ha)

theorem Held.newCatchUp (h : Held R s) : Held R (newCatchUp s) := h.same (by simp [Machine.newCatchUp])

theorem Held.evaluateFriendly (h : Held R s) : Held R (evaluateFriendly s) := h.same (by simp)

theorem Held.openIntake (h : Held R s) : Held R (openIntake s) := h.same (by simp)

theorem Held.reportFailed (h : Held R s) (fs : List Bool) : Held R (reportFailed fs s) := by
  induction fs generalizing s with
  | nil => exact h
  | cons b fs ih =>
    cases b
    · exact ih h
    · exact ih (h.reportBoth _)

theorem Held.requestPublication (h : Held R s) : Held R (requestPublication s) := h.same (by simp)

theorem found_writing (x : Store) (on : Bool) : (x.found on).writing = x.writing := by
  unfold Store.found
  dsimp only
  split_ifs <;> rfl

theorem Held.setStartStep (h : Held R s) (n : Nat) : Held R (setStartStep n s) := h.same (by simp)

theorem Held.completeEntry (h : Held R s) (r : Result) : Held R (completeEntry r s) := h.same (by simp)

theorem Held.awaitWrite (h : Held R s) (r : Result) : Held R (awaitWrite r s) :=
  Held.requestWrite (h.same (t := setStage (.waiting .next r) s) (by simp))

theorem Held.endWindow (h : Held R s) (c : EndCause) : Held R (endWindow c s) :=
  Held.same (Held.onWindow h (f := fun _ => endedWindow c) (by simp [endedWindow])) (by simp [Machine.endWindow])

theorem Held.windowExpires (h : Held R s) : Held R (windowExpires s) := by
  unfold Machine.windowExpires
  split_ifs
  · exact h.endWindow _
  · exact h

theorem Held.decideDiscard (h : Held R s) (w : Work) : Held R (decideDiscard w s) := by
  unfold Machine.decideDiscard
  split_ifs
  · exact h.completeEntry _
  · exact (h.endWindow _).completeEntry _

theorem Held.decideCommit (h : Held R s) (w : Work) : Held R (decideCommit w s) := by
  have hstaged : R.settings (s.window.staged.getD s.settings) := by
    cases hw : s.window.staged with
    | none => exact h.live.settings
    | some p => exact h.staged p hw
  have hwindow : Held R (Machine.onWindow (fun x => { x with state := .committing }) s) := h.onWindow h.staged
  have hset := (hwindow.onSettings (f := fun _ => s.window.staged.getD s.settings) hstaged).deriveCredit
  unfold Machine.decideCommit
  split_ifs
  · exact h.completeEntry _
  · exact (hset.same (by simp [beginCommit, handSettings])).requestWrite

/-- What the end of a decode stands on: the key as it stands, and a serial of 20 bits (R98). -/
theorem decoded_key {d : Decoded} (h : decoded s = some d) :
    d.key = s.decoder.key d.slot ∧ d.plain.serial < 1048576 := by
  unfold decoded at h
  split at h
  · split_ifs at h
    obtain rfl := Option.some.inj h
    exact ⟨rfl, Nat.mod_lt _ (by norm_num)⟩
  · cases h

section
variable (k : RulesKept R)
include k

theorem Held.intervalCharge (h : Held R s) (billed price band : Nat) : Held R (intervalCharge billed price band s) :=
  h.changeCredit (f := fun x => { x with
    account := chargeAccount billed price x.account
    lastCharge := lastChargeOf billed price band x.account }) (k.charge _ _ _ h.live.account)

theorem Held.onKeys (h : Held R s) {f : Decoder → Decoder} (h0 : (f s.decoder).key0 = s.decoder.key0)
    (h1 : (f s.decoder).key1 = s.decoder.key1) (h2 : (f s.decoder).key2 = s.decoder.key2)
    (h3 : (f s.decoder).key3 = s.decoder.key3) : Held R (Machine.onDecoder f s) :=
  h.onDecoder (k.keys _ _ h0 h1 h2 h3 h.live.decoder)

theorem Held.chargedUpTo (h : Held R s) (date : Nat) : Held R (chargedUpTo date s) :=
  h.onBook (k.chargedTo _ _ h.live.book)

theorem Held.issueDayEnd (h : Held R s) : Held R (issueDayEnd s) := by
  have hbook : Held R (Machine.onBook (fun x => { x with lastCharged := x.lastCharged.map (· + 1) }) s) :=
    h.onBook (k.chargedTo _ _ h.live.book)
  have hcredit := hbook.changeCredit (f := Credit.dayEnd s.book.active.standing s.settings.debtDaily)
    (k.dayEnd _ _ _ hbook.live.account)
  exact Held.same (hcredit.onKeys k (f := fun x => { x with badCount := 0 }) rfl rfl rfl rfl)
    (by simp [Machine.issueDayEnd, Machine.creditDayEnd])

theorem Held.dayEnds (h : Held R s) (n : Nat) : Held R (dayEnds n s) := by
  induction n generalizing s with
  | zero => exact h
  | succ n ih => exact ih (h.issueDayEnd k)

theorem Held.issueDays (h : Held R s) (most : Nat) : Held R (issueDays most s) := by
  unfold Machine.issueDays
  dsimp only
  split_ifs
  · exact (h.dayEnds k _).chargedUpTo k _
  · exact h.dayEnds k _

theorem Held.catchUpGoesOn (h : Held R s) : Held R (catchUpGoesOn s) :=
  Held.issueDays k (h.same (by simp)) _

theorem Held.catchUpWhole (h : Held R s) : Held R (catchUpWhole s) := by
  unfold Machine.catchUpWhole
  split_ifs
  · exact h
  · exact h.newCatchUp |>.issueDays k _

theorem Held.catchUp (h : Held R s) : Held R (catchUp s) := by
  have hfirst := (h.newCatchUp).issueDays k 1
  unfold Machine.catchUp
  dsimp only
  split_ifs
  · exact h
  · exact h.catchUpWhole k
  · exact hfirst
  · exact hfirst.catchUpGoesOn k

theorem Held.catchUpThen (h : Held R s) {behind : State → State} (hb : ∀ s, Held R s → Held R (behind s))
    (later : List Due) : Held R (catchUpThen later behind s) := by
  rcases catchUpThen_cases later behind s with e | ⟨-, -, e⟩ <;> rw [e]
  · exact hb _ (h.catchUp k)
  · exact (h.catchUp k).same (by simp)

theorem Held.setOrCatchUp (h : Held R s) : Held R (setOrCatchUp s) := by
  unfold Machine.setOrCatchUp
  split
  · split_ifs
    · exact h.chargedUpTo k _
    · exact h
  · exact h.catchUpWhole k

/-! ## Entries -/

theorem Held.decideEmergency (h : Held R s) : Held R (decideEmergency s) := by
  unfold Machine.decideEmergency
  dsimp only
  split_ifs with he
  · exact ((h.setAccount (k.grant _ _ h.live.settings h.live.account he)).deriveCredit).completeEntry _
  · exact h.completeEntry _

theorem Held.decideFlagClear (h : Held R s) (w : Work) : Held R (decideFlagClear w s) := by
  unfold Machine.decideFlagClear
  dsimp only
  split_ifs
  · exact h.completeEntry _
  · exact (h.setAccount (k.flags _ _ _ _ _ h.live.account)).completeEntry _

theorem Held.decideTimeSet (h : Held R s) (w : Work) : Held R (decideTimeSet w s) := by
  unfold Machine.decideTimeSet
  dsimp only
  split_ifs
  · have htime : Held R (setTime (w.field 4 4) s) := h.same (by simp)
    exact ((htime.setOrCatchUp k).evaluateFriendly).completeEntry _
  · exact h.completeEntry _

theorem Held.refuseBadCode (h : Held R s) (r : Result) : Held R (refuseBadCode r s) := by
  unfold Machine.refuseBadCode
  split_ifs
  · exact h.same (by simp)
  · exact (h.onKeys k rfl rfl rfl rfl).completeEntry _

theorem Held.decideToken (h : Held R s) (w : Work) : Held R (decideToken w s) := by
  unfold Machine.decideToken
  dsimp only
  split
  · exact h.completeEntry _
  · split
    · exact h.completeEntry _
    · split
      · exact h.completeEntry _
      · split
        · exact h.completeEntry _
        · split
          · exact h.refuseBadCode k _
          · split
            · exact h.completeEntry _
            · exact h.same (by simp)

theorem Held.applySubmit (h : Held R s) : Held R (applySubmit s) := by
  unfold Machine.applySubmit
  split
  · exact h.completeEntry _
  · next hs =>
    have hbook : Held R (Machine.onBook (fun x => { x with passive := some (imageTariff s.mem) }) s) :=
      h.onBook (k.submit _ _ _ hs h.live.book)
    exact (hbook.same (by simp)).requestWrite

/-! ## Tokens -/

theorem Held.acceptToken (h : Held R s) {d : Decoded} {least : Nat} (hkey : d.key = s.decoder.key d.slot)
    (hr : tokenRefusal least d = none) (hc : d.plain.cls ≠ 0) (hn : d.plain.serial < 1048576) (fields : List Byte) :
    Held R (acceptToken d fields s) := by
  have hspent : Held R (spendSerial d s) := h.onDecoder (by
    rw [← hkey]
    exact k.spend _ _ _ hkey hr hc hn h.live.decoder)
  exact (hspent.onKeys k (f := fun x => { x with
    badCount := 0, lastToken := ⟨d.work.source, d.slot, d.plain.cls, d.plain.serial⟩ }) rfl rfl rfl rfl).awaitWrite _

theorem Held.applyCredit (h : Held R s) {d : Decoded} (hd : decoded s = some d) (hr : tokenRefusal 1 d = none)
    (hc : d.plain.cls = 1) : Held R (applyCredit d s) := by
  obtain ⟨hkey, hn⟩ := decoded_key hd
  unfold Machine.applyCredit topup
  dsimp only
  split_ifs with _ htop
  · exact h.completeEntry _
  · exact h.completeEntry _
  · have htop := (h.setAccount (k.topup _ _ _ h.live.settings h.live.account htop)).deriveCredit
    exact htop.acceptToken k (by simpa using hkey) hr (by simp [hc]) hn _

theorem Held.applyDebtAdd (h : Held R s) {d : Decoded} (hd : decoded s = some d) (hr : tokenRefusal 3 d = none)
    (hc : d.plain.cls = 2) : Held R (applyDebtAdd d s) := by
  obtain ⟨hkey, hn⟩ := decoded_key hd
  unfold Machine.applyDebtAdd
  dsimp only
  split_ifs
  · exact h.completeEntry _
  · exact ((h.setAccount (k.debt _ _ h.live.account)).deriveCredit).acceptToken k (by simpa using hkey) hr (by simp [hc]) hn _

theorem Held.applyClear (h : Held R s) {d : Decoded} (hd : decoded s = some d) (hr : tokenRefusal 3 d = none)
    (hc : d.plain.cls = 3) : Held R (applyClear d s) := by
  obtain ⟨hkey, hn⟩ := decoded_key hd
  unfold Machine.applyClear
  split_ifs
  · exact h.completeEntry _
  · exact ((h.setAccount (k.clear _ _ h.live.account)).deriveCredit).acceptToken k (by simpa using hkey) hr (by simp [hc]) hn _

theorem Held.applySetting (h : Held R s) {d : Decoded} (hd : decoded s = some d) (hr : tokenRefusal 0 d = none)
    (hc : d.plain.cls = 4) : Held R (applySetting d s) := by
  obtain ⟨hkey, hn⟩ := decoded_key hd
  unfold Machine.applySetting
  dsimp only
  split
  · exact h.completeEntry _
  · next p hp =>
    split_ifs with _ _ _ hrange
    · exact h.completeEntry _
    · exact h.completeEntry _
    · exact h.completeEntry _
    · exact h.completeEntry _
    · have hset := k.setting p _ _ (by simpa using hrange) (h.staged p hp)
      have hstaged : Held R (stageSetting (p.set (d.plain.payload / 2 ^ 24) (d.plain.payload % 2 ^ 24)) s) :=
        h.onWindow (by simpa using hset)
      exact hstaged.acceptToken k (by simpa [stageSetting] using hkey) hr (by simp [hc]) hn _

theorem Held.applyWindowOpen (h : Held R s) {d : Decoded} (hd : decoded s = some d) (hr : tokenRefusal 2 d = none)
    (hc : d.plain.cls = 5) : Held R (applyWindowOpen d s) := by
  obtain ⟨hkey, hn⟩ := decoded_key hd
  unfold Machine.applyWindowOpen
  split_ifs
  · exact h.completeEntry _
  · exact h.completeEntry _
  · have hopen : Held R (Machine.onWindow
        (fun x => ⟨.opened, d.key.authority, d.plain.payload * 60, some s.settings, x.cause⟩) s) :=
      h.onWindow (by rintro p ⟨⟩; exact h.live.settings)
    have hopened : Held R (openWindow d.key.authority (d.plain.payload * 60) s) :=
      hopen.same (by simp [Machine.openWindow])
    exact hopened.acceptToken k (by simpa using hkey) hr (by simp [hc]) hn _

theorem Held.applyTamperClear (h : Held R s) {d : Decoded} (hd : decoded s = some d) (hr : tokenRefusal 2 d = none)
    (hc : d.plain.cls = 6) : Held R (applyTamperClear d s) := by
  obtain ⟨hkey, hn⟩ := decoded_key hd
  unfold Machine.applyTamperClear
  split_ifs
  · exact h.completeEntry _
  · have hcleared : Held R (tamperClearArrives d.plain.payload s) := h.same (by simp)
    exact hcleared.acceptToken k (by simpa using hkey) hr (by simp [hc]) hn _

theorem Held.applyKeyChange (h : Held R s) {d : Decoded} (hd : decoded s = some d) (hr : tokenRefusal 3 d = none)
    (hc : d.plain.cls = 7) : Held R (applyKeyChange d s) := by
  obtain ⟨hkey, hn⟩ := decoded_key hd
  unfold Machine.applyKeyChange
  dsimp only
  split_ifs
  · exact h.completeEntry _
  · exact h.completeEntry _
  · have hspent : Held R (spendSerial d s) := h.onDecoder (by
      rw [← hkey]
      exact k.spend _ _ _ hkey hr (by simp [hc]) hn h.live.decoder)
    have hinstalled : Held R (installKey (keyChangeOf d.plain.payload) (derivedKey d.key.key d.plain.block)
        (spendSerial d s)) := hspent.onDecoder (k.install _ _ _ _ hspent.live.decoder)
    exact (hinstalled.onKeys k (f := fun x => { x with
      badCount := 0, lastToken := ⟨d.work.source, d.slot, d.plain.cls, d.plain.serial⟩ }) rfl rfl rfl rfl).awaitWrite _

theorem Held.applyRemote (h : Held R s) {d : Decoded} (hd : decoded s = some d) (hr : tokenRefusal 3 d = none)
    (hc : d.plain.cls ≠ 0) (on : Bool) : Held R (applyRemote on d s) := by
  obtain ⟨hkey, hn⟩ := decoded_key hd
  unfold Machine.applyRemote
  split_ifs
  · exact h.completeEntry _
  · exact h.acceptToken k hkey hr hc hn _
  · have horder : Held R (setOrder on s) := h.onKeys k rfl rfl rfl rfl
    have hslot (n : Nat) : (setOrder on s).decoder.key n = s.decoder.key n := by
      rcases n with _ | _ | _ | n <;> rfl
    exact Held.acceptToken k (horder.same (by simp)) (by simpa [hslot] using hkey) hr hc hn _

theorem Held.applyTest (h : Held R s) (d : Decoded) : Held R (applyTest d s) := by
  unfold Machine.applyTest
  split_ifs
  · exact h.completeEntry _
  · exact (h.onKeys k (f := fun x => { x with
      badCount := 0, lastToken := ⟨d.work.source, d.slot, d.plain.cls, d.plain.serial⟩ }) rfl rfl rfl rfl).completeEntry _

theorem Held.tokenFails (h : Held R s) : Held R (tokenFails s) := by
  unfold Machine.tokenFails
  split
  · exact h
  · split_ifs
    · exact h.refuseBadCode k _
    · exact h.completeEntry _
    · exact h

theorem Held.startLockout (h : Held R s) : Held R (startLockout s) :=
  (h.onKeys k (f := fun x => { x with lockout := 1800, badCount := 0 }) rfl rfl rfl rfl).reportPresent _

theorem Held.endLockout (h : Held R s) : Held R (endLockout s) :=
  (h.onKeys k (f := fun x => { x with lockout := 0 }) rfl rfl rfl rfl).reportGone _

/-! ## Metering -/

theorem Held.activateDue (h : Held R s) : Held R (activateDue s) := by
  unfold Machine.activateDue
  split
  · exact h
  · next c hc =>
    split_ifs
    · have hbook : Held R (Machine.onBook (fun x => { x with active := { c with activation := 0 }, passive := none }) s) :=
        h.onBook (k.activate _ _ hc h.live.book)
      exact (hbook.requestWrite.catchUpThen k (fun _ h => h.evaluateFriendly) _).markDue _
    · exact h

theorem Held.billInterval (h : Held R s) (imported exported ms : Nat) : Held R (billInterval imported exported ms s) := by
  have hdue := h.activateDue k
  have hregister (band billed exported : Nat) (f : Meter → Meter) :
      Held R (registerEnergy band billed exported (Machine.onMeter f (Machine.activateDue s))) :=
    ⟨⟨hdue.live.account, k.register _ _ _ _ hdue.live.energy, hdue.live.decoder, hdue.live.settings, hdue.live.book⟩,
      hdue.staged, hdue.image, hdue.taken⟩
  exact (hregister _ _ _ _).intervalCharge k _ _ _

theorem Held.markSaturation (h : Held R s) (e : Phases Int) : Held R (markSaturation e s) := by
  unfold Machine.markSaturation
  split_ifs
  · exact h.setAccount (k.flags _ _ _ _ _ h.live.account)
  · exact h

theorem Held.closeInterval (h : Held R s) (m : Measurement) : Held R (closeInterval m s) := by
  unfold Machine.closeInterval
  dsimp only
  split_ifs
  · have htaken : Held R (sampleVbat m.vbat (takeResults m (Machine.markSaturation m.energy s))) :=
      (h.markSaturation k m.energy).same (by simp [sampleVbat, takeResults])
    exact (htaken.billInterval k _ _ _).onAgenda _
  · exact h

theorem Held.closePartial (h : Held R s) (p : PartMeasurement) : Held R (closePartial p s) := by
  unfold Machine.closePartial
  dsimp only
  split_ifs
  · exact (h.billInterval k _ _ _).onMeter _
  · exact ((h.markSaturation k _).billInterval k _ _ _).onMeter _

omit k in
theorem Held.qualifyCondition (h : Held R s) (c : Condition) : Held R (qualifyCondition c s) :=
  Held.report (h.same (by simp)) _ _

theorem Held.countLockout (h : Held R s) : Held R (countLockout s) := by
  have hcount := h.onKeys k (f := fun x => { x with lockout := x.lockout - 1 }) rfl rfl rfl rfl
  unfold Machine.countLockout
  dsimp only
  split_ifs
  · exact h
  · exact hcount.onAgenda _
  · exact hcount

/-! ## The supply -/

omit k in
theorem Held.completeWrite (h : Held R s) : Held R (completeWrite s) := by
  unfold Machine.completeWrite
  split
  · exact h
  · next w hw =>
    have htaken := h.taken w hw
    have hstore : Held R (storeWrite w s) :=
      ⟨⟨h.live.account, h.live.energy, h.live.decoder, h.live.settings, h.live.book⟩, h.staged,
        imageObeys_completed h.image htaken, by simp [Store.completed]⟩
    have htold : Held R (tellWork (storeWrite w s)) := by
      unfold tellWork
      split
      · exact hstore
      · split
        · split_ifs
          · exact (hstore.endWindow _).completeEntry _
          · exact hstore.completeEntry _
        · exact hstore
    have hserved : Held R (serveRequests (tellWork (storeWrite w s))) := by
      unfold serveRequests
      split_ifs
      · exact htold.beginWrite
      · exact htold
    exact hserved.same (by simp)

omit k in
theorem Held.abandonWork (h : Held R s) : Held R (abandonWork s) := by
  unfold Machine.abandonWork
  split
  · exact h
  · split
    · exact h.completeEntry _
    · exact h.completeEntry _
    · exact h

theorem Held.passLockout (h : Held R s) : Held R (passLockout s) := by
  unfold Machine.passLockout
  split_ifs
  · exact h.endLockout k
  · exact h.onKeys k rfl rfl rfl rfl

omit k in
theorem Held.holdupWindow (h : Held R s) : Held R (holdupWindow s) := by
  unfold Machine.holdupWindow
  split_ifs
  · exact h.endWindow _
  · exact h

theorem Held.enterHoldup (h : Held R s) (reset : Bool) (p : PartMeasurement) : Held R (enterHoldup reset p s) := by
  have hdrop : Held R (holdupSwitch (raiseNow attnSupply (dropPower reset s))) := h.same (by simp)
  have hclosed := (((hdrop.abandonWork).closePartial k p).passLockout k).holdupWindow
  exact (Held.requestWrite (hclosed.onSupply _)).requestPublication

theorem Held.vsFalls (h : Held R s) (p : PartMeasurement) : Held R (vsFalls p s) := by
  unfold Machine.vsFalls
  split
  · exact Held.enterHoldup k (h.same (by simp)) _ _
  · exact h.same (by simp)
  · exact h.same (by simp)
  · exact h

theorem Held.resetLow (h : Held R s) (p : PartMeasurement) : Held R (resetLow p s) := by
  unfold Machine.resetLow
  split
  · exact h.enterHoldup k _ _
  · split_ifs
    · exact h
    · exact Held.requestWrite (h.same (by simp))
  · exact h.same (by simp)
  · exact h

theorem Held.vsRises (h : Held R s) : Held R (vsRises s) := by
  unfold Machine.vsRises
  split
  · dsimp only
    split_ifs
    · exact h.same (by simp)
    · exact (Held.catchUpThen k (h.same (by simp)) (fun _ h => h) _).openIntake
  · exact h.same (by simp)
  · exact h
  · exact h

/-- A part that lost what it held outside the image has factory values (R178). -/
theorem held_powered {i : Image} (hi : ImageObeys R i) (p : Power) (q : List Instr) (l : Link) (c : Clock) (b : Battery)
    (u : CatchUp) : Held R (State.powered p q l c b i u) :=
  ⟨⟨k.accountFactory, k.energyFactory, k.decoderFactory, k.settingsFactory, k.bookFactory⟩,
    by simp [State.powered, Window.cleared], hi, by simp [State.powered, Store.factory]⟩

theorem Held.vsFails (h : Held R s) (b : BatteryInputs) : Held R (vsFails b s) := by
  have hbattery : Held R (enterBattery b s) := held_powered k (imageObeys_cutOff h.image h.taken _) _ _ _ _ _ _
  unfold Machine.vsFails
  split
  · exact hbattery
  · exact hbattery
  · exact h
  · exact h

/-! ## A start -/

theorem Held.takeSections (h : Held R s) {x : Sections} (hx : Obeys R x) : Held R (takeSections x s) :=
  ⟨⟨k.flags _ _ _ _ _ hx.account, hx.energy, hx.decoder, hx.settings, hx.book⟩, h.staged, h.image, h.taken⟩

theorem Held.restoreStep (h : Held R s) : Held R (restoreStep s) := by
  have htaken := h.takeSections k (obeys_restored k h.image (decide (s.supply.cause = .powerOn)))
  exact (((htaken.onSupply _).onStore (found_image _ _) (found_writing _ _)).reportFailed _).deriveTamper

omit k in
theorem Held.clockReports (h : Held R s) : Held R (clockReports s) := by
  unfold Machine.clockReports
  dsimp only
  have hclear {t : State} (ht : Held R t) : Held R (clearCrystalMark t) := ht.same (by simp [clearCrystalMark])
  split_ifs
  · exact (hclear h).reportGone _
  · exact (hclear (h.reportBoth _)).reportGone _
  · exact (hclear h).reportGone _
  · exact hclear (h.reportPresent _)
  · exact hclear (h.reportPresent _)
  · exact hclear h

theorem Held.nextStep (h : Held R s) : Held R (nextStep s) := by
  unfold Machine.nextStep
  split
  · exact h.restoreStep k
  · exact (h.settleInputs.clockReports.report kindKeypad _).setStartStep 2
  · exact (h.setOrCatchUp k).setStartStep 3
  · exact Held.beginWrite (h.findContactor.same (by simp))
  · exact h.same (by simp [pagesStep, putPages, clearExchange, sampleVbat, endFrame])
  · exact h

theorem Held.runSteps (h : Held R s) (n : Nat) : Held R (runSteps n s) := by
  induction n generalizing s with
  | zero => exact h
  | succ n ih => exact ih (h.nextStep k)

theorem held_startState (s : State) (cause : StartCause) (i : StartInputs) {j : Image} (hj : ImageObeys R j) :
    Held R (startState cause i j s) :=
  Held.same (held_powered k (hj.damage i.damage) .start s.pending s.link (s.clock.started cause i.crystalRuns) s.battery
    s.catchUp) (by simp [Machine.startState])

theorem Held.startFromBattery (h : Held R s) (i : StartInputs) : Held R (startFromBattery i s) := by
  unfold Machine.startFromBattery
  split
  · exact (held_startState k s _ _ h.image).runSteps k _
  · exact h
  · exact h
  · exact h

theorem Held.startFromReset (h : Held R s) (i : StartInputs) : Held R (startFromReset i s) := by
  have himage : ImageObeys R (imageAtReset s.store) := by
    unfold imageAtReset
    split
    · exact h.image
    · next w hw => exact imageObeys_completed h.image (h.taken w hw)
  unfold Machine.startFromReset
  split_ifs
  · exact (held_startState k s _ _ himage).runSteps k _
  · exact h

theorem Held.finishStart (h : Held R s) : Held R (finishStart s) := by
  unfold Machine.finishStart
  split_ifs
  · exact (h.runSteps k _).completeWrite
  · exact h

theorem Held.enterMains (h : Held R s) : Held R (enterMains s) := by
  have hfirst := (h.runSteps k (5 - s.supply.startStep)).same
    (t := beginInterval (beginMains (Machine.runSteps (5 - s.supply.startStep) s))) (by simp [beginInterval, beginMains])
  have hmains := (hfirst.catchUpThen k (behind := id) (fun _ h => h) []).openIntake
  unfold Machine.enterMains
  dsimp only
  split_ifs
  · exact (hmains.vsFalls k _).resetLow k _
  · exact hmains.resetLow k _
  · exact hmains.vsFalls k _
  · exact hmains
  · exact h

/-! ## Every command -/

theorem Held.runDue (h : Held R s) (d : Due) : Held R (runDue d s) := by
  have hwork {f : Work → State → State} (hf : ∀ w s, Held R s → Held R (f w s)) : Held R (withWork f s) := by
    unfold withWork
    split
    · exact h
    · split_ifs
      · exact hf _ _ h
      · exact h
  cases d with
  | token => exact hwork fun w s h => h.decideToken k w
  | reconnect => exact hwork fun w s h => h.same (by simp)
  | emergency => exact hwork fun w s h => h.decideEmergency k
  | timeSet => exact hwork fun w s h => h.decideTimeSet k w
  | calendarSubmit => exact hwork fun w s h => h.same (by simp)
  | windowCloseDiscard => exact hwork fun w s h => h.decideDiscard w
  | windowCloseCommit => exact hwork fun w s h => h.decideCommit w
  | windowClosePayloadRange => exact hwork fun w s h => h.completeEntry _
  | flagClear => exact hwork fun w s h => h.decideFlagClear k w
  | kindUnknown => exact hwork fun w s h => h.completeEntry _
  | keypadLockoutStart => exact h.startLockout k
  | keypadLockoutEnd => exact h.endLockout k
  | windowExpiry => exact h.windowExpires
  | periodicWriteDue => exact h.requestWrite
  | conditionQualified c => exact h.qualifyCondition c
  | weldObservation => exact h.weldArrives
  | startReady => exact h.enterMains k
  | complete r => exact h.completeEntry r
  | judge => exact h.judgeAttempt
  | lockoutCount => exact h.countLockout k
  | catchUp => exact h
  | windowCount | periodicCount => exact h.same (by simp [Machine.runDue])
  | _ => exact h.same (by simp [Machine.runDue, beginInterval])

/-- Where single operations keep the rules, every command does. -/
theorem held_kept : Kept (Held R) where
  agenda s a h := h.same (by simp)
  due d s h := h.runDue k d
  catchUp s h := h.catchUpGoesOn k
  link f s h := h.same (by simp)
  byte a v s h := h.same (by simp)
  attention data s h := h.same (by unfold clearAttention; split <;> (try split_ifs) <;> simp)
  mask data s h := h.same (by unfold replaceMask; split <;> (try split_ifs) <;> simp)
  submit s h := h.applySubmit k
  refuse code d s _ h := h.completeEntry _
  test d s _ _ _ h := h.applyTest k d
  credit d s hd hr hc h := h.applyCredit k hd hr hc
  debtAdd d s hd hr hc h := h.applyDebtAdd k hd hr hc
  clear d s hd hr hc h := h.applyClear k hd hr hc
  setting d s hd hr hc h := h.applySetting k hd hr hc
  windowOpen d s hd hr hc h := h.applyWindowOpen k hd hr hc
  tamperClear d s hd hr hc h := h.applyTamperClear k hd hr hc
  keyChange d s hd hr hc h := h.applyKeyChange k hd hr hc
  remoteOpen d s hd hr hc h := h.applyRemote k hd hr (by simp [hc]) true
  remoteClose d s hd hr hc h := h.applyRemote k hd hr (by simp [hc]) false
  fails s h := h.tokenFails k
  publication s h := h.same (by simp)
  write s h := h.completeWrite
  interval m s h := h.closeInterval k m
  pulse s h := h.same (by simp)
  wait s h := h.same (by simp)
  second p s h := by
    unfold meterSecond
    split_ifs
    · exact h.same (by simp [sampleBattery])
    · exact h
    · exact Held.catchUpThen k (h.same (by simp)) (fun _ h => h.evaluateFriendly) _
  crystalStop s h := by
    have hbackup : Held R (toBackup s) := h.same (by simp)
    unfold crystalStops
    dsimp only
    split_ifs
    · exact h
    · exact ((hbackup.reportPresent _).markDue _).evaluateFriendly
    · exact (hbackup.markDue _).evaluateFriendly
    · exact (hbackup.reportPresent _).evaluateFriendly
    · exact hbackup.evaluateFriendly
  crystalReturn s h := h.same (by simp)
  sample i high s h := h.sampleInput i high
  falls p s h := h.vsFalls k p
  reset p s h := h.resetLow k p
  rises s h := h.vsRises k
  failing b s h := h.vsFails k b
  start i s h := h.startFromBattery k i
  resetStart i s h := h.startFromReset k i
  finish s h := h.finishStart k
  domain s h := by
    unfold domainLost
    split_ifs
    · exact h.same (by simp)
    · exact h

/-- Where single operations keep the rules, every step does. -/
theorem held_step (h : Held R s) (he : step s = .next t) : Held R t :=
  (held_kept k).step (fun _ _ h => h.same (by simp)) s t h he

end

end Sys2Proof.Proofs
end

section
/-! SUPPORT. O6 to O9: the rules of the account, the settings and calendars, the serial windows and the energy registers. -/

namespace Sys2Proof.Proofs
open Sys2Proof.Machine Sys2Proof.Safety

/-! ## The account (R60, R61) -/

theorem takeCharge_lawful {a : Account} (h : LawfulAccount a) (c : Nat) :
    InRange (takeCharge c a) ∧ (takeCharge c a).balance = a.balance - c + shortfall a.balance c ∧
      (takeCharge c a).unbilled = a.unbilled + shortfall a.balance c := by
  obtain ⟨⟨hres, hfloor, hlimit, hdebt, hgrant⟩, -⟩ := h
  have hmax : (takeCharge c a).balance = a.balance - c + shortfall a.balance c := by
    simp only [takeCharge, shortfall, Config.balanceLimit]
    omega
  refine ⟨⟨hres, ?_, ?_, hdebt, hgrant⟩, hmax, rfl⟩
  · simp only [takeCharge, Config.balanceLimit]
    omega
  · simp only [takeCharge, Config.balanceLimit]
    omega

theorem chargeAccount_lawful {a : Account} (h : LawfulAccount a) (billed price : Nat) :
    LawfulAccount (chargeAccount billed price a) := by
  obtain ⟨hr, hb, hu⟩ := takeCharge_lawful h (pricedAmount billed price a.residue / Config.residueUnit)
  obtain ⟨-, hbal, hdeb⟩ := h
  refine ⟨⟨Nat.mod_lt _ (by decide), hr.floor, hr.limit, hr.debt, hr.grant⟩, ?_, hdeb⟩
  simp only [chargeAccount] at hb ⊢
  rw [hb, hu, hbal]
  simp only [takeCharge]
  push_cast
  ring

theorem standAccount_lawful {a : Account} (h : LawfulAccount a) (standing : Nat) :
    LawfulAccount (standAccount standing a) := by
  obtain ⟨hr, hb, hu⟩ := takeCharge_lawful h standing
  obtain ⟨-, hbal, hdeb⟩ := h
  refine ⟨⟨hr.residue, hr.floor, hr.limit, hr.debt, hr.grant⟩, ?_, hdeb⟩
  simp only [standAccount] at hb ⊢
  rw [hb, hu, hbal]
  simp only [takeCharge]
  push_cast
  ring

theorem recoverAccount_lawful {a : Account} (h : LawfulAccount a) (daily : Nat) :
    LawfulAccount (recoverAccount (dailyRecovery daily a) a) := by
  obtain ⟨⟨hres, hfloor, hlimit, hdebt, hgrant⟩, hbal, hdeb⟩ := h
  refine ⟨⟨hres, ?_, ?_, ?_, hgrant⟩, ?_, ?_⟩ <;> simp only [recoverAccount, dailyRecovery] <;> omega

theorem topupAccount_lawful {a : Account} {p : Settings} (h : LawfulAccount a) (hp : p.debtRate ≤ 100) (A : Nat)
    (hroom : ¬a.balance + A - topupRecovery p.debtRate A a.debt > Config.balanceLimit) :
    LawfulAccount (topupAccount A (topupRecovery p.debtRate A a.debt) a) := by
  obtain ⟨⟨hres, hfloor, hlimit, hdebt, hgrant⟩, hbal, hdeb⟩ := h
  have hshare : topupRecovery p.debtRate A a.debt ≤ A := by
    refine (Nat.min_le_right _ _).trans (Nat.div_le_of_le_mul ?_)
    calc A * p.debtRate ≤ A * 100 := Nat.mul_le_mul_left _ hp
      _ = 100 * A := Nat.mul_comm _ _
  have howed : topupRecovery p.debtRate A a.debt ≤ a.debt := Nat.min_le_left _ _
  simp only [Config.balanceLimit] at hroom
  refine ⟨⟨hres, ?_, ?_, ?_, ?_⟩, ?_, ?_⟩ <;> simp only [topupAccount]
  · omega
  · omega
  · omega
  · split_ifs
    · exact Nat.zero_le _
    · exact hgrant
  · push_cast
    omega
  · push_cast
    omega

theorem debtAccount_lawful {a : Account} (h : LawfulAccount a) (A : Nat) : LawfulAccount (debtAccount A a) := by
  obtain ⟨⟨hres, hfloor, hlimit, hdebt, hgrant⟩, hbal, hdeb⟩ := h
  refine ⟨⟨hres, hfloor, hlimit, ?_, hgrant⟩, hbal, ?_⟩ <;> simp only [debtAccount, debtAdded, Config.debtLimit] <;> omega

theorem clearCreditGroup_lawful {a : Account} (h : LawfulAccount a) : LawfulAccount (clearCreditGroup a) := by
  obtain ⟨⟨-, -, -, hdebt, -⟩, -, hdeb⟩ := h
  refine ⟨⟨?_, ?_, ?_, hdebt, ?_⟩, ?_, hdeb⟩ <;> simp [clearCreditGroup]

theorem clearDebtGroup_lawful {a : Account} (h : LawfulAccount a) : LawfulAccount (clearDebtGroup a) := by
  obtain ⟨⟨hres, hfloor, hlimit, -, hgrant⟩, hbal, -⟩ := h
  refine ⟨⟨hres, hfloor, hlimit, ?_, hgrant⟩, hbal, ?_⟩ <;> simp [clearDebtGroup]

theorem clearAccount_lawful {a : Account} (h : LawfulAccount a) (n : Nat) : LawfulAccount (clearAccount n a) := by
  unfold clearAccount
  dsimp only
  split_ifs
  · exact clearDebtGroup_lawful (clearCreditGroup_lawful h)
  · exact clearDebtGroup_lawful h
  · exact clearCreditGroup_lawful h
  · exact h

/-! ## Settings (R130) -/

theorem debtRate_le {p : Settings} (h : LawfulSettings p) : p.debtRate ≤ 100 := by
  have hr := h 13 (by norm_num) (by norm_num)
  simp [SettingRange, settingRanges, Settings.get, Settings.toList] at hr
  exact hr

theorem ecAmount_le {p : Settings} (h : LawfulSettings p) : p.ecAmount ≤ 10000000 := by
  have hr := h 6 (by norm_num) (by norm_num)
  simp [SettingRange, settingRanges, Settings.get, Settings.toList] at hr
  exact hr

theorem settingInRange_range {id v : Nat} (h : settingInRange id v = true) : SettingRange id v := by
  rcases Nat.lt_or_ge id 20 with hid | hid
  · interval_cases id <;> simp [settingInRange, modeInRange] at h <;> simp [SettingRange, settingRanges, h]
  · have hout : settingInRange id v = false := by
      unfold settingInRange
      split <;> first | omega | rfl
    simp [hout] at h

theorem settings_toList_set (p : Settings) {id : Nat} (v : Nat) (hid : 1 ≤ id ∧ id ≤ 19) :
    (p.set id v).toList = p.toList.set (id - 1) v := by
  obtain ⟨hlow, hhigh⟩ := hid
  interval_cases id <;> rfl

theorem settings_set_unknown (p : Settings) {id : Nat} (v : Nat) (hid : ¬(1 ≤ id ∧ id ≤ 19)) : p.set id v = p := by
  unfold Settings.set
  split <;> first | omega | rfl

theorem settings_get_set (p : Settings) {id : Nat} (v : Nat) {n : Nat} (hid : 1 ≤ id ∧ id ≤ 19) (hn : 1 ≤ n) :
    (p.set id v).get n = if n = id then v else p.get n := by
  have hlength : p.toList.length = 19 := rfl
  have hn0 : n ≠ 0 := by omega
  rw [Settings.get, Settings.get, if_neg hn0, if_neg hn0, settings_toList_set p v hid, List.getD_eq_getElem?_getD,
    List.getD_eq_getElem?_getD, List.getElem?_set]
  by_cases h : n = id
  · subst h
    simp [show n - 1 < p.toList.length by omega]
  · rw [if_neg (by omega), if_neg h]

theorem settings_set_lawful {p : Settings} {id v : Nat} (hv : settingInRange id v = true) (h : LawfulSettings p) :
    LawfulSettings (p.set id v) := by
  intro n hlow hhigh
  by_cases hid : 1 ≤ id ∧ id ≤ 19
  · rw [settings_get_set p v hid hlow]
    split_ifs with hn
    · exact hn ▸ settingInRange_range hv
    · exact h n hlow hhigh
  · rw [settings_set_unknown p v hid]
    exact h n hlow hhigh

/-! ## Serial windows (R95, R96) -/

/-- What compaction leaves of a rising set above its floor: the floor moves up to a member, and every member is at or below
the new floor or still in the set. -/
structure Compacted (floor : Nat) (l : List Nat) (r : Nat × List Nat) : Prop where
  rising : r.2.Pairwise (· < ·)
  above : ∀ n ∈ r.2, r.1 + 2 ≤ n
  sub : ∀ n ∈ r.2, n ∈ l
  moved : r.1 = floor ∨ r.1 ∈ l
  kept : ∀ n ∈ l, n ≤ r.1 ∨ n ∈ r.2
  up : floor ≤ r.1
  few : r.2.length ≤ l.length

theorem mem_insertSerial {n m : Nat} {l : List Nat} : m ∈ insertSerial n l ↔ m = n ∨ m ∈ l := by
  induction l with
  | nil => simp [insertSerial]
  | cons x xs ih =>
    unfold insertSerial
    split_ifs with hlt heq
    · simp
    · subst heq
      simp
    · simp only [List.mem_cons, ih]
      tauto

theorem insertSerial_rising {n : Nat} {l : List Nat} (h : l.Pairwise (· < ·)) : (insertSerial n l).Pairwise (· < ·) := by
  induction l with
  | nil => simp [insertSerial]
  | cons x xs ih =>
    obtain ⟨hx, hxs⟩ := List.pairwise_cons.mp h
    unfold insertSerial
    split_ifs with hlt heq
    · refine List.pairwise_cons.mpr ⟨fun m hm => ?_, h⟩
      rcases List.mem_cons.mp hm with rfl | hm
      · exact hlt
      · exact hlt.trans (hx m hm)
    · exact h
    · refine List.pairwise_cons.mpr ⟨fun m hm => ?_, ih hxs⟩
      rcases mem_insertSerial.mp hm with rfl | hm
      · omega
      · exact hx m hm

theorem insertSerial_length (n : Nat) (l : List Nat) : (insertSerial n l).length ≤ l.length + 1 := by
  induction l with
  | nil => simp [insertSerial]
  | cons x xs ih =>
    unfold insertSerial
    split_ifs <;> simp
    exact ih

theorem compact_compacted {floor : Nat} {l : List Nat} (h : l.Pairwise (· < ·)) (habove : ∀ n ∈ l, floor < n) :
    Compacted floor l (compact floor l) := by
  induction l generalizing floor with
  | nil => constructor <;> simp [compact]
  | cons x xs ih =>
    obtain ⟨hx, hxs⟩ := List.pairwise_cons.mp h
    have hlt := habove x List.mem_cons_self
    unfold compact
    split_ifs with heq
    · have hc := ih hxs hx
      refine ⟨hc.rising, hc.above, fun n hn => List.mem_cons_of_mem _ (hc.sub n hn), .inr ?_, fun n hn => ?_,
        hlt.le.trans hc.up, hc.few.trans (Nat.le_succ _)⟩
      · rcases hc.moved with e | e
        · simp [e]
        · exact List.mem_cons_of_mem _ e
      · rcases List.mem_cons.mp hn with rfl | hn
        · exact .inl hc.up
        · exact hc.kept n hn
    · refine ⟨h, fun n hn => ?_, fun n hn => hn, .inl rfl, fun n hn => .inr hn, le_refl _, le_refl _⟩
      rcases List.mem_cons.mp hn with rfl | hn
      · show floor + 2 ≤ _
        omega
      · have := hx n hn
        show floor + 2 ≤ _
        omega

/-- Shedding the smallest of 33 members and compacting again leaves a compacted set of at most 32 (R96, step 3). -/
theorem shedSmallest_compacted {floor : Nat} {l : List Nat} {r : Nat × List Nat} (h : Compacted floor l r)
    (hfew : l.length ≤ 33) : Compacted floor l (shedSmallest r) ∧ (shedSmallest r).2.length ≤ 32 := by
  obtain ⟨f, ms⟩ := r
  cases ms with
  | nil => exact ⟨h, by simp [shedSmallest]⟩
  | cons m ms =>
    obtain ⟨hrising, habove, hsub, hmoved, hkept, hup, hlen⟩ := h
    simp only [shedSmallest]
    split_ifs with hfull
    · obtain ⟨hm, hms⟩ := List.pairwise_cons.mp hrising
      have hc := compact_compacted hms hm
      have hfm : f ≤ m := (Nat.le_add_right _ 2).trans (habove m List.mem_cons_self)
      simp only [List.length_cons] at hlen
      refine ⟨⟨hc.rising, hc.above, fun n hn => hsub n (List.mem_cons_of_mem _ (hc.sub n hn)), .inr ?_, fun n hn => ?_,
        hup.trans (hfm.trans hc.up), hc.few.trans (by omega)⟩, hc.few.trans (by omega)⟩
      · rcases hc.moved with e | e
        · simpa [e] using hsub m List.mem_cons_self
        · exact hsub _ (List.mem_cons_of_mem _ e)
      · rcases hkept n hn with hn | hn
        · exact .inl (hn.trans (hfm.trans hc.up))
        · rcases List.mem_cons.mp hn with rfl | hn
          · exact .inl hc.up
          · exact hc.kept n hn
    · exact ⟨⟨hrising, habove, hsub, hmoved, hkept, hup, hlen⟩, Nat.lt_succ_iff.mp (Nat.lt_of_not_le hfull)⟩

/-- Spending a serial within the span that is not yet spent (R96): the window stays lawful, the floor rises, and what was at
or below it or spent is so after. -/
theorem spend_lawful {k : KeySlot} (h : LawfulKey k) {n : Nat} (hn : n < 1048576) (hlow : k.floor < n)
    (hhigh : n ≤ k.floor + 1024) :
    LawfulKey (k.spend n) ∧ k.floor ≤ (k.spend n).floor ∧
      ∀ m, m ≤ k.floor ∨ m ∈ k.spent → m ≤ (k.spend n).floor ∨ m ∈ (k.spend n).spent := by
  have hmem (m : Nat) (hm : m ∈ insertSerial n k.spent) : k.floor < m ∧ m ≤ k.floor + 1024 ∧ m ≤ 1048575 := by
    rcases mem_insertSerial.mp hm with rfl | hm
    · omega
    · have := h.inSpan m hm
      omega
  have hlen := (insertSerial_length n k.spent).trans (Nat.succ_le_succ h.few)
  obtain ⟨hc, hfew⟩ := shedSmallest_compacted
    (compact_compacted (insertSerial_rising h.rising) (fun m hm => (hmem m hm).1)) hlen
  refine ⟨⟨hc.rising, hfew, fun m hm => ?_, ?_, hc.kept n (mem_insertSerial.mpr (.inl rfl))⟩, hc.up, fun m hm => ?_⟩
  · have hup := hc.up
    have := hmem m (hc.sub m hm)
    exact ⟨hc.above m hm, by simp only [KeySlot.spend]; omega, this.2.2⟩
  · rcases hc.moved with e | e
    · exact e.le.trans h.floor
    · exact (hmem _ e).2.2
  · rcases hm with hm | hm
    · exact .inl (hm.trans hc.up)
    · exact hc.kept m (mem_insertSerial.mpr (.inr hm))

theorem tokenRefusal_eq (least : Nat) (d : Decoded) :
    tokenRefusal least d = serialCheck d.key d.plain.cls d.plain.serial least := by
  unfold tokenRefusal serialCheck
  by_cases hc : d.plain.cls = 0 <;> by_cases hn : d.plain.serial = 0 <;> simp [hc, hn]

/-- A serial that passes check 10 lies in the span above the floor and is not the last one. -/
theorem serialCheck_span {k : KeySlot} (h : LawfulKey k) {cls n least : Nat} (hcheck : serialCheck k cls n least = none)
    (hc : cls ≠ 0) : n ≠ 0 ∧ k.floor < n ∧ n ≤ k.floor + 1024 := by
  unfold serialCheck at hcheck
  rw [if_neg hc] at hcheck
  split_ifs at hcheck with _ h0 hold hused hahead
  have hfloor := h.last
  refine ⟨h0, ?_, by omega⟩
  by_contra hle
  exact hold ⟨by omega, fun e => hused (.inl e)⟩

theorem lawfulKeys_iff (d : Decoder) : LawfulKeys d ↔ ∀ n, LawfulKey (d.key n) := by
  constructor
  · intro h n
    rcases n with _ | _ | _ | n
    · exact h.key0
    · exact h.key1
    · exact h.key2
    · exact h.key3
  · intro h
    exact ⟨h 0, h 1, h 2, h 3⟩

theorem lawfulKeys_setKey {d : Decoder} (h : LawfulKeys d) {k : KeySlot} (hk : LawfulKey k) (n : Nat) :
    LawfulKeys (d.setKey n k) := by
  obtain ⟨h0, h1, h2, h3⟩ := h
  rcases n with _ | _ | _ | n
  · exact ⟨hk, h1, h2, h3⟩
  · exact ⟨h0, hk, h2, h3⟩
  · exact ⟨h0, h1, hk, h3⟩
  · exact ⟨h0, h1, h2, hk⟩

/-- A key slot with an empty window is lawful. -/
theorem lawfulKey_of_empty {k : KeySlot} (hs : k.spent = []) (hf : k.floor = 0) (hl : k.lastSerial = 0) : LawfulKey k := by
  constructor <;> simp [hs, hf, hl]

/-- Settles O40: a serial that passes the checks lies in the span, and spending keeps every serial that was spent or passed. -/
theorem spentSerialsStaySpent : Obligations.SpentSerialsStaySpent := by
  intro k cls n least h hn hcheck hc
  obtain ⟨h0, hlow, hhigh⟩ := serialCheck_span h hcheck hc
  obtain ⟨hlawful, hup, hkept⟩ := spend_lawful h hn hlow hhigh
  refine ⟨hlawful, hup, rfl, rfl, rfl, rfl, rfl, rfl, ?_, fun m hm hahead => ?_⟩
  · have hauth : ¬k.authority < least := by
      intro hlt
      simp [serialCheck, hlt] at hcheck
    simp [serialCheck, KeySlot.spend, hauth, hc, h0]
  · have hgone : m ≤ k.floor ∨ m ∈ k.spent → serialCheck (k.spend n) cls m least ≠ none := by
      intro hm hpass
      have hspan := serialCheck_span hlawful hpass hc
      unfold serialCheck at hpass
      rw [if_neg hc] at hpass
      split_ifs at hpass with _ _ _ hused
      rcases hkept m hm with hle | hmem
      · omega
      · exact hused (.inr hmem)
    unfold serialCheck at hm
    rw [if_neg hc] at hm
    split_ifs at hm with hauth h0 hold hused
    · simp [serialCheck, KeySlot.spend, hauth]
    · simp [serialCheck, KeySlot.spend, hauth, h0, hc]
    · exact hgone (.inl hold.1)
    · refine hgone ?_
      rcases hused with rfl | hmem
      · exact h.last
      · exact .inr hmem
    · exact absurd rfl hm

/-! ## The energy registers (R29) -/

theorem energy_add_sumsUp {e : Energy} (h : SumsUp e) (band billed exported : Nat) :
    SumsUp (e.add band billed exported) := by
  unfold SumsUp at h ⊢
  rcases band with _ | _ | _ | _ | _ | band <;> simp only [Energy.add, Bands.add] <;> omega

theorem energy_add_notAbove (e : Energy) (band billed exported : Nat) : NotAbove e (e.add band billed exported) := by
  rcases band with _ | _ | _ | _ | _ | band <;> constructor <;> simp [Energy.add, Bands.add]

/-! ## The rules of O6 to O9 -/

/-- A section on which there is no rule. -/
def anything {α : Type} (_ : α) : Prop := True

/-- The account in its ranges, under settings in theirs. -/
def accountRules : Rules := ⟨LawfulAccount, anything, anything, LawfulSettings, anything⟩

/-- The settings in their ranges. -/
def settingsRules : Rules := ⟨anything, anything, anything, LawfulSettings, anything⟩

/-- The calendars in their ranges. -/
def bookRules : Rules := ⟨anything, anything, anything, anything, LawfulBook⟩

/-- The serial windows in their bounds. -/
def keyRules : Rules := ⟨anything, anything, LawfulKeys, anything, anything⟩

/-- The import total the sum of the bands. -/
def energyRules : Rules := ⟨anything, SumsUp, anything, anything, anything⟩

theorem lawfulAccount_factory : LawfulAccount Account.factory := by
  refine ⟨⟨?_, ?_, ?_, ?_, ?_⟩, ?_, ?_⟩ <;> decide

theorem lawfulSettings_factory : LawfulSettings Settings.factory := by
  intro id hlow hhigh
  interval_cases id <;> decide

theorem accountRules_kept : RulesKept accountRules where
  accountFactory := lawfulAccount_factory
  energyFactory := trivial
  decoderFactory := trivial
  settingsFactory := lawfulSettings_factory
  bookFactory := trivial
  flags _ _ _ _ _ h := ⟨⟨h.1.residue, h.1.floor, h.1.limit, h.1.debt, h.1.grant⟩, h.2.balance, h.2.debt⟩
  charge _ _ _ h := chargeAccount_lawful h _ _
  dayEnd _ _ _ h := recoverAccount_lawful (standAccount_lawful h _) _
  topup _ _ _ hp h hroom := topupAccount_lawful h (debtRate_le hp) _ hroom
  debt _ _ h := debtAccount_lawful h _
  clear _ _ h := clearAccount_lawful h _
  grant _ _ hp h _ := ⟨⟨h.1.residue, h.1.floor, h.1.limit, h.1.debt, ecAmount_le hp⟩, h.2.balance, h.2.debt⟩
  register _ _ _ _ _ := trivial
  keys _ _ _ _ _ _ _ := trivial
  spend _ _ _ _ _ _ _ _ := trivial
  install _ _ _ _ _ := trivial
  setting _ _ _ hv h := settings_set_lawful hv h
  chargedTo _ _ _ := trivial
  activate _ _ _ _ := trivial
  submit _ _ _ _ _ := trivial

theorem settingsRules_kept : RulesKept settingsRules where
  accountFactory := trivial
  energyFactory := trivial
  decoderFactory := trivial
  settingsFactory := lawfulSettings_factory
  bookFactory := trivial
  flags _ _ _ _ _ _ := trivial
  charge _ _ _ _ := trivial
  dayEnd _ _ _ _ := trivial
  topup _ _ _ _ _ _ := trivial
  debt _ _ _ := trivial
  clear _ _ _ := trivial
  grant _ _ _ _ _ := trivial
  register _ _ _ _ _ := trivial
  keys _ _ _ _ _ _ _ := trivial
  spend _ _ _ _ _ _ _ _ := trivial
  install _ _ _ _ _ := trivial
  setting _ _ _ hv h := settings_set_lawful hv h
  chargedTo _ _ _ := trivial
  activate _ _ _ _ := trivial
  submit _ _ _ _ _ := trivial

/-- An activation takes the passive calendar with its activation time at 0 (R54). -/
theorem lawfulBook_activate {b : CalendarBook} {c : Tariff} (hc : b.passive = some c) (h : LawfulBook b) :
    LawfulBook { b with active := { c with activation := 0 }, passive := none } := by
  obtain ⟨hid, hoffset, hprices, hband, hcounts, hpoints, hapart, hholidays, hwindows, hstanding, -⟩ := h.passive c hc
  exact ⟨⟨hid, hoffset, hprices, hband, hcounts, hpoints, hapart, hholidays, hwindows, hstanding, Nat.zero_le _⟩, by simp⟩

theorem bookRules_kept : RulesKept bookRules where
  accountFactory := trivial
  energyFactory := trivial
  decoderFactory := trivial
  settingsFactory := trivial
  bookFactory := ⟨by constructor <;> decide, by simp [CalendarBook.factory]⟩
  flags _ _ _ _ _ _ := trivial
  charge _ _ _ _ := trivial
  dayEnd _ _ _ _ := trivial
  topup _ _ _ _ _ _ := trivial
  debt _ _ _ := trivial
  clear _ _ _ := trivial
  grant _ _ _ _ _ := trivial
  register _ _ _ _ _ := trivial
  keys _ _ _ _ _ _ _ := trivial
  spend _ _ _ _ _ _ _ _ := trivial
  install _ _ _ _ _ := trivial
  setting _ _ _ _ _ := trivial
  chargedTo _ _ h := ⟨h.active, h.passive⟩
  activate _ _ hc h := lawfulBook_activate hc h
  submit b w m hs h := ⟨h.active, by
    rintro c hc
    obtain rfl := Option.some.inj hc
    exact submitRefusal_lawful w m hs⟩

theorem keyRules_kept : RulesKept keyRules where
  accountFactory := trivial
  energyFactory := trivial
  decoderFactory := ⟨lawfulKey_of_empty rfl rfl rfl, lawfulKey_of_empty rfl rfl rfl, lawfulKey_of_empty rfl rfl rfl,
    lawfulKey_of_empty rfl rfl rfl⟩
  settingsFactory := trivial
  bookFactory := trivial
  flags _ _ _ _ _ _ := trivial
  charge _ _ _ _ := trivial
  dayEnd _ _ _ _ := trivial
  topup _ _ _ _ _ _ := trivial
  debt _ _ _ := trivial
  clear _ _ _ := trivial
  grant _ _ _ _ _ := trivial
  register _ _ _ _ _ := trivial
  keys d e h0 h1 h2 h3 h := ⟨h0 ▸ h.key0, h1 ▸ h.key1, h2 ▸ h.key2, h3 ▸ h.key3⟩
  spend d x least hkey hr hc hn h := by
    have hlawful : LawfulKey x.key := hkey ▸ (lawfulKeys_iff d).mp h x.slot
    obtain ⟨-, hlow, hhigh⟩ := serialCheck_span hlawful (tokenRefusal_eq least x ▸ hr) hc
    exact lawfulKeys_setKey h (spend_lawful hlawful hn hlow hhigh).1 _
  install _ _ _ _ h := lawfulKeys_setKey h (lawfulKey_of_empty rfl rfl rfl) _
  setting _ _ _ _ _ := trivial
  chargedTo _ _ _ := trivial
  activate _ _ _ _ := trivial
  submit _ _ _ _ _ := trivial

theorem energyRules_kept : RulesKept energyRules where
  accountFactory := trivial
  energyFactory := by
    show SumsUp Energy.factory
    unfold SumsUp
    decide
  decoderFactory := trivial
  settingsFactory := trivial
  bookFactory := trivial
  flags _ _ _ _ _ _ := trivial
  charge _ _ _ _ := trivial
  dayEnd _ _ _ _ := trivial
  topup _ _ _ _ _ _ := trivial
  debt _ _ _ := trivial
  clear _ _ _ := trivial
  grant _ _ _ _ _ := trivial
  register _ _ _ _ h := energy_add_sumsUp h _ _ _
  keys _ _ _ _ _ _ _ := trivial
  spend _ _ _ _ _ _ _ _ := trivial
  install _ _ _ _ _ := trivial
  setting _ _ _ _ _ := trivial
  chargedTo _ _ _ := trivial
  activate _ _ _ _ := trivial
  submit _ _ _ _ _ := trivial

variable {s : State}

theorem accountsLawful_iff (hp : SettingsLawful s) : AccountsLawful s ↔ Held accountRules s := by
  constructor
  · intro h
    exact ⟨⟨h.live, trivial, trivial, hp.live, trivial⟩, hp.staged,
      ⟨⟨h.copyA, trivial, trivial, hp.copyA, trivial⟩, ⟨h.copyB, trivial, trivial, hp.copyB, trivial⟩⟩,
      fun w hw => ⟨h.taken w hw, trivial, trivial, hp.taken w hw, trivial⟩⟩
  · intro h
    exact ⟨h.live.account, h.image.setA.account, h.image.setB.account, fun w hw => (h.taken w hw).account⟩

theorem settingsLawful_iff : SettingsLawful s ↔ Held settingsRules s := by
  constructor
  · intro h
    exact ⟨⟨trivial, trivial, trivial, h.live, trivial⟩, h.staged,
      ⟨⟨trivial, trivial, trivial, h.copyA, trivial⟩, ⟨trivial, trivial, trivial, h.copyB, trivial⟩⟩,
      fun w hw => ⟨trivial, trivial, trivial, h.taken w hw, trivial⟩⟩
  · intro h
    exact ⟨h.live.settings, h.staged, h.image.setA.settings, h.image.setB.settings, fun w hw => (h.taken w hw).settings⟩

theorem calendarsLawful_iff : CalendarsLawful s ↔ Held bookRules s := by
  constructor
  · intro h
    exact ⟨⟨trivial, trivial, trivial, trivial, h.live⟩, fun _ _ => trivial,
      ⟨⟨trivial, trivial, trivial, trivial, h.copyA⟩, ⟨trivial, trivial, trivial, trivial, h.copyB⟩⟩,
      fun w hw => ⟨trivial, trivial, trivial, trivial, h.taken w hw⟩⟩
  · intro h
    exact ⟨h.live.book, h.image.setA.book, h.image.setB.book, fun w hw => (h.taken w hw).book⟩

theorem keysLawful_iff : KeysLawful s ↔ Held keyRules s := by
  constructor
  · intro h
    exact ⟨⟨trivial, trivial, h.live, trivial, trivial⟩, fun _ _ => trivial,
      ⟨⟨trivial, trivial, h.copyA, trivial, trivial⟩, ⟨trivial, trivial, h.copyB, trivial, trivial⟩⟩,
      fun w hw => ⟨trivial, trivial, h.taken w hw, trivial, trivial⟩⟩
  · intro h
    exact ⟨h.live.decoder, h.image.setA.decoder, h.image.setB.decoder, fun w hw => (h.taken w hw).decoder⟩

theorem energySumsUp_iff : EnergySumsUp s ↔ Held energyRules s := by
  constructor
  · intro h
    exact ⟨⟨trivial, h.live, trivial, trivial, trivial⟩, fun _ _ => trivial,
      ⟨⟨trivial, h.copyA, trivial, trivial, trivial⟩, ⟨trivial, h.copyB, trivial, trivial, trivial⟩⟩,
      fun w hw => ⟨trivial, h.taken w hw, trivial, trivial, trivial⟩⟩
  · intro h
    exact ⟨h.live.energy, h.image.setA.energy, h.image.setB.energy, fun w hw => (h.taken w hw).energy⟩

/-- Settles O7: the rules of settings and of calendars are kept by every single operation. -/
theorem settingsStayLawful : Obligations.SettingsStayLawful :=
  ⟨fun _ _ h he => settingsLawful_iff.mpr (held_step settingsRules_kept (settingsLawful_iff.mp h) he),
    fun _ _ h he => calendarsLawful_iff.mpr (held_step bookRules_kept (calendarsLawful_iff.mp h) he)⟩

/-- Settles O6: the rules of the account are kept by every single operation, under settings in their ranges. -/
theorem accountsStayLawful : Obligations.AccountsStayLawful := by
  intro s t hp h he
  exact (accountsLawful_iff (settingsStayLawful.1 s t hp he)).mpr
    (held_step accountRules_kept ((accountsLawful_iff hp).mp h) he)

/-- Settles O8: spending and installing keep the bounds of every serial window. -/
theorem keysStayLawful : Obligations.KeysStayLawful := fun _ _ h he =>
  keysLawful_iff.mpr (held_step keyRules_kept (keysLawful_iff.mp h) he)

/-- Settles O9: registering adds the same to the total and to one band. -/
theorem energyStaysSummed : Obligations.EnergyStaysSummed := fun _ _ h he =>
  energySumsUp_iff.mpr (held_step energyRules_kept (energySumsUp_iff.mp h) he)

end Sys2Proof.Proofs
end

section
/-! SUPPORT. Rules on the exchange memory, the intake and the publication: where each of the few effects that write the memory keeps
a rule, every command does. -/

namespace Sys2Proof.Proofs
open Sys2Proof.Machine Sys2Proof.Safety

/-- A predicate on the memory, the intake list, the slot in work, and whether a publication is in progress. -/
abbrev ExchangeRule := Memory → List Nat → Option Nat → Bool → Prop

/-- The number of the slot in work. -/
abbrev workSlot (s : State) : Option Nat := s.intake.work.map Work.slot

/-- The part's exchange memory obeys the rule. -/
def Exchanges (E : ExchangeRule) (s : State) : Prop := E s.mem s.intake.list (workSlot s) s.attn.busy

/-- What the effects that write the memory have to keep for the rule to be kept by every command. -/
structure ExchangeKept (E : ExchangeRule) : Prop where
  cleared : E [] [] none false
  built : ∀ s, s.mem = [] → E (writePages s 2) [] none false
  begins : ∀ s l w, E s.mem l w false → E (writePages s ((generation s.mem + 1) % 2 ^ 32)) l w true
  ends : ∀ m l w, E m l w true → E (m.splice 0 (le 4 ((generation m + 1) % 2 ^ 32))) l w false
  takes : ∀ m n rest b, E m (n :: rest) none b → E (m.write (slotBase n) ownerTaken) rest (some n) b
  results : ∀ m l w r b, E m l (some w.slot) b → E (writeResult m w r) l none b
  posts : ∀ m l w b n, n < 16 → ownerOf m n = ownerEmpty → E m l w b → E (m.write (slotBase n) ownerPosted) (l ++ [n]) w b
  withdraws : ∀ m l w b n, n < 16 → ownerOf m n = ownerPosted → E m l w b →
    E (m.write (slotBase n) ownerEmpty) (l.filter fun i => i != n) w b
  returns : ∀ m l w b n, n < 16 → ownerOf m n = ownerDone → E m l w b → E (m.write (slotBase n) ownerEmpty) l w b
  stores : ∀ m l w b a v, inPages a = false → (∀ n, n < 16 → slotBase n ≠ a) → E m l w b → E (m.write a v) l w b

variable {E : ExchangeRule} {s t : State}

/-- What the rule looks at is unchanged. -/
theorem Exchanges.same (h : Exchanges E s) (e : t.mem = s.mem ∧ t.intake.list = s.intake.list ∧
    t.intake.work.map Work.slot = s.intake.work.map Work.slot ∧ t.attn.busy = s.attn.busy) : Exchanges E t := by
  obtain ⟨hm, hl, hw, hb⟩ := e
  simpa only [Exchanges, workSlot, hm, hl, hw, hb] using h

/-! ## What leaves the slot in work alone -/

/-- Another stage leaves the slot of an entry. -/
@[simp] theorem slot_comp_stage (g : Work → Stage) : (Work.slot ∘ fun w => { w with stage := g w }) = Work.slot := rfl

@[simp] theorem setStage_slot (g : Stage) (s : State) :
    (setStage g s).intake.work.map Work.slot = s.intake.work.map Work.slot := by
  simp [setStage]

@[simp] theorem beginWrite_slot (s : State) : (beginWrite s).intake.work.map Work.slot = s.intake.work.map Work.slot := by
  show (s.intake.work.map _).map Work.slot = _
  simp

@[simp] theorem requestWrite_slot (s : State) :
    (requestWrite s).intake.work.map Work.slot = s.intake.work.map Work.slot := by
  unfold requestWrite
  split_ifs <;> simp

@[simp] theorem enteredActive_slot (s : State) :
    (enteredActive s).intake.work.map Work.slot = s.intake.work.map Work.slot := by
  simp [enteredActive]

@[simp] theorem reportPresent_slot (n : Fin 10) (s : State) :
    (reportPresent n s).intake.work.map Work.slot = s.intake.work.map Work.slot := by
  unfold reportPresent
  dsimp only
  split_ifs <;> simp

@[simp] theorem report_slot (n : Fin 10) (present : Bool) (s : State) :
    (report n present s).intake.work.map Work.slot = s.intake.work.map Work.slot := by
  unfold report
  split_ifs <;> simp

@[simp] theorem reportBoth_slot (n : Fin 10) (s : State) :
    (reportBoth n s).intake.work.map Work.slot = s.intake.work.map Work.slot := by
  simp [reportBoth]

@[simp] theorem qualifiedChange_slot (i : SenseInput) (active : Bool) (s : State) :
    (qualifiedChange i active s).intake.work.map Work.slot = s.intake.work.map Work.slot := by
  unfold qualifiedChange
  split_ifs <;> simp

@[simp] theorem sampleInput_slot (i : SenseInput) (high : Bool) (s : State) :
    (sampleInput i high s).intake.work.map Work.slot = s.intake.work.map Work.slot := by
  unfold sampleInput
  dsimp only
  split_ifs <;> simp

@[simp] theorem raiseFault_slot (s : State) : (raiseFault s).intake.work.map Work.slot = s.intake.work.map Work.slot := by
  unfold raiseFault
  split_ifs <;> simp

@[simp] theorem openFailed_slot (s : State) : (openFailed s).intake.work.map Work.slot = s.intake.work.map Work.slot := by
  simp [openFailed]

@[simp] theorem closeFailed_slot (s : State) :
    (closeFailed s).intake.work.map Work.slot = s.intake.work.map Work.slot := by
  simp [closeFailed]

@[simp] theorem judgeAttempt_slot (s : State) :
    (judgeAttempt s).intake.work.map Work.slot = s.intake.work.map Work.slot := by
  unfold judgeAttempt
  split
  · next w _ =>
    cases w <;> dsimp only <;> split_ifs <;> simp
  · rfl

@[simp] theorem weldArrives_slot (s : State) :
    (weldArrives s).intake.work.map Work.slot = s.intake.work.map Work.slot := by
  unfold weldArrives
  dsimp only
  split_ifs <;> simp

theorem catchUpThen_intake {behind : State → State} (hb : ∀ s, (behind s).intake = s.intake) (later : List Due)
    (s : State) : (catchUpThen later behind s).intake = s.intake := by
  rcases catchUpThen_cases later behind s with e | ⟨-, -, e⟩ <;> simp [e, hb]

@[simp] theorem activateDue_slot (s : State) : (activateDue s).intake.work.map Work.slot = s.intake.work.map Work.slot := by
  unfold activateDue
  split
  · rfl
  · split_ifs
    · simp [catchUpThen_intake]
    · rfl

@[simp] theorem billInterval_slot (imported exported ms : Nat) (s : State) :
    (billInterval imported exported ms s).intake.work.map Work.slot = s.intake.work.map Work.slot := by
  simp [billInterval, intervalCharge, registerEnergy]

@[simp] theorem closeInterval_slot (m : Measurement) (s : State) :
    (closeInterval m s).intake.work.map Work.slot = s.intake.work.map Work.slot := by
  unfold closeInterval
  dsimp only
  split_ifs <;> simp [sampleVbat, takeResults]

@[simp] theorem closePartial_slot (p : PartMeasurement) (s : State) :
    (closePartial p s).intake.work.map Work.slot = s.intake.work.map Work.slot := by
  unfold closePartial
  dsimp only
  split_ifs <;> simp

@[simp] theorem crystalStops_slot (s : State) :
    (crystalStops s).intake.work.map Work.slot = s.intake.work.map Work.slot := by
  unfold crystalStops
  dsimp only
  split_ifs <;> simp

@[simp] theorem startLockout_slot (s : State) :
    (startLockout s).intake.work.map Work.slot = s.intake.work.map Work.slot := by
  simp [startLockout]

@[simp] theorem qualifyCondition_slot (c : Condition) (s : State) :
    (qualifyCondition c s).intake.work.map Work.slot = s.intake.work.map Work.slot := by
  simp [qualifyCondition]

@[simp] theorem markReset_slot (s : State) : (markReset s).intake.work.map Work.slot = s.intake.work.map Work.slot := by
  simp [markReset]

@[simp] theorem mergeWatch_slot (i : SenseInput) (b : BatteryWatch) (high : Bool) (s : State) :
    (mergeWatch i b high s).intake.work.map Work.slot = s.intake.work.map Work.slot := by
  unfold mergeWatch
  dsimp only
  split_ifs <;> simp

@[simp] theorem inputStartReport_slot (i : SenseInput) (s : State) :
    (inputStartReport i s).intake.work.map Work.slot = s.intake.work.map Work.slot := by
  unfold inputStartReport
  dsimp only
  split_ifs <;> simp

@[simp] theorem settleInputs_slot (s : State) :
    (settleInputs s).intake.work.map Work.slot = s.intake.work.map Work.slot := by
  simp [settleInputs]

@[simp] theorem clockReports_slot (s : State) :
    (clockReports s).intake.work.map Work.slot = s.intake.work.map Work.slot := by
  unfold clockReports
  dsimp only
  split_ifs <;> simp

@[simp] theorem findContactor_slot (s : State) :
    (findContactor s).intake.work.map Work.slot = s.intake.work.map Work.slot := by
  unfold findContactor
  dsimp only
  split_ifs <;> simp

@[simp] theorem batteryStep_slot (s : State) :
    (batteryStep s).intake.work.map Work.slot = s.intake.work.map Work.slot := by
  simp [batteryStep]

@[simp] theorem contactorStep_slot (s : State) :
    (contactorStep s).intake.work.map Work.slot = s.intake.work.map Work.slot := by
  simp [contactorStep]

@[simp] theorem awaitWrite_slot (r : Result) (s : State) :
    (awaitWrite r s).intake.work.map Work.slot = s.intake.work.map Work.slot := by
  simp [awaitWrite]

@[simp] theorem acceptToken_slot (d : Decoded) (fields : List Byte) (s : State) :
    (acceptToken d fields s).intake.work.map Work.slot = s.intake.work.map Work.slot := by
  simp [acceptToken]

theorem topup_busy {A : Nat} {s t : State} (h : topup A s = some t) : t.attn.busy = s.attn.busy := by
  unfold topup at h
  dsimp only at h
  split_ifs at h
  obtain rfl := Option.some.inj h
  simp

@[simp] theorem reconnectCloses_busy (s : State) : (reconnectCloses s).attn.busy = s.attn.busy := by
  unfold reconnectCloses
  split_ifs <;> simp

section
variable (k : ExchangeKept E)
include k

theorem Exchanges.beginPublication (h : Exchanges E s) (hb : s.attn.busy = false) : Exchanges E (beginPublication s) := by
  have he : E s.mem s.intake.list (workSlot s) false := hb ▸ h
  exact k.begins (onAttn _ s) _ _ he

theorem Exchanges.requestPublication (h : Exchanges E s) : Exchanges E (requestPublication s) := by
  unfold Machine.requestPublication
  split_ifs with hb
  · exact h.same ⟨rfl, rfl, rfl, rfl⟩
  · exact h.beginPublication k (by simpa using hb)

theorem Exchanges.endPublication (h : Exchanges E s) : Exchanges E (endPublication s) := by
  unfold Machine.endPublication
  dsimp only
  split_ifs with hb hq
  · exact Exchanges.beginPublication k (k.ends _ _ _ (hb ▸ h)) rfl
  · exact k.ends _ _ _ (hb ▸ h)
  · exact h

theorem Exchanges.takeNext (h : Exchanges E s) : Exchanges E (takeNext s) := by
  rcases takeNext_cases s with ⟨n, rest, hl, hw, -, ht⟩ | ht <;> rw [ht]
  · have he : E s.mem (n :: rest) none s.attn.busy := by simpa [Exchanges, workSlot, hl, hw] using h
    exact k.takes _ _ _ _ he
  · exact h

theorem Exchanges.openIntake (h : Exchanges E s) : Exchanges E (openIntake s) :=
  Exchanges.takeNext k (h.same ⟨rfl, rfl, rfl, rfl⟩)

theorem Exchanges.completeEntry (h : Exchanges E s) (r : Result) : Exchanges E (completeEntry r s) := by
  unfold Machine.completeEntry
  split
  · exact h
  · next w hw =>
    have he : E s.mem s.intake.list (some w.slot) s.attn.busy := by simpa [Exchanges, workSlot, hw] using h
    exact Exchanges.requestPublication k (Exchanges.takeNext k (k.results _ _ _ r _ he))

theorem Exchanges.hostOwnerByte (h : Exchanges E s) {n : Nat} (hn : n < 16) (v : Byte) :
    Exchanges E (hostOwnerByte n v s) := by
  unfold Machine.hostOwnerByte
  dsimp only
  split_ifs with hpost hwithdraw hreturn
  · simp only [Bool.and_eq_true, decide_eq_true_eq] at hpost
    exact Exchanges.takeNext k (k.posts _ _ _ _ _ hn hpost.1.2 h)
  · simp only [Bool.and_eq_true, decide_eq_true_eq] at hwithdraw
    exact k.withdraws _ _ _ _ _ hn hwithdraw.2 h
  · simp only [Bool.and_eq_true, decide_eq_true_eq] at hreturn
    exact k.returns _ _ _ _ _ hn hreturn.2 h
  · exact h

theorem Exchanges.hostByte (h : Exchanges E s) (a : Nat) (v : Byte) : Exchanges E (hostByte a v s) := by
  have hstore (hp : inPages a = false) (ha : ∀ n, n < 16 → slotBase n ≠ a) :
      Exchanges E (onMem (fun m => m.write a v) s) := k.stores _ _ _ _ _ _ hp ha h
  unfold Machine.hostByte
  dsimp only
  split_ifs with hwrite hslots howner hempty himage hlocked
  · exact h
  · simp only [inSlots, Bool.and_eq_true, decide_eq_true_eq] at hslots
    exact h.hostOwnerByte k (by omega) v
  · simp only [inSlots, Bool.and_eq_true, decide_eq_true_eq] at hslots
    refine hstore ?_ fun n hn => ?_
    · simp only [inPages, Bool.or_eq_false_iff, Bool.and_eq_false_iff, decide_eq_false_iff_not]
      omega
    · unfold slotBase
      omega
  · exact h
  · exact h
  · simp only [inImage, Bool.and_eq_true, decide_eq_true_eq] at himage
    refine hstore ?_ fun n hn => ?_
    · simp only [inPages, Bool.or_eq_false_iff, Bool.and_eq_false_iff, decide_eq_false_iff_not]
      omega
    · unfold slotBase
      omega
  · exact h

/-! ## Entries -/

theorem Exchanges.refuseBadCode (h : Exchanges E s) (r : Result) : Exchanges E (refuseBadCode r s) := by
  unfold Machine.refuseBadCode
  split_ifs
  · exact h.same (by simp)
  · exact Exchanges.completeEntry k (h.same (by simp)) _

theorem Exchanges.decideToken (h : Exchanges E s) (w : Work) : Exchanges E (decideToken w s) := by
  unfold Machine.decideToken
  dsimp only
  split
  · exact h.completeEntry k _
  · split
    · exact h.completeEntry k _
    · split
      · exact h.completeEntry k _
      · split
        · exact h.completeEntry k _
        · split
          · exact h.refuseBadCode k _
          · split
            · exact h.completeEntry k _
            · exact h.same (by simp)

theorem Exchanges.decideReconnect (h : Exchanges E s) : Exchanges E (decideReconnect s) :=
  Exchanges.completeEntry k (h.same (by simp)) _

theorem Exchanges.decideEmergency (h : Exchanges E s) : Exchanges E (decideEmergency s) := by
  unfold Machine.decideEmergency
  dsimp only
  split_ifs
  · exact Exchanges.completeEntry k (h.same (by simp)) _
  · exact h.completeEntry k _

theorem Exchanges.decideFlagClear (h : Exchanges E s) (w : Work) : Exchanges E (decideFlagClear w s) := by
  unfold Machine.decideFlagClear
  dsimp only
  split_ifs
  · exact h.completeEntry k _
  · exact Exchanges.completeEntry k (h.same (by simp)) _

theorem Exchanges.decideTimeSet (h : Exchanges E s) (w : Work) : Exchanges E (decideTimeSet w s) := by
  unfold Machine.decideTimeSet
  dsimp only
  split_ifs
  · exact Exchanges.completeEntry k (h.same (by simp)) _
  · exact h.completeEntry k _

theorem Exchanges.decideDiscard (h : Exchanges E s) (w : Work) : Exchanges E (decideDiscard w s) := by
  unfold Machine.decideDiscard
  split_ifs
  · exact h.completeEntry k _
  · exact Exchanges.completeEntry k (h.same (by simp)) _

theorem Exchanges.decideCommit (h : Exchanges E s) (w : Work) : Exchanges E (decideCommit w s) := by
  unfold Machine.decideCommit
  split_ifs
  · exact h.completeEntry k _
  · exact h.same (by simp)

theorem Exchanges.applySubmit (h : Exchanges E s) : Exchanges E (applySubmit s) := by
  unfold Machine.applySubmit
  split
  · exact h.completeEntry k _
  · exact h.same (by simp)

theorem Exchanges.tokenFails (h : Exchanges E s) : Exchanges E (tokenFails s) := by
  unfold Machine.tokenFails
  split
  · exact h
  · split_ifs
    · exact h.refuseBadCode k _
    · exact h.completeEntry k _
    · exact h

/-! ## Tokens -/

theorem Exchanges.applyCredit (h : Exchanges E s) (d : Decoded) : Exchanges E (applyCredit d s) := by
  unfold Machine.applyCredit
  dsimp only
  split_ifs
  · exact h.completeEntry k _
  · split
    · exact h.completeEntry k _
    · next t ht => exact h.same (by simp [topup_keeps ht, topup_busy ht])

theorem Exchanges.applyDebtAdd (h : Exchanges E s) (d : Decoded) : Exchanges E (applyDebtAdd d s) := by
  unfold Machine.applyDebtAdd
  dsimp only
  split_ifs
  · exact h.completeEntry k _
  · exact h.same (by simp)

theorem Exchanges.applyClear (h : Exchanges E s) (d : Decoded) : Exchanges E (applyClear d s) := by
  unfold Machine.applyClear
  split_ifs
  · exact h.completeEntry k _
  · exact h.same (by simp)

theorem Exchanges.applySetting (h : Exchanges E s) (d : Decoded) : Exchanges E (applySetting d s) := by
  unfold Machine.applySetting
  dsimp only
  split
  · exact h.completeEntry k _
  · split_ifs
    · exact h.completeEntry k _
    · exact h.completeEntry k _
    · exact h.completeEntry k _
    · exact h.completeEntry k _
    · exact h.same (by simp)

theorem Exchanges.applyWindowOpen (h : Exchanges E s) (d : Decoded) : Exchanges E (applyWindowOpen d s) := by
  unfold Machine.applyWindowOpen
  split_ifs
  · exact h.completeEntry k _
  · exact h.completeEntry k _
  · exact h.same (by simp)

theorem Exchanges.applyTamperClear (h : Exchanges E s) (d : Decoded) : Exchanges E (applyTamperClear d s) := by
  unfold Machine.applyTamperClear
  split_ifs
  · exact h.completeEntry k _
  · exact h.same (by simp)

theorem Exchanges.applyKeyChange (h : Exchanges E s) (d : Decoded) : Exchanges E (applyKeyChange d s) := by
  unfold Machine.applyKeyChange
  dsimp only
  split_ifs
  · exact h.completeEntry k _
  · exact h.completeEntry k _
  · exact h.same (by simp)

theorem Exchanges.applyRemote (h : Exchanges E s) (on : Bool) (d : Decoded) : Exchanges E (applyRemote on d s) := by
  unfold Machine.applyRemote
  split_ifs
  · exact h.completeEntry k _
  · exact h.same (by simp)
  · exact h.same (by simp)

theorem Exchanges.applyTest (h : Exchanges E s) (d : Decoded) : Exchanges E (applyTest d s) := by
  unfold Machine.applyTest
  split_ifs
  · exact h.completeEntry k _
  · exact Exchanges.completeEntry k (h.same (by simp)) _

/-! ## The supply -/

theorem Exchanges.completeWrite (h : Exchanges E s) : Exchanges E (completeWrite s) := by
  unfold Machine.completeWrite
  split
  · exact h
  · next w _ =>
    have hstore : Exchanges E (storeWrite w s) := h.same (by simp)
    have htold : Exchanges E (tellWork (storeWrite w s)) := by
      unfold tellWork
      split
      · exact hstore
      · split
        · split_ifs
          · exact Exchanges.completeEntry k (hstore.same (by simp [finishCommit])) _
          · exact hstore.completeEntry k _
        · exact hstore
    refine Exchanges.same (s := tellWork (storeWrite w s)) htold ?_
    unfold serveRequests
    split_ifs <;> simp

theorem Exchanges.abandonWork (h : Exchanges E s) : Exchanges E (abandonWork s) := by
  unfold Machine.abandonWork
  split
  · exact h
  · split
    · exact h.completeEntry k _
    · exact h.completeEntry k _
    · exact h

theorem Exchanges.enterHoldup (h : Exchanges E s) (reset : Bool) (p : PartMeasurement) :
    Exchanges E (enterHoldup reset p s) := by
  have hdrop : Exchanges E (holdupSwitch (raiseNow attnSupply (dropPower reset s))) := h.same (by simp)
  exact Exchanges.requestPublication k ((hdrop.abandonWork k).same (by simp))

theorem Exchanges.vsFalls (h : Exchanges E s) (p : PartMeasurement) : Exchanges E (vsFalls p s) := by
  unfold Machine.vsFalls
  split
  · exact Exchanges.enterHoldup k (h.same (by simp)) _ _
  · exact h.same (by simp)
  · exact h.same (by simp)
  · exact h

theorem Exchanges.resetLow (h : Exchanges E s) (p : PartMeasurement) : Exchanges E (resetLow p s) := by
  unfold Machine.resetLow
  split
  · exact h.enterHoldup k _ _
  · split_ifs
    · exact h
    · exact h.same (by simp)
  · exact h.same (by simp)
  · exact h

omit k in
theorem Exchanges.catchUpThen (h : Exchanges E s) {behind : State → State} (hb : ∀ s, Exchanges E s → Exchanges E (behind s))
    (later : List Due) : Exchanges E (catchUpThen later behind s) := by
  rcases catchUpThen_cases later behind s with e | ⟨-, -, e⟩ <;> rw [e]
  · exact hb _ (h.same (by simp))
  · exact h.same (by simp)

theorem Exchanges.vsRises (h : Exchanges E s) : Exchanges E (vsRises s) := by
  unfold Machine.vsRises
  split
  · dsimp only
    split_ifs
    · exact h.same (by simp)
    · exact Exchanges.openIntake k (Exchanges.catchUpThen (h.same (by simp)) (fun _ h => h) _)
  · exact h.same (by simp)
  · exact h
  · exact h

theorem exchanges_powered (p : Power) (q : List Instr) (l : Link) (c : Clock) (b : Battery) (i : Image) (u : CatchUp) :
    Exchanges E (State.powered p q l c b i u) := k.cleared

theorem Exchanges.vsFails (h : Exchanges E s) (b : BatteryInputs) : Exchanges E (vsFails b s) := by
  have hbattery : Exchanges E (enterBattery b s) := exchanges_powered k _ _ _ _ _ _ _
  unfold Machine.vsFails
  split
  · exact hbattery
  · exact hbattery
  · exact h
  · exact h

/-! ## A start -/

omit k in
theorem Exchanges.reportFailed (h : Exchanges E s) (fs : List Bool) : Exchanges E (reportFailed fs s) := by
  induction fs generalizing s with
  | nil => exact h
  | cons b fs ih =>
    cases b
    · exact ih h
    · exact ih (h.same (by simp))

omit k in
theorem Exchanges.restoreStep (h : Exchanges E s) : Exchanges E (restoreStep s) := by
  have hnoted : Exchanges E (noteRestore (decide (s.supply.cause = .powerOn))
      (takeSections (restoredSections s.store.image (decide (s.supply.cause = .powerOn))) s)) :=
    h.same ⟨rfl, rfl, rfl, rfl⟩
  exact Exchanges.same (hnoted.reportFailed (failedSections s.store.image (decide (s.supply.cause = .powerOn))))
    (by simp [Machine.restoreStep])

theorem Exchanges.nextStep (h : Exchanges E s) : Exchanges E (nextStep s) := by
  unfold Machine.nextStep
  split
  · exact h.restoreStep
  · exact h.same (by simp [batteryStep])
  · exact h.same (by simp [daysStep])
  · exact h.same (by simp [contactorStep])
  · exact k.built (sampleVbat s.pins.vbat (clearExchange (setStartStep 5 s))) rfl
  · exact h

theorem Exchanges.runSteps (h : Exchanges E s) (n : Nat) : Exchanges E (runSteps n s) := by
  induction n generalizing s with
  | zero => exact h
  | succ n ih => exact ih (h.nextStep k)

theorem exchanges_startState (cause : StartCause) (i : StartInputs) (image : Image) (s : State) :
    Exchanges E (startState cause i image s) := k.cleared

theorem Exchanges.startFromBattery (h : Exchanges E s) (i : StartInputs) : Exchanges E (startFromBattery i s) := by
  unfold Machine.startFromBattery
  split
  · exact Exchanges.runSteps k (exchanges_startState k _ _ _ _) _
  · exact h
  · exact h
  · exact h

theorem Exchanges.startFromReset (h : Exchanges E s) (i : StartInputs) : Exchanges E (startFromReset i s) := by
  unfold Machine.startFromReset
  split_ifs
  · exact Exchanges.runSteps k (exchanges_startState k _ _ _ _) _
  · exact h

theorem Exchanges.finishStart (h : Exchanges E s) : Exchanges E (finishStart s) := by
  unfold Machine.finishStart
  split_ifs
  · exact (h.runSteps k _).completeWrite k
  · exact h

theorem Exchanges.enterMains (h : Exchanges E s) : Exchanges E (enterMains s) := by
  have hfirst := (h.runSteps k (5 - s.supply.startStep)).same
    (t := beginInterval (beginMains (Machine.runSteps (5 - s.supply.startStep) s))) (by simp [beginInterval, beginMains])
  have hmains := (hfirst.catchUpThen (behind := id) (fun _ h => h) []).openIntake k
  unfold Machine.enterMains
  dsimp only
  split_ifs
  · exact (hmains.vsFalls k _).resetLow k _
  · exact hmains.resetLow k _
  · exact hmains.vsFalls k _
  · exact hmains
  · exact h

/-! ## Every command -/

theorem Exchanges.runDue (h : Exchanges E s) (d : Due) : Exchanges E (runDue d s) := by
  have hwork {f : Work → State → State} (hf : ∀ w s, Exchanges E s → Exchanges E (f w s)) : Exchanges E (withWork f s) := by
    unfold withWork
    split
    · exact h
    · split_ifs
      · exact hf _ _ h
      · exact h
  cases d with
  | token => exact hwork fun w s h => h.decideToken k w
  | reconnect => exact hwork fun w s h => h.decideReconnect k
  | emergency => exact hwork fun w s h => h.decideEmergency k
  | timeSet => exact hwork fun w s h => h.decideTimeSet k w
  | calendarSubmit => exact hwork fun w s h => h.same (by simp)
  | windowCloseDiscard => exact hwork fun w s h => h.decideDiscard k w
  | windowCloseCommit => exact hwork fun w s h => h.decideCommit k w
  | windowClosePayloadRange => exact hwork fun w s h => h.completeEntry k _
  | flagClear => exact hwork fun w s h => h.decideFlagClear k w
  | kindUnknown => exact hwork fun w s h => h.completeEntry k _
  | startReady => exact h.enterMains k
  | complete r => exact h.completeEntry k r
  | publish => exact Exchanges.requestPublication k (h.same (by simp [beginInterval]))
  | catchUp => exact h
  | _ => exact h.same (by simp [Machine.runDue])

/-- Where the effects that write the memory keep the rule, every command does. -/
theorem exchanges_kept : Kept (Exchanges E) where
  agenda s a h := h.same ⟨rfl, rfl, rfl, rfl⟩
  due d s h := h.runDue k d
  catchUp s h := h.same (by simp)
  link f s h := h.same ⟨rfl, rfl, rfl, rfl⟩
  byte a v s h := h.hostByte k a v
  attention data s h := h.same (by unfold clearAttention; split <;> (try split_ifs) <;> simp)
  mask data s h := h.same (by unfold replaceMask; split <;> (try split_ifs) <;> simp)
  submit s h := h.applySubmit k
  refuse code d s _ h := h.completeEntry k _
  test d s _ _ _ h := h.applyTest k d
  credit d s _ _ _ h := h.applyCredit k d
  debtAdd d s _ _ _ h := h.applyDebtAdd k d
  clear d s _ _ _ h := h.applyClear k d
  setting d s _ _ _ h := h.applySetting k d
  windowOpen d s _ _ _ h := h.applyWindowOpen k d
  tamperClear d s _ _ _ h := h.applyTamperClear k d
  keyChange d s _ _ _ h := h.applyKeyChange k d
  remoteOpen d s _ _ _ h := h.applyRemote k true d
  remoteClose d s _ _ _ h := h.applyRemote k false d
  fails s h := h.tokenFails k
  publication s h := h.endPublication k
  write s h := h.completeWrite k
  interval m s h := h.same (by simp)
  pulse s h := h.same (by simp)
  wait s h := h.same (by simp)
  second p s h := h.same (by simp)
  crystalStop s h := h.same (by simp)
  crystalReturn s h := h.same (by simp)
  sample i high s h := h.same (by simp)
  falls p s h := h.vsFalls k p
  reset p s h := h.resetLow k p
  rises s h := h.vsRises k
  failing b s h := h.vsFails k b
  start i s h := h.startFromBattery k i
  resetStart i s h := h.startFromReset k i
  finish s h := h.finishStart k
  domain s h := by
    unfold domainLost
    split_ifs
    · exact h.same (by simp)
    · exact h

/-- Where the effects that write the memory keep the rule, every step does. -/
theorem exchanges_step (h : Exchanges E s) (he : step s = .next t) : Exchanges E t :=
  (exchanges_kept k).step (fun _ _ h => h.same ⟨rfl, rfl, rfl, rfl⟩) s t h he

end

end Sys2Proof.Proofs
end

section
/-! SUPPORT. O5, O13 and O14: the canonical form of the memory, the slots, and the generation counter. -/

namespace Sys2Proof.Proofs
open Sys2Proof.Machine Sys2Proof.Safety

/-! ## The canonical form -/

/-- The memory is in canonical form. -/
def canonicalRule : ExchangeRule := fun m _ _ _ => m.wf = true

theorem wf_writePages {s : State} (h : s.mem.wf = true) (gen : Nat) : (writePages s gen).wf = true :=
  Memory.wf_splice (Memory.wf_splice (Memory.wf_splice (Memory.wf_splice h _ _) _ _) _ _) _ _

theorem wf_writeResult {m : Memory} (h : m.wf = true) (w : Work) (r : Result) : (writeResult m w r).wf = true :=
  Memory.wf_write (Memory.wf_splice (Memory.wf_splice h _ _) _ _) _ _

theorem wf_nil : Memory.wf [] = true := rfl

theorem canonicalRule_kept : ExchangeKept canonicalRule where
  cleared := wf_nil
  built _ hm := wf_writePages (hm ▸ wf_nil) 2
  begins _ _ _ h := wf_writePages h _
  ends _ _ _ h := Memory.wf_splice h _ _
  takes _ _ _ _ h := Memory.wf_write h _ _
  results _ _ _ _ _ h := wf_writeResult h _ _
  posts _ _ _ _ _ _ _ h := Memory.wf_write h _ _
  withdraws _ _ _ _ _ _ _ h := Memory.wf_write h _ _
  returns _ _ _ _ _ _ _ h := Memory.wf_write h _ _
  stores _ _ _ _ _ _ _ _ h := Memory.wf_write h _ _

/-- Settles O5: each effect that writes the memory writes it in canonical form. -/
theorem memoryStaysCanonical : Obligations.MemoryStaysCanonical := fun _ _ h he =>
  exchanges_step canonicalRule_kept h he

/-! ## The slots -/

/-- The intake list, the slot in work and the owner bytes agree (R9). -/
structure SlotRule (m : Memory) (l : List Nat) (w : Option Nat) : Prop where
  slots : ∀ n ∈ l, n < 16
  once : l.Nodup
  posted : ∀ n, n < 16 → (ownerOf m n = ownerPosted ↔ n ∈ l)
  workSlot : ∀ n, w = some n → n < 16
  taken : ∀ n, n < 16 → (ownerOf m n = ownerTaken ↔ w = some n)

/-- The memory is in canonical form, and the slots agree. -/
def slotRule : ExchangeRule := fun m l w _ => m.wf = true ∧ SlotRule m l w

theorem slotsAgree_iff (s : State) : SlotsAgree s ↔ SlotRule s.mem s.intake.list (workSlot s) := by
  constructor
  · rintro ⟨hs, ho, hp, hw, ht⟩
    refine ⟨hs, ho, hp, fun n hn => ?_, fun n hn => ?_⟩
    · obtain ⟨w, hsome, rfl⟩ := Option.map_eq_some_iff.mp hn
      exact hw w hsome
    · rw [ht n hn, workSlot, Option.map_eq_some_iff]
  · rintro ⟨hs, ho, hp, hw, ht⟩
    refine ⟨hs, ho, hp, fun w hsome => hw _ (Option.map_eq_some_iff.mpr ⟨w, hsome, rfl⟩), fun n hn => ?_⟩
    rw [ht n hn, workSlot, Option.map_eq_some_iff]

variable {m p : Memory} {l : List Nat} {w : Option Nat}

/-- The owner bytes are unchanged. -/
theorem SlotRule.sameOwners (h : SlotRule m l w) (e : ∀ n, n < 16 → ownerOf p n = ownerOf m n) : SlotRule p l w :=
  ⟨h.slots, h.once, fun n hn => by rw [e n hn, h.posted n hn], h.workSlot, fun n hn => by rw [e n hn, h.taken n hn]⟩

theorem ownerOf_write_other (m : Memory) {a n : Nat} (v : Byte) (h : slotBase n ≠ a) : ownerOf (m.write a v) n = ownerOf m n :=
  Memory.read_write_other _ _ h

theorem ownerOf_writeSlot {m : Memory} (hm : m.wf = true) (n i : Nat) (v : Byte) :
    ownerOf (m.write (slotBase n) v) i = if i = n then v else ownerOf m i := by
  split_ifs with h
  · subst h
    exact ownerOf_write_same hm _ _
  · exact ownerOf_write_other _ _ fun e => h (slotBase_inj.mp e)

theorem SlotRule.takes {n : Nat} (hm : m.wf = true) (h : SlotRule m (n :: l) none) :
    SlotRule (m.write (slotBase n) ownerTaken) l (some n) := by
  obtain ⟨hn, hl⟩ := List.nodup_cons.mp h.once
  refine ⟨fun i hi => h.slots i (List.mem_cons_of_mem _ hi), hl, fun i hi => ?_, fun i hi => ?_, fun i hi => ?_⟩
  · rw [ownerOf_writeSlot hm]
    split_ifs with he
    · simp [he, hn, ownerTaken, ownerPosted]
    · simp [h.posted i hi, he]
  · obtain rfl := Option.some.inj hi
    exact h.slots _ List.mem_cons_self
  · rw [ownerOf_writeSlot hm]
    split_ifs with he
    · simp [he]
    · simp [h.taken i hi, Ne.symm he]

theorem SlotRule.posts {n : Nat} (hm : m.wf = true) (hn : n < 16) (ho : ownerOf m n = ownerEmpty) (h : SlotRule m l w) :
    SlotRule (m.write (slotBase n) ownerPosted) (l ++ [n]) w := by
  have hfree : n ∉ l := fun hl => by simpa [ho, ownerEmpty, ownerPosted] using (h.posted n hn).mpr hl
  have hnot : w ≠ some n := fun hw => by simpa [ho, ownerEmpty, ownerTaken] using (h.taken n hn).mpr hw
  refine ⟨fun i hi => ?_, ?_, fun i hi => ?_, h.workSlot, fun i hi => ?_⟩
  · rcases List.mem_append.mp hi with hi | hi
    · exact h.slots i hi
    · exact List.mem_singleton.mp hi ▸ hn
  · exact List.nodup_append.mpr ⟨h.once, List.nodup_singleton n, fun a ha b hb e =>
      hfree (List.mem_singleton.mp hb ▸ e ▸ ha)⟩
  · rw [ownerOf_writeSlot hm]
    split_ifs with he
    · simp [he]
    · simp [h.posted i hi, he]
  · rw [ownerOf_writeSlot hm]
    split_ifs with he
    · simp [he, hnot, ownerPosted, ownerTaken]
    · exact h.taken i hi

/-- A slot that is neither POSTED nor TAKEN afterwards leaves the list, and was not in work. -/
theorem SlotRule.frees {n : Nat} (hm : m.wf = true) (ht : ownerOf m n ≠ ownerTaken) (hn : n < 16) (h : SlotRule m l w) :
    SlotRule (m.write (slotBase n) ownerEmpty) (l.filter fun i => i != n) w := by
  have hnot : w ≠ some n := fun hw => ht ((h.taken n hn).mpr hw)
  refine ⟨fun i hi => h.slots i (List.mem_filter.mp hi).1, h.once.filter _, fun i hi => ?_, h.workSlot, fun i hi => ?_⟩
  · rw [ownerOf_writeSlot hm]
    split_ifs with he
    · simp [he, ownerEmpty, ownerPosted]
    · simp [h.posted i hi, he]
  · rw [ownerOf_writeSlot hm]
    split_ifs with he
    · simp [he, hnot, ownerEmpty, ownerTaken]
    · exact h.taken i hi

theorem SlotRule.returns {n : Nat} (hm : m.wf = true) (ho : ownerOf m n = ownerDone) (hn : n < 16) (h : SlotRule m l w) :
    SlotRule (m.write (slotBase n) ownerEmpty) l w := by
  have hfree : n ∉ l := fun hl => by simpa [ho, ownerDone, ownerPosted] using (h.posted n hn).mpr hl
  have hsame : (l.filter fun i => i != n) = l := List.filter_eq_self.mpr fun i hi => by
    simpa using fun e : i = n => hfree (e ▸ hi)
  exact hsame ▸ h.frees hm (by simp [ho, ownerDone, ownerTaken]) hn

/-- The result area of a slot is not its owner byte, nor another slot's. -/
theorem ownerOf_writeResult (hm : m.wf = true) (w : Work) (r : Result) (n : Nat) :
    ownerOf (writeResult m w r) n = if n = w.slot then ownerDone else ownerOf m n := by
  have hlength : (resultBytes r).length = 60 := by
    simp only [resultBytes, List.length_cons, List.length_append, List.length_take, List.length_replicate]
    omega
  rw [writeResult, ownerOf_writeSlot (Memory.wf_splice (Memory.wf_splice hm _ _) _ _)]
  split_ifs with he
  · rfl
  · rw [ownerOf, Memory.read_splice_other _ _ _ (by rw [hlength]; unfold slotBase; omega),
      Memory.read_splice_other _ _ _ (by simp only [List.length_cons, List.length_nil]; unfold slotBase; omega)]
    rfl

theorem SlotRule.results {w : Work} (hm : m.wf = true) (r : Result) (h : SlotRule m l (some w.slot)) :
    SlotRule (writeResult m w r) l none := by
  have hn := h.workSlot _ rfl
  refine ⟨h.slots, h.once, fun i hi => ?_, by simp, fun i hi => ?_⟩
  · rw [ownerOf_writeResult hm]
    split_ifs with he
    · have hnot : ownerOf m w.slot ≠ ownerPosted := by
        rw [(h.taken _ hn).mpr rfl]
        decide
      have hfree : w.slot ∉ l := fun hl => hnot ((h.posted _ hn).mpr hl)
      simp [he, hfree, ownerDone, ownerPosted]
    · exact h.posted i hi
  · rw [ownerOf_writeResult hm]
    split_ifs with he
    · simp [ownerDone, ownerTaken]
    · simp [h.taken i hi, Ne.symm he]

theorem slotRule_nil : SlotRule [] [] none := by
  refine ⟨by simp, List.nodup_nil, fun n _ => ?_, by simp, fun n _ => ?_⟩
  · simp [ownerOf, Memory.read, ownerPosted]
  · simp [ownerOf, Memory.read, ownerTaken]

theorem ownerOf_writePages (s : State) (gen : Nat) {n : Nat} (hn : n < 16) :
    ownerOf (writePages s gen) n = ownerOf s.mem n := read_writePages (slotBase_not_inPages hn) _ _

theorem le_length (n v : Nat) : (le n v).length = n := by
  induction n generalizing v with
  | zero => rfl
  | succ n ih => simp [le, ih]

theorem slotRule_kept : ExchangeKept slotRule where
  cleared := ⟨wf_nil, slotRule_nil⟩
  built s hm := ⟨canonicalRule_kept.built s hm, slotRule_nil.sameOwners fun n hn => by rw [ownerOf_writePages s 2 hn, hm]⟩
  begins s _ _ h := ⟨wf_writePages h.1 _, h.2.sameOwners fun n hn => ownerOf_writePages s _ hn⟩
  ends m _ _ h := ⟨Memory.wf_splice h.1 _ _, h.2.sameOwners fun n hn =>
    Memory.read_splice_other _ _ _ (by rw [le_length]; unfold slotBase; omega)⟩
  takes _ _ _ _ h := ⟨Memory.wf_write h.1 _ _, h.2.takes h.1⟩
  results _ _ _ r _ h := ⟨wf_writeResult h.1 _ _, h.2.results h.1 r⟩
  posts _ _ _ _ _ hn ho h := ⟨Memory.wf_write h.1 _ _, h.2.posts h.1 hn ho⟩
  withdraws _ _ _ _ _ hn ho h := ⟨Memory.wf_write h.1 _ _, h.2.frees h.1 (by rw [ho]; decide) hn⟩
  returns _ _ _ _ _ hn ho h := ⟨Memory.wf_write h.1 _ _, h.2.returns h.1 ho hn⟩
  stores _ _ _ _ _ _ _ ha h := ⟨Memory.wf_write h.1 _ _, h.2.sameOwners fun n hn => ownerOf_write_other _ _ (ha n hn)⟩

/-- Settles O13: each effect that writes an owner byte changes the list and the slot in work with it. -/
theorem slotsStayAgreed : Obligations.SlotsStayAgreed := fun _ _ hm h he =>
  (slotsAgree_iff _).mpr (exchanges_step slotRule_kept ⟨hm, (slotsAgree_iff _).mp h⟩ he).2

/-! ## The generation counter -/

theorem ofLe_le (n v : Nat) : ofLe (le n v) = v % 256 ^ n := by
  induction n generalizing v with
  | zero => simp [le, ofLe, Nat.mod_one]
  | succ n ih =>
    rw [pow_succ' 256 n, Nat.mod_mul]
    simp only [le, ofLe, ih, BitVec.toNat_ofNat, Nat.reducePow]

/-- The counter as it stands is that of its four bytes. -/
theorem generation_congr (e : ∀ a, a < 4 → p.read a = m.read a) : generation p = generation m := by
  simp only [generation, Memory.readBytes_eq]
  congr 1
  refine List.map_congr_left fun i hi => ?_
  rw [Nat.zero_add]
  exact e i (List.mem_range.mp hi)

theorem generation_splice (m : Memory) (bytes : List Byte) (v : Nat) :
    generation (m.splice 0 (le 4 v ++ bytes)) = v % 2 ^ 32 := by
  have hread : (m.splice 0 (le 4 v ++ bytes)).readBytes 0 4 = le 4 v := by
    rw [Memory.readBytes_eq]
    refine List.ext_getElem (by simp [le_length]) fun i h1 h2 => ?_
    have hi : i < (le 4 v ++ bytes).length := by simp at h1; simp [le_length]; omega
    have := Memory.read_splice m 0 (le 4 v ++ bytes) hi
    simp only [List.getElem_map, List.getElem_range]
    rw [this, List.getD_eq_getElem _ _ hi, List.getElem_append_left h2]
  rw [generation, hread, ofLe_le]
  norm_num

/-- The status page begins with the generation counter (R14). -/
theorem statusPage_head (s : State) (gen : Nat) : ∃ rest, statusPage s gen = le 4 gen ++ rest := by
  refine ⟨(statusPage s gen).drop 4, ?_⟩
  have htake : (statusPage s gen).take 4 = le 4 gen := by
    simp only [statusPage, page, supplyFields, List.cons_append, layout, Nat.sub_self, List.replicate_zero,
      List.nil_append, List.append_assoc]
    rw [List.take_append_of_le_length (by simp [le_length]), List.take_take]
    simp [le_length]
  rw [← htake, List.take_append_drop]

theorem generation_writePages (s : State) (gen : Nat) : generation (writePages s gen) = gen % 2 ^ 32 := by
  obtain ⟨rest, hrest⟩ := statusPage_head s gen
  rw [← generation_splice s.mem rest gen, ← hrest]
  refine generation_congr fun a ha => ?_
  rw [writePages, Memory.read_splice_other _ _ _ (by omega), Memory.read_splice_other _ _ _ (by omega),
    Memory.read_splice_other _ _ _ (by omega)]

/-- The memory is in canonical form, the slots agree, and the counter is odd exactly during a publication. -/
def counterRule : ExchangeRule := fun m l w b => slotRule m l w b ∧ (generation m % 2 = 1 ↔ b = true)

theorem generation_write (m : Memory) {a : Nat} (v : Byte) (ha : 4 ≤ a) : generation (m.write a v) = generation m :=
  generation_congr fun i hi => Memory.read_write_other _ _ (by omega)

theorem generation_writeSlot (m : Memory) (n : Nat) (v : Byte) : generation (m.write (slotBase n) v) = generation m :=
  generation_write m v (by unfold slotBase; omega)

theorem generation_writeResult (m : Memory) (w : Work) (r : Result) : generation (writeResult m w r) = generation m := by
  rw [writeResult, generation_writeSlot]
  refine generation_congr fun a ha => ?_
  rw [Memory.read_splice_other _ _ _ (by unfold slotBase; omega), Memory.read_splice_other _ _ _ (by unfold slotBase; omega)]

theorem counterRule_kept : ExchangeKept counterRule where
  cleared := ⟨slotRule_kept.cleared, by decide⟩
  built s hm := ⟨slotRule_kept.built s hm, by rw [generation_writePages]; decide⟩
  begins s l w h := ⟨slotRule_kept.begins s l w h.1, by
    have := h.2
    rw [generation_writePages]
    simp only [Bool.false_eq_true, iff_false, iff_true] at this ⊢
    omega⟩
  ends m l w h := ⟨slotRule_kept.ends m l w h.1, by
    have := h.2
    have hgen := generation_splice m [] ((generation m + 1) % 2 ^ 32)
    rw [List.append_nil] at hgen
    rw [hgen]
    simp only [Bool.false_eq_true, iff_false, iff_true] at this ⊢
    omega⟩
  takes m n rest b h := ⟨slotRule_kept.takes m n rest b h.1, by rw [generation_writeSlot]; exact h.2⟩
  results m l w r b h := ⟨slotRule_kept.results m l w r b h.1, by rw [generation_writeResult]; exact h.2⟩
  posts m l w b n hn ho h := ⟨slotRule_kept.posts m l w b n hn ho h.1, by rw [generation_writeSlot]; exact h.2⟩
  withdraws m l w b n hn ho h := ⟨slotRule_kept.withdraws m l w b n hn ho h.1, by rw [generation_writeSlot]; exact h.2⟩
  returns m l w b n hn ho h := ⟨slotRule_kept.returns m l w b n hn ho h.1, by rw [generation_writeSlot]; exact h.2⟩
  stores m l w b a v hp ha h := ⟨slotRule_kept.stores m l w b a v hp ha h.1, by
    have hlow : 4 ≤ a := by
      simp only [inPages, Bool.or_eq_false_iff, Bool.and_eq_false_iff, decide_eq_false_iff_not] at hp
      omega
    rw [generation_write m v hlow]
    exact h.2⟩

/-- Settles O14: only a publication's begin and end write the counter, each by one. -/
theorem counterKeepsTelling : Obligations.CounterKeepsTelling := fun _ _ hm h hc he =>
  (exchanges_step counterRule_kept ⟨⟨hm, (slotsAgree_iff _).mp h⟩, hc⟩ he).2

end Sys2Proof.Proofs
end

section
/-! SUPPORT. O2 and O10: the queue, and the energy registers, over every command. -/

namespace Sys2Proof.Proofs
open Sys2Proof.Machine Sys2Proof.Safety

/-! ## The queue -/

theorem nextStep_pending (s : State) : (nextStep s).pending = s.pending := by
  have hfailed (fs : List Bool) (s : State) : (reportFailed fs s).pending = s.pending := by
    induction fs generalizing s with
    | nil => rfl
    | cons b fs ih => cases b <;> simp [reportFailed, ih]
  unfold nextStep
  split
  · simp [restoreStep, hfailed, takeSections, deriveQuietly]
  · simp [batteryStep]
  · simp [daysStep]
  · simp [contactorStep]
  · rfl
  · rfl

theorem runSteps_pending (n : Nat) (s : State) : (runSteps n s).pending = s.pending := by
  induction n generalizing s with
  | zero => rfl
  | succ n ih => rw [runSteps, ih, nextStep_pending]

theorem catchUpThen_pending {behind : State → State} (hb : ∀ s, (behind s).pending = s.pending) (later : List Due)
    (s : State) : (catchUpThen later behind s).pending = s.pending := by
  rcases catchUpThen_cases later behind s with e | ⟨-, -, e⟩ <;> simp [e, hb]

theorem enterMains_pending (s : State) : (enterMains s).pending = s.pending := by
  have hmains : (openIntake (catchUpThen [] id (beginInterval (beginMains
      (runSteps (5 - s.supply.startStep) s))))).pending = s.pending := by
    rw [← runSteps_pending (5 - s.supply.startStep) s]
    simp [catchUpThen_pending, beginInterval, beginMains]
  unfold enterMains
  dsimp only
  split_ifs <;> simp only [vsFalls_keeps, resetLow_keeps, hmains]

theorem runDue_pending (d : Due) (s : State) : (runDue d s).pending = s.pending := by
  have hwork {f : Work → State → State} (hf : ∀ w s, (f w s).pending = s.pending) : (withWork f s).pending = s.pending := by
    unfold withWork
    split
    · rfl
    · split_ifs
      · exact hf _ _
      · rfl
  cases d with
  | startReady => exact enterMains_pending s
  | catchUp => rfl
  | token | reconnect | emergency | timeSet | calendarSubmit | windowCloseDiscard | windowCloseCommit
  | windowClosePayloadRange | flagClear | kindUnknown => exact hwork fun w s => by simp
  | _ => simp [runDue]

/-- Every command leaves the queue as it is. -/
theorem pending_kept (q : List Instr) : Kept (fun s => s.pending = q) where
  agenda _ _ h := h
  due d s h := (runDue_pending d s).trans h
  catchUp s h := by simpa using h
  link _ _ h := h
  byte a v s h := by simpa using h
  attention data s h := by
    rw [← h]
    unfold clearAttention
    split <;> (try split_ifs) <;> rfl
  mask data s h := by
    rw [← h]
    unfold replaceMask
    split <;> (try split_ifs) <;> rfl
  submit s h := by simpa using h
  refuse code d s _ h := by simpa using h
  test d s _ _ _ h := by simpa using h
  credit d s _ _ _ h := by simpa using h
  debtAdd d s _ _ _ h := by simpa using h
  clear d s _ _ _ h := by simpa using h
  setting d s _ _ _ h := by simpa using h
  windowOpen d s _ _ _ h := by simpa using h
  tamperClear d s _ _ _ h := by simpa using h
  keyChange d s _ _ _ h := by simpa using h
  remoteOpen d s _ _ _ h := by simpa using h
  remoteClose d s _ _ _ h := by simpa using h
  fails s h := by simpa using h
  publication s h := by simpa using h
  write s h := by simpa using h
  interval m s h := by simpa using h
  pulse s h := by simpa using h
  wait s h := by simpa using h
  second p s h := by simpa using h
  crystalStop s h := by simpa using h
  crystalReturn s h := by simpa using h
  sample i high s h := by simpa using h
  falls p s h := by simpa using h
  reset p s h := by simpa using h
  rises s h := by simpa using h
  failing b s h := by
    rw [← h]
    unfold vsFails
    split <;> rfl
  start i s h := by
    rw [← h]
    unfold startFromBattery
    split
    · exact runSteps_pending _ _
    all_goals rfl
  resetStart i s h := by
    rw [← h]
    unfold startFromReset
    split_ifs
    · exact runSteps_pending _ _
    · rfl
  finish s h := by
    rw [← h]
    unfold finishStart
    split_ifs
    · simp [runSteps_pending]
    · rfl
  domain s h := by
    rw [← h]
    unfold domainLost
    split_ifs
    · simp
    · rfl

theorem exec_next (c : Instr) (s : State) : ∃ t, exec c s = .next t := by
  cases c <;> exact ⟨_, rfl⟩

/-- Settles O2: every arm of the dispatch answers with a next state, and no effect touches the queue. -/
theorem everyCommandIsAnswered : Obligations.EveryCommandIsAnswered := by
  intro c s
  obtain ⟨t, ht⟩ := exec_next c s
  exact ⟨t, ht, (pending_kept s.pending).exec c s t rfl ht⟩

/-! ## Commands outside a start and the end of the supply -/

/-- What a property must be kept by to be kept by all that follows an arrival at once. -/
structure DueKept (P : State → Prop) : Prop where
  agenda : ∀ s a, P s → P { s with agenda := a }
  due : ∀ d s, P s → P (runDue d s)
  catchUp : ∀ s, P s → P (catchUpGoesOn s)

namespace DueKept

variable {P : State → Prop} (k : DueKept P)
include k

theorem runUntil (stop : Due → Bool) (fuel : Nat) (s : State) (h : P s) : P (Machine.runUntil stop fuel s) := by
  induction fuel generalizing s with
  | zero => exact h
  | succ n ih =>
    simp only [Machine.runUntil]
    split
    · exact h
    · split
      · exact h
      · exact ih _ (k.due _ _ (k.agenda _ _ h))

theorem advance (s : State) (h : P s) : P (Machine.advance s) := by
  have ht := k.runUntil Due.isRow dueBound s h
  unfold Machine.advance restCatchUp
  dsimp only
  split_ifs
  · exact k.agenda _ _ (k.runUntil _ _ _ (k.catchUp _ ht))
  · exact k.agenda _ _ ht

theorem settle (s : State) (h : P s) : P (Machine.settle s) := k.runUntil _ _ s h

theorem atOnce (d : Due) (s : State) (h : P s) : P (Machine.atOnce d s) := by
  have ht : P (settleTo d s) := k.runUntil _ _ s h
  unfold Machine.atOnce runHead
  dsimp only
  split
  · refine k.advance _ ?_
    split
    · exact ht
    · exact k.due _ _ (k.agenda _ _ ht)
  · exact ht

theorem arrival {f : State → State} (hf : ∀ s, P s → P (f s)) (s : State) (h : P s) : P (Machine.arrival f s) :=
  k.advance _ (hf _ (k.settle _ h))

end DueKept

/-! ## The energy registers -/

theorem notAbove_refl (e : Energy) : NotAbove e e :=
  ⟨le_refl _, le_refl _, le_refl _, le_refl _, le_refl _, le_refl _, le_refl _, le_refl _⟩

theorem notAbove_trans {e f g : Energy} (h : NotAbove e f) (k : NotAbove f g) : NotAbove e g :=
  ⟨h.total.trans k.total, h.b0.trans k.b0, h.b1.trans k.b1, h.b2.trans k.b2, h.b3.trans k.b3, h.b4.trans k.b4,
    h.b5.trans k.b5, h.exported.trans k.exported⟩

/-- Outside START, with no energy register below that of `e`. -/
def Grown (e : Energy) (s : State) : Prop := s.supply.power ≠ .start ∧ NotAbove e s.energy

variable {e : Energy} {s t : State}

theorem Grown.same (h : Grown e s) (hs : t.supply.power = s.supply.power ∧ t.energy = s.energy) : Grown e t := by
  obtain ⟨hp, he⟩ := hs
  exact ⟨hp ▸ h.1, he ▸ h.2⟩

/-- Only the power state moved, and not to START. -/
theorem Grown.moved (h : Grown e s) (hp : t.supply.power ≠ .start) (he : t.energy = s.energy) : Grown e t :=
  ⟨hp, he ▸ h.2⟩

theorem billInterval_energy (imported exported ms : Nat) (s : State) :
    (billInterval imported exported ms s).energy =
      s.energy.add (bandAt (activateDue s).book.active (activateDue s).clock.time) (billedImport s imported ms) exported := by
  simp [billInterval, intervalCharge, registerEnergy]

theorem Grown.billInterval (h : Grown e s) (imported exported ms : Nat) : Grown e (billInterval imported exported ms s) :=
  ⟨by simpa using h.1, by
    rw [billInterval_energy]
    exact notAbove_trans h.2 (energy_add_notAbove _ _ _ _)⟩

theorem Grown.closeInterval (h : Grown e s) (m : Measurement) : Grown e (closeInterval m s) := by
  unfold Machine.closeInterval
  dsimp only
  split_ifs
  · exact Grown.same (Grown.billInterval (h.same (t := sampleVbat m.vbat (takeResults m (markSaturation m.energy s)))
      (by simp [sampleVbat, takeResults])) _ _ _) ⟨rfl, rfl⟩
  · exact h

theorem Grown.closePartial (h : Grown e s) (p : PartMeasurement) : Grown e (closePartial p s) := by
  unfold Machine.closePartial
  dsimp only
  split_ifs
  · exact Grown.same (h.billInterval _ _ _) ⟨rfl, rfl⟩
  · exact Grown.same (Grown.billInterval (h.same (t := markSaturation p.energy s) (by simp)) _ _ _) ⟨rfl, rfl⟩

theorem Grown.enterHoldup (h : Grown e s) (reset : Bool) (p : PartMeasurement) : Grown e (enterHoldup reset p s) := by
  have hdrop : Grown e (abandonWork (holdupSwitch (raiseNow attnSupply (dropPower reset s)))) :=
    h.moved (by simp [dropPower]) (by simp)
  exact (hdrop.closePartial p).same (by simp [Machine.enterHoldup])

theorem Grown.vsFalls (h : Grown e s) (p : PartMeasurement) : Grown e (vsFalls p s) := by
  unfold Machine.vsFalls
  split
  · exact Grown.enterHoldup (h.same (by simp)) _ _
  · exact h.same (by simp)
  · exact h.same (by simp)
  · exact h

theorem Grown.resetLow (h : Grown e s) (p : PartMeasurement) : Grown e (resetLow p s) := by
  unfold Machine.resetLow
  split
  · exact h.enterHoldup _ _
  · split_ifs
    · exact h
    · exact h.same (by simp)
  · exact h.same (by simp)
  · exact h

theorem catchUpThen_power_energy {behind : State → State}
    (hb : ∀ s, (behind s).supply.power = s.supply.power ∧ (behind s).energy = s.energy) (later : List Due) (s : State) :
    (catchUpThen later behind s).supply.power = s.supply.power ∧ (catchUpThen later behind s).energy = s.energy := by
  rcases catchUpThen_cases later behind s with e | ⟨-, -, e⟩ <;> simp [e, hb]

theorem Grown.vsRises (h : Grown e s) : Grown e (vsRises s) := by
  unfold Machine.vsRises
  split
  · dsimp only
    split_ifs
    · exact h.same (by simp)
    · have hthen (u : State) := catchUpThen_power_energy (behind := id) (fun _ => ⟨rfl, rfl⟩) [] u
      exact h.moved (by simp [openIntake, hthen, setMains, raiseNow]) (by simp [openIntake, hthen, setMains, beginInterval])
  · exact h.same (by simp)
  · exact h
  · exact h

theorem Grown.runDue (h : Grown e s) (d : Due) : Grown e (runDue d s) := by
  have hwork {f : Work → State → State} (hf : ∀ w s, Grown e s → Grown e (f w s)) : Grown e (withWork f s) := by
    unfold withWork
    split
    · exact h
    · split_ifs
      · exact hf _ _ h
      · exact h
  cases d with
  | startReady =>
    simp only [Machine.runDue, enterMains, if_neg h.1]
    exact h
  | catchUp => exact h
  | token | reconnect | emergency | timeSet | calendarSubmit | windowCloseDiscard | windowCloseCommit
  | windowClosePayloadRange | flagClear | kindUnknown => exact hwork fun w s h => h.same (by simp)
  | _ => exact h.same (by simp [Machine.runDue])

theorem grown_dueKept (e : Energy) : DueKept (Grown e) where
  agenda _ _ h := h
  due d _ h := h.runDue d
  catchUp _ h := h.same (by simp)

theorem Grown.token {cls m : Nat} {act : Decoded → State → State}
    (ha : ∀ d s, (act d s).supply.power = s.supply.power ∧ (act d s).energy = s.energy) (h : Grown e s) :
    Grown e (tokenApply cls m act s) := by
  unfold tokenApply
  split
  · exact h
  · split
    · split
      · exact h.same (by simp)
      · exact h.same (ha _ _)
    · exact h

theorem Grown.frameBytes (write : Bool) (vs : List Byte) (h : Grown e s) : Grown e (frameBytes write vs s) := by
  have hbyte {s : State} (v : Byte) (h : Grown e s) : Grown e (frameByte write v s) := by
    unfold frameByte
    split
    · exact h
    · dsimp only
      split
      · split_ifs
        · exact h.same (by simp)
        · exact h.same ⟨rfl, rfl⟩
      · exact h.same ⟨rfl, rfl⟩
  induction vs generalizing s with
  | nil => exact h
  | cons v vs ih =>
    cases vs with
    | nil => exact hbyte v h
    | cons w vs => exact ih ((grown_dueKept e).settle _ (hbyte v h))

theorem Grown.memoryFrame (write : Bool) (piece : FramePiece) (h : Grown e s) : Grown e (memoryFrame write piece s) := by
  have hbegin : Grown e (beginFrame write s) := by
    unfold beginFrame
    split
    · exact h
    · exact h.same ⟨rfl, rfl⟩
  exact (hbegin.frameBytes write piece.bytes).same (by simp [Machine.memoryFrame])

theorem Grown.sampleAll (h : Grown e s) (i : SenseInput) (xs : List Bool) : Grown e (sampleAll i xs s) := by
  induction xs generalizing s with
  | nil => exact h
  | cons x xs ih =>
    refine ih ?_
    split_ifs
    · exact h.same (by simp)
    · exact h

/-- Settles O10: outside a start and BATTERY entry the registers change by additions alone. -/
theorem energyNeverFalls : Obligations.EnergyNeverFalls := by
  intro c rest s t hq he hc hp
  have h : Grown s.energy (s.withQueue rest) := ⟨hp, notAbove_refl _⟩
  have k := grown_dueKept s.energy
  have hsame {f : State → State} (hf : ∀ s, (f s).supply.power = s.supply.power ∧ (f s).energy = s.energy) :
      Grown s.energy (arrival f (s.withQueue rest)) := k.arrival (fun _ h => h.same (hf _)) _ h
  suffices Grown s.energy t from this.2
  have he' : exec c (s.withQueue rest) = .next t := by simpa [step, hq] using he
  cases c <;> obtain rfl := Host.Outcome.next.inj he'
  case readMemory piece => exact k.arrival (fun _ h => h.memoryFrame _ piece) _ h
  case writeMemory piece => exact k.arrival (fun _ h => h.memoryFrame _ piece) _ h
  case writeAttention data =>
    exact hsame fun s => by unfold clearAttention; split <;> (try split_ifs) <;> exact ⟨rfl, rfl⟩
  case writeAttentionMask data =>
    exact hsame fun s => by unfold replaceMask; split <;> (try split_ifs) <;> exact ⟨rfl, rfl⟩
  case readRegister bytes => exact hsame fun _ => ⟨rfl, rfl⟩
  case writeRegisterIgnored bytes => exact hsame fun _ => ⟨rfl, rfl⟩
  case unknownCommandFrame bytes => exact hsame fun _ => ⟨rfl, rfl⟩
  case calendarSubmitApply => exact hsame fun s => by unfold submitApplies; split <;> (try split_ifs) <;> simp
  case test => exact k.arrival (fun _ h => h.token fun _ _ => by simp) _ h
  case credit => exact k.arrival (fun _ h => h.token fun _ _ => by simp) _ h
  case debtAdd => exact k.arrival (fun _ h => h.token fun _ _ => by simp) _ h
  case clear => exact k.arrival (fun _ h => h.token fun _ _ => by simp) _ h
  case setting => exact k.arrival (fun _ h => h.token fun _ _ => by simp) _ h
  case windowOpen => exact k.arrival (fun _ h => h.token fun _ _ => by simp) _ h
  case tamperClear => exact k.arrival (fun _ h => h.token fun _ _ => by simp) _ h
  case keyChange => exact k.arrival (fun _ h => h.token fun _ _ => by simp) _ h
  case remoteOpen => exact k.arrival (fun _ h => h.token fun _ _ => by simp) _ h
  case remoteClose => exact k.arrival (fun _ h => h.token fun _ _ => by simp) _ h
  case tokenDecodeEnd => exact hsame fun s => by simp
  case publicationEnd => exact hsame fun s => by simp
  case retentionWriteComplete => exact hsame fun s => by simp
  case intervalClose m => exact k.arrival (fun _ h => h.closeInterval m) _ h
  case coilPulseEnd => exact hsame fun s => by simp
  case confirmationWaitEnd => exact hsame fun s => by simp
  case meterSecond p => exact hsame fun s => by simp
  case crystalStop => exact hsame fun s => by simp
  case crystalReturn => exact hsame fun s => by simp
  case inputQualified i xs => exact k.arrival (fun _ h => h.sampleAll i xs) _ h
  case holdupEntry p => exact k.arrival (fun _ h => h.vsFalls p) _ h
  case resetNLow p => exact k.arrival (fun _ h => h.resetLow p) _ h
  case holdupReturn => exact k.arrival (fun _ h => h.vsRises) _ h
  case batteryEntry => exact hc.elim
  case startEntry => exact hc.elim
  case resetStart => exact hc.elim
  case startReady =>
    have hsame : finishStart (s.withQueue rest) = s.withQueue rest := by simp [finishStart, State.withQueue, hp]
    exact k.atOnce _ _ (by rwa [hsame])
  case batteryDomainLoss =>
    exact hsame fun s => by unfold domainLost; split_ifs <;> simp
  all_goals exact k.atOnce _ _ h

end Sys2Proof.Proofs
end

section
/-! SUPPORT. One evaluation of the switch controller (R137): what it leaves, in the terms of the statements. -/

namespace Sys2Proof.Proofs
open Sys2Proof.Machine Sys2Proof.Safety

variable {s t : State}

/-! ## Marks -/

/-- Bits that are marked become due. -/
theorem markDue_due (b : BitVec 6) (s : State) : (markDue b s).attn.due = s.attn.due ||| b := rfl

theorem isEmpty_iff (r : Reasons) : r.isEmpty = true ↔ r = Reasons.empty := by
  obtain ⟨a, b, c, d⟩ := r
  cases a <;> cases b <;> cases c <;> cases d <;> decide

theorem union_empty (r : Reasons) : r.union Reasons.empty = r := by
  cases r
  simp [Reasons.union, Reasons.empty]

/-- The controller remembers what it has last told of the contactor and the governing reason. -/
theorem markSwitch_switch (s : State) : (markSwitch s).switch =
    { s.switch with seenContactor := s.switch.contactor, seenGoverning := s.switch.governing } := by
  unfold markSwitch
  dsimp only
  split_ifs with h
  · simp only [Bool.and_eq_true, decide_eq_true_eq] at h
    rw [h.1, h.2]
    cases s with | mk => cases ‹Switch›; simp_all
  · rfl

theorem markSwitch_due (h : s.switch.contactor ≠ s.switch.seenContactor ∨ s.switch.governing ≠ s.switch.seenGoverning) :
    (markSwitch s).attn.due.getLsbD 1 = true := by
  unfold markSwitch
  dsimp only
  rw [if_neg (by simpa [imp_iff_not_or] using h)]
  simp [markDue, onAttn, attnSwitch]

/-- Where nothing that the sets are formed of differs, they are the same. -/
theorem sets_congr (hr : t.switch.reasons = s.switch.reasons) (hf : t.switch.friendly = s.switch.friendly)
    (hw : t.switch.windowHold = s.switch.windowHold) (hp : t.settings = s.settings) :
    holdLevel t = holdLevel s ∧ actingSet t = actingSet s ∧ heldSet t = heldSet s ∧
      governingReason t = governingReason s := by
  have hh : holdLevel t = holdLevel s := by simp [holdLevel, hf, hw, hp]
  have ha : actingSet t = actingSet s := by simp [actingSet, hh, hr, hp]
  exact ⟨hh, ha, by simp [heldSet, hr, ha], by simp [governingReason, ha, hp]⟩

/-! ## One evaluation -/

theorem formSets_switch (s : State) : (formSets s).switch =
    { s.switch with
      hold := holdLevel s, acting := actingSet s, held := heldSet s, governing := governingReason s
      kept := { s.switch.kept with openedBy := s.switch.kept.openedBy.union (actingSet s) } } := rfl

theorem enterOpening_switch (s : State) : (enterOpening s).switch =
    if driven s then { s.switch with
      contactor := .opening, attempt := .pulse .open, attemptCount := s.switch.attemptCount + 1
      kept := { s.switch.kept with commandedClosed := false } }
    else { s.switch with contactor := .opening, attempt := .deferred .open } := by
  unfold enterOpening beginAttempt driven
  simp only [Bool.or_eq_true, decide_eq_true_eq, setContactor_keeps]
  split_ifs <;> rfl

theorem enterClosing_switch (s : State) : (enterClosing s).switch =
    if driven s then { s.switch with
      contactor := .closing, attempt := .pulse .close, attemptCount := s.switch.attemptCount + 1
      kept := { s.switch.kept with commandedClosed := true } }
    else { s.switch with contactor := .closing, attempt := .deferred .close } := by
  unfold enterClosing beginAttempt driven
  simp only [Bool.or_eq_true, decide_eq_true_eq, setContactor_keeps]
  split_ifs <;> rfl

/-- What the table of R137 leaves between `s` and `v`, before the changes of it are marked. -/
structure Acted (s v : State) : Prop where
  inputs : v.switch.reasons = s.switch.reasons ∧ v.switch.friendly = s.switch.friendly ∧
    v.switch.windowHold = s.switch.windowHold
  sets : v.switch.hold = holdLevel s ∧ v.switch.acting = actingSet s ∧ v.switch.held = heldSet s ∧
    v.switch.governing = governingReason s
  contactor : v.switch.contactor = contactorAfter s s
  pulse : ∀ w, begins s v = some w → driven s = true →
    v.switch.attempt = .pulse w ∧ v.switch.attemptCount = s.switch.attemptCount + 1
  deferred : ∀ w, begins s v = some w → driven s = false →
    v.switch.attempt = .deferred w ∧ v.switch.attemptCount = s.switch.attemptCount
  still : begins s v = none → v.switch.attempt = s.switch.attempt ∧ v.switch.attemptCount = s.switch.attemptCount
  kept : v.switch.kept = { s.switch.kept with
    openedBy := if released s v then Reasons.empty else s.switch.kept.openedBy.union (actingSet s)
    manualClose := s.switch.kept.manualClose && !released s v
    commandedClosed :=
      if released s v then true
      else match begins s v with
        | none => s.switch.kept.commandedClosed
        | some w => if driven s then decide (w = .close) else s.switch.kept.commandedClosed }
  fault : v.switch.fault = (s.switch.fault && !released s v)
  cleanRun : v.switch.cleanRun = if released s v then 0 else s.switch.cleanRun
  timers : v.switch.stuckTimer = s.switch.stuckTimer ∧ v.switch.overCount = s.switch.overCount ∧
    v.switch.retryTimer = s.switch.retryTimer
  seen : v.switch.seenContactor = s.switch.seenContactor ∧ v.switch.seenGoverning = s.switch.seenGoverning
  tamper : v.tamper =
    if released s v && s.switch.fault then
      { s.tamper with records := s.tamper.records.set kindSwitch (goneAt s.clock.time s.tamper.records[kindSwitch]) }
    else s.tamper

/-- The ARMED row with nothing acting, from OPEN and from ARMED. -/
theorem armed_acted {b : State} (hc : s.switch.contactor = .opened ∨ s.switch.contactor = .armed)
    (he : actingSet s = Reasons.empty) (hb : b.switch = { (formSets s).switch with contactor := .armed })
    (hp : driven b = driven s) (hset : b.settings = s.settings) (ht : b.tamper = s.tamper) : Acted s (actArmed b) := by
  have hpermit : autoClosePermitted b = autoClosePermitted s := by
    simp [autoClosePermitted, hb, hset, formSets_switch, he, union_empty]
  have hafter : contactorAfter s s = if autoClosePermitted s then .closing else .armed := by
    rcases hc with hc | hc <;> simp [contactorAfter, hc, he]
  unfold actArmed
  rw [hpermit]
  split_ifs with hauto
  · have hnew : s.switch.contactor ≠ .closing := by rcases hc with hc | hc <;> simp [hc]
    have hstuck : s.switch.contactor ≠ .stuck := by rcases hc with hc | hc <;> simp [hc]
    cases hd : driven s <;>
      constructor <;> simp [enterClosing_switch, hp, hd, hb, formSets_switch, begins, released, hafter, hauto, Ne.symm hnew,
        hstuck, ht]
  · have hstuck : s.switch.contactor ≠ .stuck := by rcases hc with hc | hc <;> simp [hc]
    constructor <;> simp [hb, formSets_switch, begins, released, hafter, hauto, hstuck, ht]

/-- A gone report leaves its record as `goneAt` has it. -/
theorem reportGone_tamper (k : Fin 10) (s : State) :
    (reportGone k s).tamper = { s.tamper with records := s.tamper.records.set k (goneAt s.clock.time s.tamper.records[k]) } := by
  unfold reportGone goneAt
  dsimp only
  split_ifs with h
  · rfl
  · simp

theorem dropFault_switch (s : State) : (dropFault s).switch = { s.switch with fault := false } := by
  unfold dropFault
  split_ifs with h
  · simp [setFault]
  · cases s with | mk => cases ‹Switch›; simp_all

theorem dropFault_tamper (s : State) : (dropFault s).tamper =
    if s.switch.fault then
      { s.tamper with records := s.tamper.records.set kindSwitch (goneAt s.clock.time s.tamper.records[kindSwitch]) }
    else s.tamper := by
  unfold dropFault
  split_ifs
  · rw [reportGone_tamper]
    rfl
  · rfl

theorem act_acted (s : State) : Acted s (actOnContactor (formSets s)) := by
  have hform := formSets_switch s
  have hact : actOnContactor (formSets s) =
    match s.switch.contactor with
    | .closed => if (actingSet s).isEmpty then formSets s else enterOpening (formSets s)
    | .opened => if (actingSet s).isEmpty then actArmed (setContactor .armed (formSets s)) else formSets s
    | .armed => if (actingSet s).isEmpty then actArmed (formSets s) else setContactor .opened (formSets s)
    | .stuck => if stuckReleases (formSets s) then stuckToClosed (formSets s) else formSets s
    | .opening => formSets s
    | .closing => formSets s := rfl
  rw [hact]
  cases hc : s.switch.contactor with
  | opening =>
    simp only []
    constructor <;> simp [hform, begins, released, contactorAfter, hc]
  | closing =>
    simp only []
    constructor <;> simp [hform, begins, released, contactorAfter, hc]
  | closed =>
    simp only []
    split_ifs with he
    · rw [isEmpty_iff] at he
      constructor <;> simp [hform, begins, released, contactorAfter, hc, he]
    · rw [isEmpty_iff] at he
      have hd : driven (formSets s) = driven s := rfl
      cases hdriven : driven s <;>
        constructor <;> simp [hform, enterOpening_switch, hd, hdriven, begins, released, contactorAfter, hc, he]
  | opened =>
    simp only []
    split_ifs with he
    · exact armed_acted (.inl hc) ((isEmpty_iff _).mp he) rfl rfl rfl rfl
    · rw [isEmpty_iff] at he
      constructor <;> simp [hform, begins, released, contactorAfter, hc, he]
  | armed =>
    simp only []
    split_ifs with he
    · exact armed_acted (.inr hc) ((isEmpty_iff _).mp he) (by rw [hform, ← hc]) rfl rfl rfl
    · rw [isEmpty_iff] at he
      constructor <;> simp [hform, setContactor, onSwitch, begins, released, contactorAfter, hc, he]
  | stuck =>
    simp only []
    have hrel : stuckReleases (formSets s) = ((actingSet s).isEmpty && s.switch.attempt = .idle && closeCondition s) := rfl
    rw [hrel]
    split_ifs with he
    · simp only [Bool.and_eq_true, isEmpty_iff, decide_eq_true_eq] at he
      obtain ⟨⟨hacting, hidle⟩, hclose⟩ := he
      constructor <;> simp [stuckToClosed, dropFault_switch, dropFault_tamper, commandPosition, enterClosed, onSwitch,
        begins, released, contactorAfter, hc, hacting, hidle,
        hclose, formSets]
    · simp only [Bool.and_eq_true, isEmpty_iff, decide_eq_true_eq] at he
      constructor <;> simp [hform, begins, released, contactorAfter, hc] 
      exact fun ha hi => by simpa [ha, hi] using he

/-- What the sets are formed of stands as it was behind an evaluation, and so do they. -/
theorem evaluate_sets (s : State) : holdLevel (evaluate s) = holdLevel s ∧ actingSet (evaluate s) = actingSet s ∧
    heldSet (evaluate s) = heldSet s ∧ governingReason (evaluate s) = governingReason s :=
  sets_congr (by simp) (by simp) (by simp) (by simp)

/-- One evaluation is what the statements take it to be (R137). -/
theorem evaluate_evaluated (s : State) : Evaluated s (evaluate s) := by
  have hv := act_acted s
  have hswitch : (evaluate s).switch = _ := markSwitch_switch (actOnContactor (formSets s))
  have hcontactor : (evaluate s).switch.contactor = (actOnContactor (formSets s)).switch.contactor := by rw [hswitch]
  have htamper : (evaluate s).tamper = (actOnContactor (formSets s)).tamper := by simp [evaluate]
  obtain ⟨hhold, hacting, hheld, hgoverning⟩ := evaluate_sets s
  have hafter : contactorAfter s (evaluate s) = contactorAfter s s := by
    have hclose : closeCondition (evaluate s) = closeCondition s := by simp [closeCondition]
    unfold contactorAfter
    cases s.switch.contactor <;> simp [hacting, hclose]
  have hbegins : begins s (evaluate s) = begins s (actOnContactor (formSets s)) := by simp only [begins, hcontactor]
  have hreleased : released s (evaluate s) = released s (actOnContactor (formSets s)) := by
    simp only [released, hcontactor]
  constructor
  case inputs => simp
  case hold => rw [hhold, hswitch, ← hv.sets.1]
  case acting => rw [hacting, hswitch, ← hv.sets.2.1]
  case held => rw [hheld, hswitch, ← hv.sets.2.2.1]
  case governing => rw [hgoverning, hswitch, ← hv.sets.2.2.2]
  case contactor => rw [hafter, hcontactor, hv.contactor]
  case pulse => rw [hbegins, hswitch]; exact hv.pulse
  case deferred => rw [hbegins, hswitch]; exact hv.deferred
  case still => rw [hbegins, hswitch]; exact hv.still
  case kept => rw [hbegins, hreleased, hacting, hswitch]; exact hv.kept
  case fault => rw [hreleased, hswitch]; exact hv.fault
  case cleanRun => rw [hreleased, hswitch]; exact hv.cleanRun
  case timers => rw [hswitch]; exact hv.timers
  case seen => rw [hswitch]; exact ⟨rfl, rfl⟩
  case told =>
    intro h
    refine .inl (markSwitch_due ?_)
    rw [hswitch] at h
    rwa [hv.seen.1, hv.seen.2]
  case tamper =>
    have hclock : (evaluate s).clock = s.clock := by simp
    rw [hreleased, htamper, hclock]
    exact hv.tamper

end Sys2Proof.Proofs
end

section
/-! SUPPORT. O11: the acting set and the contactor over every command; what the levels and conditions are. -/

namespace Sys2Proof.Proofs
open Sys2Proof.Machine Sys2Proof.Safety

/-- The acting set is current while reasons are handed, and none acts against CLOSED or ARMED (R137). -/
def Settled (s : State) : Prop := SwitchSettled s

/-- The acting set is current, handed or not, and none acts against CLOSED or ARMED: what an evaluation leaves (R137). -/
structure SettledNow (s : State) : Prop where
  current : s.switch.acting = actingSet s
  closed : s.switch.contactor = .closed → s.switch.acting = Reasons.empty
  armed : s.switch.contactor = .armed → s.switch.acting = Reasons.empty

variable {s t : State}

theorem handing_congr (hp : t.supply.power = s.supply.power) (hn : t.supply.startStep = s.supply.startStep) :
    handing t = handing s := by simp only [handing, hp, hn]

theorem SettledNow.settled (h : SettledNow s) : Settled s := ⟨fun _ => h.current, h.closed, h.armed⟩

/-- An evaluation leaves CLOSED or ARMED only where nothing acts. -/
theorem evaluate_settledNow (s : State) : SettledNow (evaluate s) := by
  have h := evaluate_evaluated s
  have hquiet (hc : contactorAfter s (evaluate s) = .closed ∨ contactorAfter s (evaluate s) = .armed) :
      (evaluate s).switch.acting = Reasons.empty := by
    rw [h.acting]
    by_contra he
    unfold contactorAfter at hc
    cases hs : s.switch.contactor <;> simp [hs, he] at hc
  exact ⟨h.acting, fun hc => hquiet (.inl (h.contactor ▸ hc)), fun hc => hquiet (.inr (h.contactor ▸ hc))⟩

theorem evaluate_settled (s : State) : Settled (evaluate s) := (evaluate_settledNow s).settled

/-- What `Settled` looks at is unchanged. -/
theorem Settled.same (h : Settled s) (e : t.supply.power = s.supply.power ∧ t.supply.startStep = s.supply.startStep ∧
    t.settings = s.settings ∧ t.switch.reasons = s.switch.reasons ∧ t.switch.friendly = s.switch.friendly ∧
    t.switch.windowHold = s.switch.windowHold ∧ t.switch.acting = s.switch.acting ∧
    t.switch.contactor = s.switch.contactor) : Settled t := by
  obtain ⟨hp, hn, hset, hr, hf, hw, ha, hc⟩ := e
  obtain ⟨-, hacting, -⟩ := sets_congr hr hf hw hset
  exact ⟨fun hh => by rw [ha, hacting]; exact h.current (handing_congr hp hn ▸ hh),
    fun hclosed => ha ▸ h.closed (hc ▸ hclosed), fun harmed => ha ▸ h.armed (hc ▸ harmed)⟩

/-- The contactor has moved to a state in which a reason may act. -/
theorem Settled.moved (h : Settled s) (e : t.supply.power = s.supply.power ∧ t.supply.startStep = s.supply.startStep ∧
    t.settings = s.settings ∧ t.switch.reasons = s.switch.reasons ∧ t.switch.friendly = s.switch.friendly ∧
    t.switch.windowHold = s.switch.windowHold ∧ t.switch.acting = s.switch.acting)
    (hc : t.switch.contactor ≠ .closed) (ha : t.switch.contactor ≠ .armed) : Settled t := by
  obtain ⟨hp, hn, hset, hr, hf, hw, hacts⟩ := e
  obtain ⟨-, hacting, -⟩ := sets_congr hr hf hw hset
  exact ⟨fun hh => by rw [hacts, hacting]; exact h.current (handing_congr hp hn ▸ hh),
    fun hclosed => (hc hclosed).elim, fun harmed => (ha harmed).elim⟩

/-- The contactor has moved where nothing acts. -/
theorem Settled.quiet (h : Settled s) (e : t.supply.power = s.supply.power ∧ t.supply.startStep = s.supply.startStep ∧
    t.settings = s.settings ∧ t.switch.reasons = s.switch.reasons ∧ t.switch.friendly = s.switch.friendly ∧
    t.switch.windowHold = s.switch.windowHold ∧ t.switch.acting = s.switch.acting)
    (hq : s.switch.acting = Reasons.empty) : Settled t := by
  obtain ⟨hp, hn, hset, hr, hf, hw, hacts⟩ := e
  obtain ⟨-, hacting, -⟩ := sets_congr hr hf hw hset
  exact ⟨fun hh => by rw [hacts, hacting]; exact h.current (handing_congr hp hn ▸ hh),
    fun _ => hacts ▸ hq, fun _ => hacts ▸ hq⟩

/-- Where no reason is handed, the contactor alone is looked at. -/
theorem settled_of_silent (h : handing s = false) (hc : s.switch.contactor = .closed → s.switch.acting = Reasons.empty)
    (ha : s.switch.contactor = .armed → s.switch.acting = Reasons.empty) : Settled s :=
  ⟨fun hh => absurd hh (by simp [h]), hc, ha⟩

/-- The power state has moved while reasons are handed. -/
theorem Settled.powered (h : Settled s) (hh : handing s = true) (e : t.settings = s.settings ∧
    t.switch.reasons = s.switch.reasons ∧ t.switch.friendly = s.switch.friendly ∧
    t.switch.windowHold = s.switch.windowHold ∧ t.switch.acting = s.switch.acting ∧
    t.switch.contactor = s.switch.contactor) : Settled t := by
  obtain ⟨hset, hr, hf, hw, ha, hc⟩ := e
  obtain ⟨-, hacting, -⟩ := sets_congr hr hf hw hset
  exact ⟨fun _ => by rw [ha, hacting]; exact h.current hh,
    fun hclosed => ha ▸ h.closed (hc ▸ hclosed), fun harmed => ha ▸ h.armed (hc ▸ harmed)⟩

theorem enterOpening_contactor (s : State) : (enterOpening s).switch.contactor = .opening := by
  rw [enterOpening_switch]
  split_ifs <;> rfl

theorem enterClosing_contactor (s : State) : (enterClosing s).switch.contactor = .closing := by
  rw [enterClosing_switch]
  split_ifs <;> rfl

/-! ## Arrivals -/

theorem Settled.handReason (h : Settled s) (r : Governing) (on : Bool) : Settled (handReason r on s) := by
  unfold Machine.handReason
  split_ifs
  · exact h
  · exact evaluate_settled _

theorem Settled.deriveCredit (h : Settled s) : Settled (deriveCredit s) := by
  have hquiet : Settled (deriveQuietly s) := h.same (by simp)
  have hmarked : Settled (markDue attnCredit (deriveQuietly s)) := hquiet.same (by simp)
  unfold Machine.deriveCredit
  dsimp only
  split_ifs
  · exact hquiet.handReason _ _
  · exact hmarked.handReason _ _
  · exact hquiet
  · exact hmarked

theorem Settled.setAccount (h : Settled s) (a : Account) : Settled (setAccount a s) := h.same (by simp)

theorem Settled.deriveTamper (h : Settled s) : Settled (deriveTamper s) := by
  have hreason : Settled (onTamper (fun x => { x with reason := tamperReasonOf s.tamper.records }) s) := h.same (by simp)
  unfold Machine.deriveTamper
  dsimp only
  split_ifs
  · exact h
  · exact hreason.handReason _ _
  · exact hreason

theorem Settled.enteredActive (h : Settled s) : Settled (enteredActive s) :=
  Settled.deriveTamper (h.same (t := requestWrite (markDue attnTamper s)) (by simp))

theorem Settled.reportPresent (h : Settled s) (k : Fin 10) : Settled (reportPresent k s) := by
  unfold Machine.reportPresent
  dsimp only
  split_ifs
  · exact h
  · exact Settled.enteredActive (h.same (by simp))

theorem Settled.reportGone (h : Settled s) (k : Fin 10) : Settled (reportGone k s) := h.same (by simp)

theorem Settled.report (h : Settled s) (k : Fin 10) (present : Bool) : Settled (report k present s) := by
  unfold Machine.report
  split_ifs
  · exact h.reportPresent k
  · exact h.reportGone k

theorem Settled.reportBoth (h : Settled s) (k : Fin 10) : Settled (reportBoth k s) := (h.reportPresent k).reportGone k

theorem Settled.qualifiedChange (h : Settled s) (i : SenseInput) (active : Bool) : Settled (qualifiedChange i active s) := by
  unfold Machine.qualifiedChange
  split_ifs
  · exact h.reportBoth _
  · exact h
  · exact h.report _ _

theorem Settled.sampleInput (h : Settled s) (i : SenseInput) (high : Bool) : Settled (sampleInput i high s) := by
  unfold Machine.sampleInput
  dsimp only
  split_ifs
  · exact h.same (by simp)
  · exact Settled.qualifiedChange (h.same (by simp)) _ _
  · exact h.same (by simp)

theorem Settled.evaluateFriendly (h : Settled s) : Settled (evaluateFriendly s) := by
  unfold Machine.evaluateFriendly
  split_ifs
  · exact evaluate_settled _
  · exact h

theorem endWindow_settled (c : EndCause) (s : State) : Settled (endWindow c s) := evaluate_settled _

theorem Settled.requestWrite (h : Settled s) : Settled (requestWrite s) := h.same (by simp)

theorem Settled.completeEntry (h : Settled s) (r : Result) : Settled (completeEntry r s) := h.same (by simp)

theorem Settled.awaitWrite (h : Settled s) (r : Result) : Settled (awaitWrite r s) := h.same (by simp)

theorem Settled.acceptToken (h : Settled s) (d : Decoded) (fields : List Byte) : Settled (acceptToken d fields s) :=
  h.same (by simp)

theorem Settled.chargedUpTo (h : Settled s) (date : Nat) : Settled (chargedUpTo date s) := h.same (by simp)

theorem Settled.onAgenda (h : Settled s) (f : List Due → List Due) : Settled (onAgenda f s) := h.same (by simp)

theorem Settled.onMeter (h : Settled s) (f : Meter → Meter) : Settled (onMeter f s) := h.same (by simp)

theorem Settled.markDue (h : Settled s) (b : BitVec 6) : Settled (markDue b s) := h.same (by simp)

theorem Settled.markSwitch (h : Settled s) : Settled (markSwitch s) := h.same (by simp)

/-! ## Day ends -/

theorem Settled.issueDayEnd (h : Settled s) : Settled (issueDayEnd s) := by
  have hcredit : Settled (creditDayEnd (onBook (fun x => { x with lastCharged := x.lastCharged.map (· + 1) }) s)) :=
    Settled.deriveCredit (h.same (by simp))
  exact hcredit.same (by simp [Machine.issueDayEnd])

theorem Settled.dayEnds (h : Settled s) (n : Nat) : Settled (dayEnds n s) := by
  induction n generalizing s with
  | zero => exact h
  | succ n ih => exact ih h.issueDayEnd

theorem Settled.issueDays (h : Settled s) (most : Nat) : Settled (issueDays most s) := by
  unfold Machine.issueDays
  dsimp only
  split_ifs
  · exact Settled.chargedUpTo (h.dayEnds _) _
  · exact h.dayEnds _

theorem Settled.catchUpGoesOn (h : Settled s) : Settled (catchUpGoesOn s) := Settled.issueDays (h.same (by simp)) _

theorem Settled.catchUpWhole (h : Settled s) : Settled (catchUpWhole s) := by
  unfold Machine.catchUpWhole
  split_ifs
  · exact h
  · exact Settled.issueDays (h.same (by simp [newCatchUp])) _

theorem Settled.catchUp (h : Settled s) : Settled (catchUp s) := by
  have hfirst : Settled (Machine.issueDays 1 (newCatchUp s)) := Settled.issueDays (h.same (by simp [newCatchUp])) 1
  unfold Machine.catchUp
  dsimp only
  split_ifs
  · exact h
  · exact h.catchUpWhole
  · exact hfirst
  · exact hfirst.catchUpGoesOn

theorem Settled.catchUpThen (h : Settled s) {behind : State → State} (hb : ∀ s, Settled s → Settled (behind s))
    (later : List Due) : Settled (catchUpThen later behind s) := by
  rcases catchUpThen_cases later behind s with e | ⟨-, -, e⟩ <;> rw [e]
  · exact hb _ h.catchUp
  · exact h.catchUp.same (by simp)

theorem Settled.setOrCatchUp (h : Settled s) : Settled (setOrCatchUp s) := by
  unfold Machine.setOrCatchUp
  split
  · split_ifs
    · exact h.same (by simp)
    · exact h
  · exact h.catchUpWhole

/-! ## Entries -/

theorem decideReconnect_settled (s : State) : Settled (decideReconnect s) := by
  refine Settled.completeEntry ?_ _
  have heval := evaluate_settled (reconnectClears s)
  unfold reconnectCloses
  split_ifs
  · exact (heval.moved (t := enterClosing (evaluate (reconnectClears s))) (by simp) (by simp [enterClosing_contactor])
      (by simp [enterClosing_contactor])).markSwitch
  · exact heval

theorem Settled.decideEmergency (h : Settled s) : Settled (decideEmergency s) := by
  unfold Machine.decideEmergency
  dsimp only
  split_ifs
  · exact ((h.setAccount _).deriveCredit).completeEntry _
  · exact h.completeEntry _

theorem Settled.decideFlagClear (h : Settled s) (w : Work) : Settled (decideFlagClear w s) := by
  unfold Machine.decideFlagClear
  dsimp only
  split_ifs
  · exact h.completeEntry _
  · exact (h.setAccount _).completeEntry _

theorem Settled.decideTimeSet (h : Settled s) (w : Work) : Settled (decideTimeSet w s) := by
  unfold Machine.decideTimeSet
  dsimp only
  split_ifs
  · have htime : Settled (setTime (w.field 4 4) s) := h.same (by simp)
    exact htime.setOrCatchUp.evaluateFriendly.completeEntry _
  · exact h.completeEntry _

theorem Settled.refuseBadCode (h : Settled s) (r : Result) : Settled (refuseBadCode r s) := h.same (by simp)

theorem Settled.decideDiscard (h : Settled s) (w : Work) : Settled (decideDiscard w s) := by
  unfold Machine.decideDiscard
  split_ifs
  · exact h.completeEntry _
  · exact (endWindow_settled _ _).completeEntry _

theorem Settled.decideCommit (h : Settled s) (w : Work) : Settled (decideCommit w s) := by
  have hcommit : Settled (beginCommit (s.window.staged.getD s.settings) s) := evaluate_settled _
  unfold Machine.decideCommit
  split_ifs
  · exact h.completeEntry _
  · exact hcommit.same (by simp)

theorem Settled.applySubmit (h : Settled s) : Settled (applySubmit s) := by
  unfold Machine.applySubmit
  split
  · exact h.completeEntry _
  · exact h.same (by simp)

/-! ## Tokens -/

theorem Settled.applyCredit (h : Settled s) (d : Decoded) : Settled (applyCredit d s) := by
  unfold Machine.applyCredit topup
  dsimp only
  split_ifs
  · exact h.completeEntry _
  · exact h.completeEntry _
  · exact ((h.setAccount _).deriveCredit).acceptToken _ _

theorem Settled.applyDebtAdd (h : Settled s) (d : Decoded) : Settled (applyDebtAdd d s) := by
  unfold Machine.applyDebtAdd
  dsimp only
  split_ifs
  · exact h.completeEntry _
  · exact ((h.setAccount _).deriveCredit).acceptToken _ _

theorem Settled.applyClear (h : Settled s) (d : Decoded) : Settled (applyClear d s) := by
  unfold Machine.applyClear
  split_ifs
  · exact h.completeEntry _
  · exact ((h.setAccount _).deriveCredit).acceptToken _ _

theorem Settled.applySetting (h : Settled s) (d : Decoded) : Settled (applySetting d s) := h.same (by simp)

theorem Settled.applyWindowOpen (h : Settled s) (d : Decoded) : Settled (applyWindowOpen d s) := by
  unfold Machine.applyWindowOpen
  split_ifs
  · exact h.completeEntry _
  · exact h.completeEntry _
  · exact (evaluate_settled _).acceptToken _ _

theorem Settled.applyTamperClear (h : Settled s) (d : Decoded) : Settled (applyTamperClear d s) := by
  have hcleared : Settled (tamperClearArrives d.plain.payload s) := Settled.deriveTamper (h.same (by simp))
  unfold Machine.applyTamperClear
  split_ifs
  · exact h.completeEntry _
  · exact hcleared.acceptToken _ _

theorem Settled.applyKeyChange (h : Settled s) (d : Decoded) : Settled (applyKeyChange d s) := h.same (by simp)

theorem Settled.applyRemote (h : Settled s) (on : Bool) (d : Decoded) : Settled (applyRemote on d s) := by
  unfold Machine.applyRemote
  split_ifs
  · exact h.completeEntry _
  · exact h.acceptToken _ _
  · exact Settled.acceptToken (Settled.handReason (h.same (by simp)) _ _) _ _

theorem Settled.applyTest (h : Settled s) (d : Decoded) : Settled (applyTest d s) := h.same (by simp)

/-! ## Metering -/

theorem Settled.activateDue (h : Settled s) : Settled (activateDue s) := by
  unfold Machine.activateDue
  split
  · exact h
  · split_ifs
    · exact ((Settled.requestWrite (h.same (by simp))).catchUpThen (fun _ h => h.evaluateFriendly) _).markDue _
    · exact h

theorem Settled.billInterval (h : Settled s) (imported exported ms : Nat) :
    Settled (billInterval imported exported ms s) := by
  have hdue := h.activateDue
  exact Settled.deriveCredit (hdue.same (by simp [registerEnergy]))

theorem Settled.markSaturation (h : Settled s) (e : Phases Int) : Settled (markSaturation e s) := h.same (by simp)

theorem Settled.closeInterval (h : Settled s) (m : Measurement) : Settled (closeInterval m s) := by
  unfold Machine.closeInterval
  dsimp only
  split_ifs
  · have htaken : Settled (sampleVbat m.vbat (takeResults m (Machine.markSaturation m.energy s))) :=
      (h.markSaturation m.energy).same (by simp [sampleVbat, takeResults])
    exact (htaken.billInterval _ _ _).onAgenda _
  · exact h

theorem Settled.closePartial (h : Settled s) (p : PartMeasurement) : Settled (closePartial p s) := by
  unfold Machine.closePartial
  dsimp only
  split_ifs
  · exact (h.billInterval _ _ _).onMeter _
  · exact ((h.markSaturation _).billInterval _ _ _).onMeter _

/-! ## The contactor -/

theorem Settled.raiseFault (h : Settled s) : Settled (raiseFault s) := by
  unfold Machine.raiseFault
  split_ifs
  · exact h
  · exact Settled.reportPresent (h.same (by simp [setFault])) _

theorem Settled.dropFault (h : Settled s) : Settled (dropFault s) := h.same (by simp)

/-- STUCK is entered with its fault reported. -/
theorem Settled.entersStuck (h : Settled s) : Settled (Machine.raiseFault (setStuckTimer 60 (setContactor .stuck s))) :=
  Settled.raiseFault (h.moved (by simp [setContactor]) (by simp [setContactor]) (by simp [setContactor]))

theorem Settled.closeConfirmed (h : Settled s) : Settled (closeConfirmed s) := by
  unfold Machine.closeConfirmed
  dsimp only
  split_ifs with he
  · have hclosed : Settled (enterClosed (commandPosition true (endAttempt s))) :=
      h.quiet (by simp [commandPosition]) (by simpa [isEmpty_iff, commandPosition] using he)
    exact hclosed.dropFault.markSwitch
  · have hopening : Settled (enterOpening (commandPosition true (endAttempt s))) :=
      h.moved (by simp [commandPosition]) (by simp [enterOpening_contactor]) (by simp [enterOpening_contactor])
    exact hopening.dropFault.markSwitch

theorem Settled.judgeAttempt (h : Settled s) : Settled (judgeAttempt s) := by
  have hended : Settled (endAttempt s) := h.same (by simp)
  unfold Machine.judgeAttempt
  split
  · next w _ =>
    cases w
    · dsimp only
      split_ifs
      · exact evaluate_settled _
      · exact evaluate_settled _
      · exact h.same (by simp [beginPulse])
      · exact hended.entersStuck.markSwitch
    · dsimp only
      split_ifs
      · exact evaluate_settled _
      · exact h.closeConfirmed
      · exact evaluate_settled _
      · exact h.same (by simp [beginPulse])
      · exact evaluate_settled _
  · exact h

theorem Settled.weldArrives (h : Settled s) : Settled (weldArrives s) := by
  have hmeter := h.onMeter fun x => { x with weld := 0 }
  unfold Machine.weldArrives
  dsimp only
  split_ifs
  · exact hmeter.entersStuck.markSwitch
  · exact hmeter

theorem Settled.testStuck (h : Settled s) : Settled (testStuck s) := by
  unfold Machine.testStuck
  split_ifs with hs
  · simp only [stuckReleases, Bool.and_eq_true, isEmpty_iff] at hs
    have hclosed : Settled (stuckToClosed s) := h.quiet (by simp) hs.2.1.1
    exact hclosed.markSwitch
  · exact h

theorem Settled.retryExpires (h : Settled s) : Settled (retryExpires s) := by
  unfold Machine.retryExpires
  split_ifs
  · exact h.handReason _ _
  · exact evaluate_settled _

theorem Settled.tripLimiter (h : Settled s) : Settled (tripLimiter s) :=
  Settled.handReason (h.same (t := countTrip s.settings.loadRetryDelay s) (by simp)) _ _

/-! ## The supply -/

theorem Settled.completeWrite (h : Settled s) : Settled (completeWrite s) := by
  unfold Machine.completeWrite
  split
  · exact h
  · next w _ =>
    have hstore : Settled (storeWrite w s) := h.same (by simp)
    have htold : Settled (tellWork (storeWrite w s)) := by
      unfold tellWork
      split
      · exact hstore
      · split
        · split_ifs
          · exact (endWindow_settled _ _).completeEntry _
          · exact hstore.completeEntry _
        · exact hstore
    exact Settled.same (s := tellWork (storeWrite w s)) htold (by simp)

theorem Settled.holdupWindow (h : Settled s) : Settled (holdupWindow s) := by
  unfold Machine.holdupWindow
  split_ifs
  · exact endWindow_settled _ _
  · exact h

theorem Settled.enterHoldup (h : Settled s) (hp : s.supply.power = .mains) (reset : Bool) (p : PartMeasurement) :
    Settled (enterHoldup reset p s) := by
  have hdrop : Settled (abandonWork (holdupSwitch (raiseNow attnSupply (dropPower reset s)))) :=
    h.powered (by simp [handing, hp]) (by simp)
  have hclosed : Settled (passLockout (Machine.closePartial p
      (abandonWork (holdupSwitch (raiseNow attnSupply (dropPower reset s)))))) := (hdrop.closePartial p).same (by simp)
  exact hclosed.holdupWindow.same (by simp [Machine.enterHoldup, markResetWrite])

theorem Settled.vsFalls (h : Settled s) (p : PartMeasurement) : Settled (vsFalls p s) := by
  unfold Machine.vsFalls
  split
  · next hp => exact Settled.enterHoldup (h.same (by simp)) (by simpa using hp) _ _
  · exact h.same (by simp)
  · exact h.same (by simp)
  · exact h

theorem Settled.resetLow (h : Settled s) (p : PartMeasurement) : Settled (resetLow p s) := by
  unfold Machine.resetLow
  split
  · next hp => exact h.enterHoldup hp _ _
  · split_ifs
    · exact h
    · exact h.same (by simp)
  · exact h.same (by simp)
  · exact h

theorem Settled.openIntake (h : Settled s) : Settled (openIntake s) := h.same (by simp)

theorem Settled.vsRises (h : Settled s) : Settled (vsRises s) := by
  unfold Machine.vsRises
  split
  · next hp =>
    dsimp only
    split_ifs
    · exact h.same (by simp)
    · have hmains : Settled (resumeSwitch (beginInterval (raiseNow attnSupply (setMains (setVsLow false s))))) :=
        h.powered (by simp [handing, hp]) (by simp)
      exact (hmains.catchUpThen (fun _ h => h) _).openIntake
  · exact h.same (by simp)
  · exact h
  · exact h

/-- A part that is powered up or down hands no reasons yet, and its contactor stands OPEN. -/
theorem settled_of_powered (hh : handing s = false) (hs : s.switch = Switch.cleared) : Settled s :=
  settled_of_silent hh (by simp [hs, Switch.cleared]) (by simp [hs, Switch.cleared])

theorem Settled.vsFails (h : Settled s) (b : BatteryInputs) : Settled (vsFails b s) := by
  have hbattery : Settled (enterBattery b s) := settled_of_powered rfl rfl
  unfold Machine.vsFails
  split
  · exact hbattery
  · exact hbattery
  · exact h
  · exact h

/-! ## A start -/

theorem Settled.reportFailed (h : Settled s) (fs : List Bool) : Settled (reportFailed fs s) := by
  induction fs generalizing s with
  | nil => exact h
  | cons b fs ih =>
    cases b
    · exact ih h
    · exact ih (h.reportBoth _)

theorem restoreStep_settled (hp : s.supply.power = .start) : Settled (restoreStep s) := by
  have hnoted : Settled (noteRestore (decide (s.supply.cause = .powerOn))
      (takeSections (restoredSections s.store.image (decide (s.supply.cause = .powerOn))) s)) := by
    refine settled_of_silent ?_ ?_ ?_
    · simp [handing, noteRestore, takeSections, deriveQuietly, onCredit, onStore, onSupply, hp]
    · simp [noteRestore, takeSections, deriveQuietly, startSwitch, Switch.cleared]
    · simp [noteRestore, takeSections, deriveQuietly, startSwitch, Switch.cleared]
  exact (hnoted.reportFailed _).deriveTamper

theorem Settled.mergeWatch (h : Settled s) (i : SenseInput) (b : BatteryWatch) (high : Bool) :
    Settled (mergeWatch i b high s) := by
  unfold Machine.mergeWatch
  dsimp only
  split_ifs
  · exact h
  · exact h.same (by simp)
  · exact Settled.enteredActive (h.same (by simp))

theorem Settled.inputStartReport (h : Settled s) (i : SenseInput) : Settled (inputStartReport i s) := by
  unfold Machine.inputStartReport
  dsimp only
  split_ifs
  · exact h.reportBoth _
  · exact h
  · exact h.report _ _

theorem Settled.onBattery (h : Settled s) (f : Battery → Battery) : Settled (onBattery f s) := h.same (by simp)

theorem Settled.setupInput (h : Settled s) (i : SenseInput) (high : Bool) : Settled (setupInput i high s) :=
  h.same (by simp)

theorem Settled.refreshActions (h : Settled s) : Settled (refreshActions s) := h.same (by simp)

theorem Settled.settleInputs (h : Settled s) : Settled (settleInputs s) := by
  have hmerged := (h.mergeWatch .caseIn s.battery.caseIn s.pins.sense.caseHigh).mergeWatch .coverIn s.battery.coverIn
    s.pins.sense.coverHigh
  exact (((((((hmerged.onBattery _).setupInput .caseIn _).setupInput .coverIn _).setupInput .magIn _).inputStartReport
    .caseIn).inputStartReport .coverIn).inputStartReport .magIn).refreshActions.deriveTamper

theorem Settled.clockReports (h : Settled s) : Settled (clockReports s) := by
  have hclear {t : State} (ht : Settled t) : Settled (clearCrystalMark t) := ht.same (by simp [clearCrystalMark])
  unfold Machine.clockReports
  dsimp only
  split_ifs
  · exact (hclear h).reportGone _
  · exact (hclear (h.reportBoth _)).reportGone _
  · exact (hclear h).reportGone _
  · exact hclear (h.reportPresent _)
  · exact hclear (h.reportPresent _)
  · exact hclear h

/-- A further step of a start before the hand-offs hands no reason. -/
theorem Settled.stepped (h : Settled s) (hp : s.supply.power = .start) {n : Nat} (hn : n < 4) : Settled (setStartStep n s) :=
  settled_of_silent (by simp [handing, setStartStep, onSupply, hp, hn]) h.closed h.armed

theorem contactorStep_settled (s : State) : Settled (contactorStep s) := by
  have heval := evaluate_settledNow (takeHandOffs (friendlyState s) (findContactor s).tamper.reason
    (findContactor s).decoder.remoteOrder (findContactor s).credit.reason (findContactor s))
  have hstep : SettledNow (setStartStep 4 (handAtStart (friendlyState s) (findContactor s))) :=
    ⟨heval.current, heval.closed, heval.armed⟩
  exact hstep.settled.same (by simp [contactorStep])

theorem nextStep_settled (h : Settled s) (hp : s.supply.power = .start) : Settled (nextStep s) := by
  unfold nextStep
  split
  · exact restoreStep_settled hp
  · exact (h.settleInputs.clockReports.report kindKeypad _).stepped (by simpa using hp) (by norm_num)
  · exact h.setOrCatchUp.stepped (by simpa using hp) (by norm_num)
  · exact contactorStep_settled s
  · next hn =>
    exact h.powered (by simp [handing, hp, hn]) (by simp [pagesStep, putPages, clearExchange, endFrame])
  · exact h

/-- Each step of a start leaves the power state, and is counted (R185). -/
theorem nextStep_supply (s : State) : (nextStep s).supply.power = s.supply.power ∧
    (nextStep s).supply.startStep = if s.supply.startStep < 5 then s.supply.startStep + 1 else s.supply.startStep := by
  have hfailed (fs : List Bool) (s : State) : (reportFailed fs s).supply.power = s.supply.power ∧
      (reportFailed fs s).supply.startStep = s.supply.startStep := by
    induction fs generalizing s with
    | nil => exact ⟨rfl, rfl⟩
    | cons b fs ih => cases b <;> simp [reportFailed, ih]
  unfold nextStep
  split
  · next hn => simp [restoreStep, hfailed, hn, takeSections, deriveQuietly, noteRestore]
  · next hn => simp [batteryStep, hn]
  · next hn => simp [daysStep, hn]
  · next hn => simp [contactorStep, hn]
  · next hn => simp [pagesStep, putPages, clearExchange, endFrame, hn]
  · next h0 h1 h2 h3 h4 =>
    have hlow : ¬s.supply.startStep < 5 := fun hlt => by
      interval_cases hn : s.supply.startStep <;> simp_all
    simp [hlow]

theorem runSteps_supply (n : Nat) (s : State) : (runSteps n s).supply.power = s.supply.power ∧
    (runSteps n s).supply.startStep = max s.supply.startStep (min 5 (s.supply.startStep + n)) := by
  induction n generalizing s with
  | zero => simp [runSteps]
  | succ n ih =>
    obtain ⟨hp, hn⟩ := nextStep_supply s
    obtain ⟨ihp, ihn⟩ := ih (nextStep s)
    refine ⟨ihp.trans hp, ?_⟩
    rw [runSteps, ihn, hn]
    split_ifs <;> omega

/-- Behind the five steps of a start the blocks hand their reasons. -/
theorem runSteps_handing (hp : s.supply.power = .start) : handing (runSteps (5 - s.supply.startStep) s) = true := by
  obtain ⟨hpower, hstep⟩ := runSteps_supply (5 - s.supply.startStep) s
  simp only [handing, hpower, hp, hstep, decide_eq_true_eq]
  omega

theorem runSteps_settled (h : Settled s) (hp : s.supply.power = .start) (n : Nat) : Settled (runSteps n s) := by
  induction n generalizing s with
  | zero => exact h
  | succ n ih => exact ih (nextStep_settled h hp) ((nextStep_supply s).1.trans hp)

theorem Settled.startFromBattery (h : Settled s) (i : StartInputs) : Settled (startFromBattery i s) := by
  unfold Machine.startFromBattery
  split
  · exact runSteps_settled (settled_of_powered rfl rfl) rfl _
  · exact h
  · exact h
  · exact h

theorem Settled.startFromReset (h : Settled s) (i : StartInputs) : Settled (startFromReset i s) := by
  unfold Machine.startFromReset
  split_ifs
  · exact runSteps_settled (settled_of_powered rfl rfl) rfl _
  · exact h

theorem Settled.finishStart (h : Settled s) : Settled (finishStart s) := by
  unfold Machine.finishStart
  split_ifs with hf
  · simp only [Bool.and_eq_true, decide_eq_true_eq] at hf
    exact (runSteps_settled h hf.1 _).completeWrite
  · exact h

theorem Settled.enterMains (h : Settled s) : Settled (enterMains s) := by
  by_cases hp : s.supply.power = .start
  · have hrun := runSteps_settled h hp (5 - s.supply.startStep)
    have hmains := (Settled.catchUpThen (hrun.powered (runSteps_handing hp)
      (t := beginInterval (beginMains (runSteps (5 - s.supply.startStep) s))) (by simp)) (behind := id)
      (fun _ h => h) []).openIntake
    unfold Machine.enterMains
    dsimp only
    split_ifs
    · exact (hmains.vsFalls _).resetLow _
    · exact hmains.resetLow _
    · exact hmains.vsFalls _
    · exact hmains
  · unfold Machine.enterMains
    rwa [if_neg hp]

/-! ## Every command -/

theorem Settled.runDue (h : Settled s) (d : Due) : Settled (runDue d s) := by
  have hwork {f : Work → State → State} (hf : ∀ w s, Settled s → Settled (f w s)) : Settled (withWork f s) := by
    unfold withWork
    split
    · exact h
    · split_ifs
      · exact hf _ _ h
      · exact h
  cases d with
  | token => exact hwork fun w s h => h.same (by simp)
  | reconnect => exact hwork fun w s _ => decideReconnect_settled s
  | emergency => exact hwork fun w s h => h.decideEmergency
  | timeSet => exact hwork fun w s h => h.decideTimeSet w
  | calendarSubmit => exact hwork fun w s h => h.same (by simp)
  | windowCloseDiscard => exact hwork fun w s h => h.decideDiscard w
  | windowCloseCommit => exact hwork fun w s h => h.decideCommit w
  | windowClosePayloadRange => exact hwork fun w s h => h.completeEntry _
  | flagClear => exact hwork fun w s h => h.decideFlagClear w
  | kindUnknown => exact hwork fun w s h => h.completeEntry _
  | keypadLockoutStart => exact Settled.reportPresent (h.same (by simp)) _
  | windowExpiry =>
    simp only [Machine.runDue, windowExpires]
    split_ifs
    · exact endWindow_settled _ _
    · exact h
  | conditionQualified c => exact Settled.report (h.onMeter _) _ _
  | weldObservation => exact h.weldArrives
  | loadTrip => exact h.tripLimiter
  | loadRetryExpiry => exact h.retryExpires
  | startReady => exact h.enterMains
  | judge => exact h.judgeAttempt
  | stuckTest => exact h.testStuck
  | friendly => exact h.evaluateFriendly
  | catchUp => exact h
  | cleanRunComplete => exact h.same ⟨rfl, rfl, rfl, rfl, rfl, rfl, rfl, rfl⟩
  | _ => exact h.same (by simp [Machine.runDue])

theorem settled_kept : Kept Settled where
  agenda s a h := h.same ⟨rfl, rfl, rfl, rfl, rfl, rfl, rfl, rfl⟩
  due d s h := h.runDue d
  catchUp s h := h.catchUpGoesOn
  link f s h := h.same ⟨rfl, rfl, rfl, rfl, rfl, rfl, rfl, rfl⟩
  byte a v s h := h.same (by simp)
  attention data s h := h.same (by unfold clearAttention; split <;> (try split_ifs) <;> simp)
  mask data s h := h.same (by unfold replaceMask; split <;> (try split_ifs) <;> simp)
  submit s h := h.applySubmit
  refuse code d s _ h := h.completeEntry _
  test d s _ _ _ h := h.applyTest d
  credit d s _ _ _ h := h.applyCredit d
  debtAdd d s _ _ _ h := h.applyDebtAdd d
  clear d s _ _ _ h := h.applyClear d
  setting d s _ _ _ h := h.applySetting d
  windowOpen d s _ _ _ h := h.applyWindowOpen d
  tamperClear d s _ _ _ h := h.applyTamperClear d
  keyChange d s _ _ _ h := h.applyKeyChange d
  remoteOpen d s _ _ _ h := h.applyRemote true d
  remoteClose d s _ _ _ h := h.applyRemote false d
  fails s h := h.same (by simp)
  publication s h := h.same (by simp)
  write s h := h.completeWrite
  interval m s h := h.closeInterval m
  pulse s h := h.same (by simp)
  wait s h := h.same (by simp)
  second p s h := by
    unfold meterSecond
    split_ifs
    · exact h.same (by simp [sampleBattery])
    · exact h
    · exact Settled.catchUpThen (h.same (by simp)) (fun _ h => h.evaluateFriendly) _
  crystalStop s h := by
    have hbackup : Settled (toBackup s) := h.same (by simp)
    unfold crystalStops
    dsimp only
    split_ifs
    · exact h
    · exact ((hbackup.reportPresent _).markDue _).evaluateFriendly
    · exact (hbackup.markDue _).evaluateFriendly
    · exact (hbackup.reportPresent _).evaluateFriendly
    · exact hbackup.evaluateFriendly
  crystalReturn s h := h.same (by simp)
  sample i high s h := h.sampleInput i high
  falls p s h := h.vsFalls p
  reset p s h := h.resetLow p
  rises s h := h.vsRises
  failing b s h := h.vsFails b
  start i s h := h.startFromBattery i
  resetStart i s h := h.startFromReset i
  finish s h := h.finishStart
  domain s h := by
    unfold domainLost
    split_ifs
    · exact h.same (by simp)
    · exact h

/-! ## Levels and conditions in every state -/

theorem any_eq (p : Phases Bool) : p.any = (p.l1 || p.l2 || p.l3) := rfl

theorem isIn_actingSet (s : State) (r : Governing) :
    isIn r (actingSet s) = true ↔ isIn r s.switch.reasons = true ∧ holdLevel s < levelOf s.settings r := by
  cases r <;> simp [isIn, actingSet, levelOf]

theorem isIn_heldSet (s : State) (r : Governing) :
    isIn r (heldSet s) = true ↔ isIn r s.switch.reasons = true ∧ levelOf s.settings r ≤ holdLevel s := by
  have hbool (a : Bool) (p : Prop) : a = true ∧ (a = false ∨ p) ↔ a = true ∧ p := by cases a <;> simp
  cases r <;> simp only [isIn, heldSet, actingSet, levelOf, Bool.and_eq_true, Bool.not_eq_true', Bool.and_eq_false_iff,
    decide_eq_false_iff_not, not_lt, hbool, Bool.false_eq_true, false_and]

/-- LOAD and CREDIT have levels 1 to 3 (R130). -/
theorem levels_range {p : Settings} (h : LawfulSettings p) : p.loadLevel ≤ 3 ∧ p.creditLevel ≤ 3 := by
  have hcredit := h 10 (by norm_num) (by norm_num)
  have hload := h 11 (by norm_num) (by norm_num)
  simp [SettingRange, settingRanges, Settings.get, Settings.toList] at hcredit hload
  omega

theorem governing_acts {r : Governing} (hr : governingReason s = r) (hne : r ≠ .none) :
    isIn r (actingSet s) = true := by
  unfold governingReason at hr
  dsimp only at hr
  split_ifs at hr <;> subst hr <;> simp_all [isIn]

theorem governing_first {r : Governing} (hp : LawfulSettings s.settings) (hr : governingReason s = r) (hne : r ≠ .none)
    {q : Governing} (hq : isIn q (actingSet s) = true) :
    levelOf s.settings q < levelOf s.settings r ∨
      (levelOf s.settings q = levelOf s.settings r ∧ tieRank r ≤ tieRank q) := by
  obtain ⟨hload, hcredit⟩ := levels_range hp
  unfold governingReason at hr
  dsimp only at hr
  split_ifs at hr with h1 h2 h3 h4 <;> subst hr
  · cases q <;> simp_all [isIn, levelOf, tieRank] <;> omega
  · cases q <;> simp_all [isIn, levelOf, tieRank] <;> omega
  · simp only [Bool.and_eq_true, Bool.or_eq_true, Bool.not_eq_true', decide_eq_true_eq] at h3
    cases q <;> simp only [isIn] at hq <;> simp_all [levelOf, tieRank]
    omega
  · simp only [Bool.and_eq_true, Bool.or_eq_true, Bool.not_eq_true', decide_eq_true_eq] at h3
    cases q <;> simp only [isIn] at hq <;> simp_all [levelOf, tieRank]
  · exact absurd rfl hne

theorem governing_none_iff : governingReason s = .none ↔ ∀ r, isIn r (actingSet s) = false := by
  constructor
  · intro h r
    unfold governingReason at h
    dsimp only at h
    split_ifs at h with h1 h2 h3 h4
    cases r <;> simp_all [isIn]
  · intro h
    have htamper := h .tamper
    have hremote := h .remote
    have hload := h .load
    have hcredit := h .credit
    simp only [isIn] at htamper hremote hload hcredit
    simp [governingReason, htamper, hremote, hload, hcredit]

theorem autoClosePermitted_iff (s : State) : autoClosePermitted s = true ↔ s.switch.kept.manualClose = false ∧
    ∀ r, isIn r s.switch.kept.openedBy = true → autoPermitted s r = true := by
  have hall (P : Governing → Prop) : (∀ r, P r) ↔ P .tamper ∧ P .remote ∧ P .load ∧ P .credit ∧ P .none :=
    ⟨fun h => ⟨h _, h _, h _, h _, h _⟩, fun ⟨h1, h2, h3, h4, h5⟩ r => by cases r <;> assumption⟩
  rw [hall]
  simp only [autoClosePermitted, isIn, autoPermitted]
  cases s.switch.kept.openedBy.load <;> cases s.switch.kept.openedBy.credit <;> simp [and_assoc]

theorem closeCondition_iff (s : State) : closeCondition s = true ↔
    (s.meter.supplySide.l1 = true ∨ s.meter.supplySide.l2 = true ∨ s.meter.supplySide.l3 = true) ∧
    (s.meter.supplySide.l1 = true → s.meter.loadSide.l1 = true) ∧
    (s.meter.supplySide.l2 = true → s.meter.loadSide.l2 = true) ∧
    (s.meter.supplySide.l3 = true → s.meter.loadSide.l3 = true) := by
  simp only [closeCondition, any_eq, Phases.zipWith, Phases.toList, List.all_cons, List.all_nil, id_eq]
  cases s.meter.supplySide.l1 <;> cases s.meter.supplySide.l2 <;> cases s.meter.supplySide.l3 <;> simp

theorem switchRules (s : State) : SwitchRules s where
  hold := by
    unfold holdLevel
    split_ifs with h
    · rcases max_choice s.settings.friendlyHold s.switch.windowHold with e | e
      · exact .inr ⟨h, e⟩
      · exact .inl e
    · exact .inl (Nat.zero_max _)
  holdWindow := le_max_right _ _
  holdFriendly h := by simp [holdLevel, h]
  acting := isIn_actingSet s
  held := isIn_heldSet s
  governs r hp hr hne := ⟨governing_acts hr hne, fun _ hq => governing_first hp hr hne hq⟩
  quiet := governing_none_iff
  permitted := autoClosePermitted_iff s
  opened := by simp [openCondition, any_eq, and_assoc]
  closed := closeCondition_iff s
  confirmed := ⟨rfl, rfl⟩

/-- Settles O11: an evaluation leaves the set current, and what moves the contactor or a reason outside one heeds it. -/
theorem switchStaysSettled : Obligations.SwitchStaysSettled :=
  ⟨fun s t h he => settled_kept.step (fun _ _ h => h.same ⟨rfl, rfl, rfl, rfl, rfl, rfl, rfl, rfl⟩) s t h he, switchRules⟩

end Sys2Proof.Proofs
end

section
/-! SUPPORT. O12: the blocks and the switch controller agree on their reasons over every command; what the CREDIT and TAMPER
reasons and the EC state are. -/

namespace Sys2Proof.Proofs
open Sys2Proof.Machine Sys2Proof.Safety

/-- While reasons are handed, the controller holds each block's reason as the block holds it. -/
structure Told (s : State) : Prop where
  credit : handing s = true → s.switch.reasons.credit = s.credit.reason
  remote : handing s = true → s.switch.reasons.remote = s.decoder.remoteOrder
  tamper : handing s = true → s.switch.reasons.tamper = s.tamper.reason

/-- From the restore of a start on, the CREDIT reason is that of the account (R86). -/
def CreditFits (s : State) : Prop := monitorReady s = true → s.credit.reason = creditReasonOf s.credit.account

/-- From the restore of a start on, the TAMPER reason is that of the records (R166). -/
def TamperFits (s : State) : Prop := monitorReady s = true → s.tamper.reason = tamperReasonOf s.tamper.records

/-- Blocks and controller agree, and the reasons are those of account and records. -/
structure Agreed (s : State) : Prop where
  told : Told s
  credit : CreditFits s
  tamper : TamperFits s

theorem reasonsAgree_iff (s : State) : ReasonsAgree s ↔ Agreed s := by
  constructor
  · rintro ⟨hc, hr, ht, hcd, htd⟩
    exact ⟨⟨hc, hr, ht⟩, hcd, htd⟩
  · rintro ⟨⟨hc, hr, ht⟩, hcd, htd⟩
    exact ⟨hc, hr, ht, hcd, htd⟩

variable {s t : State}

/-! ## What keeps the TAMPER reason that the records give -/

theorem goneAt_cuts (time : Nat) (r : TamperRecord) : (goneAt time r).cuts = r.cuts := by
  unfold goneAt TamperRecord.cuts
  split_ifs with h
  · rw [h]
    rfl
  · rfl

theorem tamperReasonOf_iff (rs : Vector TamperRecord 10) : tamperReasonOf rs = true ↔
    ∃ k : Fin 10, rs[k].cuts = true := by
  unfold tamperReasonOf
  rw [List.any_eq_true]
  constructor
  · rintro ⟨r, hr, hcuts⟩
    obtain ⟨i, hi, rfl⟩ := List.mem_iff_getElem.mp hr
    exact ⟨⟨i, by simpa using hi⟩, by simpa using hcuts⟩
  · rintro ⟨k, hcuts⟩
    exact ⟨rs[k], by simp, hcuts⟩

/-- A record that goes on cutting, or goes on not cutting, leaves the reason. -/
theorem tamperReasonOf_set {rs : Vector TamperRecord 10} {k : Fin 10} {r : TamperRecord} (h : r.cuts = rs[k].cuts) :
    tamperReasonOf (rs.set k r) = tamperReasonOf rs := by
  rw [Bool.eq_iff_iff, tamperReasonOf_iff, tamperReasonOf_iff]
  refine exists_congr fun i => ?_
  by_cases hi : i = k
  · subst hi
    simp [h]
  · have hne : (k : Nat) ≠ i := fun e => hi (Fin.ext e.symm)
    simp [Vector.getElem_set_ne, hne]

@[simp] theorem reportGone_tamperReason (k : Fin 10) (s : State) :
    tamperReasonOf (reportGone k s).tamper.records = tamperReasonOf s.tamper.records := by
  rw [reportGone_tamper]
  exact tamperReasonOf_set (goneAt_cuts _ _)

@[simp] theorem dropFault_tamperReason (s : State) :
    tamperReasonOf (dropFault s).tamper.records = tamperReasonOf s.tamper.records := by
  rw [dropFault_tamper]
  split_ifs
  · exact tamperReasonOf_set (goneAt_cuts _ _)
  · rfl

@[simp] theorem evaluate_tamperReason (s : State) :
    tamperReasonOf (evaluate s).tamper.records = tamperReasonOf s.tamper.records := by
  rw [(evaluate_evaluated s).tamper]
  split_ifs
  · exact tamperReasonOf_set (goneAt_cuts _ _)
  · rfl

@[simp] theorem handReason_tamperReason (r : Governing) (on : Bool) (s : State) :
    tamperReasonOf (handReason r on s).tamper.records = tamperReasonOf s.tamper.records := by
  unfold handReason
  split_ifs <;> simp [setReason]

@[simp] theorem handReason_reasons (r : Governing) (on : Bool) (s : State) :
    (handReason r on s).switch.reasons = s.switch.reasons.put r on := by
  unfold handReason
  split_ifs with h
  · exact h.symm
  · simp [setReason]

@[simp] theorem deriveCredit_tamperReason (s : State) :
    tamperReasonOf (deriveCredit s).tamper.records = tamperReasonOf s.tamper.records := by
  unfold deriveCredit
  dsimp only
  split_ifs <;> simp

@[simp] theorem deriveTamper_tamperReason (s : State) :
    tamperReasonOf (deriveTamper s).tamper.records = tamperReasonOf s.tamper.records := by
  unfold deriveTamper
  dsimp only
  split_ifs <;> simp

/-! ## The derivations -/

theorem deriveCredit_credit (s : State) : (deriveCredit s).credit = derivedCredit s := by
  unfold deriveCredit
  dsimp only
  split_ifs <;> simp [deriveQuietly]

theorem deriveCredit_reasons (s : State) : (deriveCredit s).switch.reasons =
    if (derivedCredit s).reason ≠ s.credit.reason && handing s then s.switch.reasons.put .credit (derivedCredit s).reason
    else s.switch.reasons := by
  unfold deriveCredit
  dsimp only
  split_ifs <;> simp

theorem deriveTamper_reason (s : State) : (deriveTamper s).tamper.reason = tamperReasonOf s.tamper.records := by
  unfold deriveTamper
  dsimp only
  split_ifs with h
  · exact h.symm
  · simp
  · rfl

theorem deriveTamper_reasons (s : State) : (deriveTamper s).switch.reasons =
    if tamperReasonOf s.tamper.records ≠ s.tamper.reason && handing s then
      s.switch.reasons.put .tamper (tamperReasonOf s.tamper.records)
    else s.switch.reasons := by
  unfold deriveTamper
  dsimp only
  split_ifs <;> simp_all

/-- A state agrees but for the TAMPER reason, which is still to be derived. -/
structure Underived (s : State) : Prop where
  told : Told s
  credit : CreditFits s

theorem Agreed.underived (h : Agreed s) : Underived s := ⟨h.told, h.credit⟩

theorem monitorReady_congr (hp : t.supply.power = s.supply.power) (hn : t.supply.startStep = s.supply.startStep) :
    monitorReady t = monitorReady s := by simp only [monitorReady, hp, hn]

/-- A block hands its reasons only behind the restore of a start. -/
theorem ready_of_handing (h : handing s = true) : monitorReady s = true := by
  unfold handing at h
  unfold monitorReady
  split at h <;> simp_all
  omega

/-- What `Told` looks at is unchanged. -/
theorem Told.same (h : Told s) (e : t.supply.power = s.supply.power ∧ t.supply.startStep = s.supply.startStep ∧
    t.switch.reasons.credit = s.switch.reasons.credit ∧ t.switch.reasons.remote = s.switch.reasons.remote ∧
    t.switch.reasons.tamper = s.switch.reasons.tamper ∧ t.credit.reason = s.credit.reason ∧
    t.decoder.remoteOrder = s.decoder.remoteOrder ∧ t.tamper.reason = s.tamper.reason) : Told t := by
  obtain ⟨hp, hn, hrc, hrr, hrt, hc, ho, ht⟩ := e
  have hh := handing_congr hp hn
  exact ⟨by rw [hh, hrc, hc]; exact h.credit, by rw [hh, hrr, ho]; exact h.remote, by rw [hh, hrt, ht]; exact h.tamper⟩

/-- What `Underived` looks at is unchanged. -/
theorem Underived.same (h : Underived s) (e : t.supply.power = s.supply.power ∧
    t.supply.startStep = s.supply.startStep ∧ t.switch.reasons.credit = s.switch.reasons.credit ∧
    t.switch.reasons.remote = s.switch.reasons.remote ∧ t.switch.reasons.tamper = s.switch.reasons.tamper ∧
    t.credit.reason = s.credit.reason ∧ creditReasonOf t.credit.account = creditReasonOf s.credit.account ∧
    t.decoder.remoteOrder = s.decoder.remoteOrder ∧ t.tamper.reason = s.tamper.reason) : Underived t := by
  obtain ⟨hp, hn, hrc, hrr, hrt, hc, ha, ho, ht⟩ := e
  refine ⟨h.told.same ⟨hp, hn, hrc, hrr, hrt, hc, ho, ht⟩, ?_⟩
  rw [CreditFits, monitorReady_congr hp hn, hc, ha]
  exact h.credit

/-- What agreement looks at is unchanged. -/
theorem Agreed.same (h : Agreed s) (e : t.supply.power = s.supply.power ∧ t.supply.startStep = s.supply.startStep ∧
    t.switch.reasons.credit = s.switch.reasons.credit ∧ t.switch.reasons.remote = s.switch.reasons.remote ∧
    t.switch.reasons.tamper = s.switch.reasons.tamper ∧ t.credit.reason = s.credit.reason ∧
    creditReasonOf t.credit.account = creditReasonOf s.credit.account ∧ t.decoder.remoteOrder = s.decoder.remoteOrder ∧
    t.tamper.reason = s.tamper.reason ∧ tamperReasonOf t.tamper.records = tamperReasonOf s.tamper.records) :
    Agreed t := by
  obtain ⟨hp, hn, hrc, hrr, hrt, hc, ha, ho, ht, hrec⟩ := e
  obtain ⟨htold, hcredit⟩ := h.underived.same ⟨hp, hn, hrc, hrr, hrt, hc, ha, ho, ht⟩
  refine ⟨htold, hcredit, ?_⟩
  rw [TamperFits, monitorReady_congr hp hn, ht, hrec]
  exact h.tamper

/-- A derivation at the credit engine brings its reason and the controller's in line. -/
theorem deriveCredit_agreed (h : Told s) (ht : TamperFits s) : Agreed (deriveCredit s) := by
  have hh : handing (deriveCredit s) = handing s := handing_congr (by simp) (by simp)
  have hm : monitorReady (deriveCredit s) = monitorReady s := monitorReady_congr (by simp) (by simp)
  refine ⟨⟨?_, ?_, ?_⟩, ?_, ?_⟩
  · intro hs
    rw [deriveCredit_credit, deriveCredit_reasons]
    rw [hh] at hs
    split_ifs with hc
    · rfl
    · rw [h.credit hs]
      by_contra hne
      exact hc (by simp [hs, Ne.symm hne])
  · intro hs
    rw [deriveCredit_reasons]
    rw [hh] at hs
    split_ifs <;> simpa [Reasons.put] using h.remote hs
  · intro hs
    rw [deriveCredit_reasons]
    rw [hh] at hs
    split_ifs <;> simpa [Reasons.put] using h.tamper hs
  · intro _
    rw [deriveCredit_credit]
    rfl
  · intro hs
    rw [hm] at hs
    simpa using ht hs

/-- A derivation at the tamper monitor brings its reason and the controller's in line. -/
theorem Underived.deriveTamper (h : Underived s) : Agreed (deriveTamper s) := by
  have hh : handing (Machine.deriveTamper s) = handing s := handing_congr (by simp) (by simp)
  have hm : monitorReady (Machine.deriveTamper s) = monitorReady s := monitorReady_congr (by simp) (by simp)
  refine ⟨⟨?_, ?_, ?_⟩, ?_, ?_⟩
  · intro hs
    rw [deriveTamper_reasons]
    rw [hh] at hs
    split_ifs <;> simpa [Reasons.put] using h.told.credit hs
  · intro hs
    rw [deriveTamper_reasons]
    rw [hh] at hs
    split_ifs <;> simpa [Reasons.put] using h.told.remote hs
  · intro hs
    rw [deriveTamper_reason, deriveTamper_reasons]
    rw [hh] at hs
    split_ifs with ht
    · rfl
    · rw [h.told.tamper hs]
      by_contra hne
      exact ht (by simp [hs, Ne.symm hne])
  · intro hs
    rw [hm] at hs
    simpa using h.credit hs
  · intro _
    rw [deriveTamper_reason, deriveTamper_tamperReason]

/-- The account may have changed before the derivation. -/
theorem Agreed.derived (h : Agreed s) (e : t.supply.power = s.supply.power ∧ t.supply.startStep = s.supply.startStep ∧
    t.switch.reasons.credit = s.switch.reasons.credit ∧ t.switch.reasons.remote = s.switch.reasons.remote ∧
    t.switch.reasons.tamper = s.switch.reasons.tamper ∧ t.credit.reason = s.credit.reason ∧
    t.decoder.remoteOrder = s.decoder.remoteOrder ∧ t.tamper.reason = s.tamper.reason ∧
    tamperReasonOf t.tamper.records = tamperReasonOf s.tamper.records) : Agreed (deriveCredit t) := by
  obtain ⟨hp, hn, hrc, hrr, hrt, hc, ho, ht, hrec⟩ := e
  refine deriveCredit_agreed (h.told.same ⟨hp, hn, hrc, hrr, hrt, hc, ho, ht⟩) ?_
  rw [TamperFits, monitorReady_congr hp hn, ht, hrec]
  exact h.tamper

/-- A part that hands no reasons and has restored nothing promises nothing. -/
theorem agreed_of_unready (h : monitorReady s = false) : Agreed s := by
  have hh : handing s = false := by
    by_contra hne
    simp [ready_of_handing (by simpa using hne)] at h
  refine ⟨⟨?_, ?_, ?_⟩, ?_, ?_⟩ <;> simp [CreditFits, TamperFits, h, hh]

/-- The power state has moved while reasons are handed. -/
theorem Agreed.powered (h : Agreed s) (hh : handing s = true) (e : t.switch.reasons = s.switch.reasons ∧
    t.credit = s.credit ∧ t.decoder = s.decoder ∧ t.tamper = s.tamper) : Agreed t := by
  obtain ⟨hr, hc, ho, ht⟩ := e
  have hm := ready_of_handing hh
  exact ⟨⟨fun _ => by rw [hr, hc]; exact h.told.credit hh, fun _ => by rw [hr, ho]; exact h.told.remote hh,
    fun _ => by rw [hr, ht]; exact h.told.tamper hh⟩, fun _ => by rw [hc]; exact h.credit hm,
    fun _ => by rw [ht]; exact h.tamper hm⟩

theorem setKey_remoteOrder (d : Decoder) (n : Nat) (k : KeySlot) : (d.setKey n k).remoteOrder = d.remoteOrder := by
  unfold Decoder.setKey
  split <;> rfl

@[simp] theorem spendSerial_remoteOrder (d : Decoded) (s : State) :
    (spendSerial d s).decoder.remoteOrder = s.decoder.remoteOrder := setKey_remoteOrder _ _ _

@[simp] theorem installKey_remoteOrder (c : KeyChange) (k : KeyValue) (s : State) :
    (installKey c k s).decoder.remoteOrder = s.decoder.remoteOrder := setKey_remoteOrder _ _ _

@[simp] theorem recordToken_remoteOrder (d : Decoded) (s : State) :
    (recordToken d s).decoder.remoteOrder = s.decoder.remoteOrder := rfl

@[simp] theorem acceptToken_remoteOrder (d : Decoded) (fields : List Byte) (s : State) :
    (acceptToken d fields s).decoder.remoteOrder = s.decoder.remoteOrder := by
  simp [acceptToken]

@[simp] theorem refuseBadCode_remoteOrder (r : Result) (s : State) :
    (refuseBadCode r s).decoder.remoteOrder = s.decoder.remoteOrder := by
  unfold refuseBadCode
  split_ifs <;> simp

@[simp] theorem endLockout_tamperReason (s : State) :
    tamperReasonOf (endLockout s).tamper.records = tamperReasonOf s.tamper.records := by simp [endLockout]

@[simp] theorem endLockout_remoteOrder (s : State) : (endLockout s).decoder.remoteOrder = s.decoder.remoteOrder := by
  simp [endLockout]

@[simp] theorem countLockout_remoteOrder (s : State) :
    (countLockout s).decoder.remoteOrder = s.decoder.remoteOrder := by
  unfold countLockout
  dsimp only
  split_ifs <;> simp

@[simp] theorem crystalReturns_tamperReason (s : State) :
    tamperReasonOf (crystalReturns s).tamper.records = tamperReasonOf s.tamper.records := by
  unfold crystalReturns
  split_ifs <;> simp

@[simp] theorem passLockout_tamperReason (s : State) :
    tamperReasonOf (passLockout s).tamper.records = tamperReasonOf s.tamper.records := by
  unfold passLockout
  split_ifs <;> simp

theorem Agreed.evaluate (h : Agreed s) : Agreed (evaluate s) := h.same (by simp)

theorem Agreed.handLoad (h : Agreed s) (on : Bool) : Agreed (handReason .load on s) := h.same (by simp [Reasons.put])

theorem Underived.enteredActive (h : Underived s) : Agreed (enteredActive s) :=
  Underived.deriveTamper (h.same (t := requestWrite (markDue attnTamper s)) (by simp))

theorem Underived.reportPresent (h : Underived s) (k : Fin 10) : Underived (reportPresent k s) := by
  unfold Machine.reportPresent
  dsimp only
  split_ifs
  · exact h
  · exact (Underived.enteredActive (h.same (by simp))).underived

theorem Agreed.reportPresent (h : Agreed s) (k : Fin 10) : Agreed (reportPresent k s) := by
  unfold Machine.reportPresent
  dsimp only
  split_ifs
  · exact h
  · exact Underived.enteredActive (h.underived.same (by simp))

theorem Underived.reportGone (h : Underived s) (k : Fin 10) : Underived (reportGone k s) := h.same (by simp)

theorem Underived.report (h : Underived s) (k : Fin 10) (present : Bool) : Underived (report k present s) := by
  unfold Machine.report
  split_ifs
  · exact h.reportPresent k
  · exact h.reportGone k

theorem Underived.reportBoth (h : Underived s) (k : Fin 10) : Underived (reportBoth k s) :=
  (h.reportPresent k).reportGone k

theorem Agreed.reportGone (h : Agreed s) (k : Fin 10) : Agreed (reportGone k s) := h.same (by simp)

theorem Agreed.report (h : Agreed s) (k : Fin 10) (present : Bool) : Agreed (report k present s) := by
  unfold Machine.report
  split_ifs
  · exact h.reportPresent k
  · exact h.reportGone k

theorem Agreed.reportBoth (h : Agreed s) (k : Fin 10) : Agreed (reportBoth k s) := (h.reportPresent k).reportGone k

theorem Agreed.qualifiedChange (h : Agreed s) (i : SenseInput) (active : Bool) : Agreed (qualifiedChange i active s) := by
  unfold Machine.qualifiedChange
  split_ifs
  · exact h.reportBoth _
  · exact h
  · exact h.report _ _

theorem Agreed.sampleInput (h : Agreed s) (i : SenseInput) (high : Bool) : Agreed (sampleInput i high s) := by
  unfold Machine.sampleInput
  dsimp only
  split_ifs
  · exact h.same (by simp)
  · exact Agreed.qualifiedChange (h.same (by simp)) _ _
  · exact h.same (by simp)

theorem Agreed.evaluateFriendly (h : Agreed s) : Agreed (evaluateFriendly s) := by
  unfold Machine.evaluateFriendly
  split_ifs
  · exact h.same (by simp [handFriendly])
  · exact h

theorem Agreed.endWindow (h : Agreed s) (c : EndCause) : Agreed (endWindow c s) :=
  h.same (by simp [Machine.endWindow, handWindowHold])

theorem Agreed.requestWrite (h : Agreed s) : Agreed (requestWrite s) := h.same (by simp)

theorem Agreed.completeEntry (h : Agreed s) (r : Result) : Agreed (completeEntry r s) := h.same (by simp)

theorem Agreed.awaitWrite (h : Agreed s) (r : Result) : Agreed (awaitWrite r s) := h.same (by simp)

theorem Agreed.acceptToken (h : Agreed s) (d : Decoded) (fields : List Byte) : Agreed (acceptToken d fields s) :=
  h.same (by simp)

theorem Agreed.chargedUpTo (h : Agreed s) (date : Nat) : Agreed (chargedUpTo date s) := h.same (by simp)

theorem Agreed.onAgenda (h : Agreed s) (f : List Due → List Due) : Agreed (onAgenda f s) := h.same (by simp)

theorem Agreed.onMeter (h : Agreed s) (f : Meter → Meter) : Agreed (onMeter f s) := h.same (by simp)

theorem Agreed.markDue (h : Agreed s) (b : BitVec 6) : Agreed (markDue b s) := h.same (by simp)

theorem Agreed.markSwitch (h : Agreed s) : Agreed (markSwitch s) := h.same (by simp)

/-! ## Day ends -/

theorem Agreed.issueDayEnd (h : Agreed s) : Agreed (issueDayEnd s) := by
  have hcredit : Agreed (creditDayEnd (onBook (fun x => { x with lastCharged := x.lastCharged.map (· + 1) }) s)) :=
    h.derived (by simp [Credit.dayEnd])
  exact hcredit.same (by simp [Machine.issueDayEnd])

theorem Agreed.dayEnds (h : Agreed s) (n : Nat) : Agreed (dayEnds n s) := by
  induction n generalizing s with
  | zero => exact h
  | succ n ih => exact ih h.issueDayEnd

theorem Agreed.issueDays (h : Agreed s) (most : Nat) : Agreed (issueDays most s) := by
  unfold Machine.issueDays
  dsimp only
  split_ifs
  · exact Agreed.chargedUpTo (h.dayEnds _) _
  · exact h.dayEnds _

theorem Agreed.catchUpGoesOn (h : Agreed s) : Agreed (catchUpGoesOn s) := Agreed.issueDays (h.same (by simp)) _

theorem Agreed.catchUpWhole (h : Agreed s) : Agreed (catchUpWhole s) := by
  unfold Machine.catchUpWhole
  split_ifs
  · exact h
  · exact Agreed.issueDays (h.same (by simp [newCatchUp])) _

theorem Agreed.catchUp (h : Agreed s) : Agreed (catchUp s) := by
  have hfirst : Agreed (Machine.issueDays 1 (newCatchUp s)) := Agreed.issueDays (h.same (by simp [newCatchUp])) 1
  unfold Machine.catchUp
  dsimp only
  split_ifs
  · exact h
  · exact h.catchUpWhole
  · exact hfirst
  · exact hfirst.catchUpGoesOn

theorem Agreed.catchUpThen (h : Agreed s) {behind : State → State} (hb : ∀ s, Agreed s → Agreed (behind s))
    (later : List Due) : Agreed (catchUpThen later behind s) := by
  rcases catchUpThen_cases later behind s with e | ⟨-, -, e⟩ <;> rw [e]
  · exact hb _ h.catchUp
  · exact h.catchUp.same (by simp)

theorem Agreed.setOrCatchUp (h : Agreed s) : Agreed (setOrCatchUp s) := by
  unfold Machine.setOrCatchUp
  split
  · split_ifs
    · exact h.same (by simp)
    · exact h
  · exact h.catchUpWhole

/-! ## Entries -/

theorem Agreed.decideReconnect (h : Agreed s) : Agreed (decideReconnect s) := by
  have hclears : Agreed (reconnectClears s) := h.same (by simp [reconnectClears])
  refine Agreed.completeEntry ?_ _
  unfold reconnectCloses
  split_ifs
  · exact hclears.evaluate.same (by simp)
  · exact hclears.evaluate

theorem Agreed.decideEmergency (h : Agreed s) : Agreed (decideEmergency s) := by
  unfold Machine.decideEmergency
  dsimp only
  split_ifs
  · exact (h.derived (by simp)).completeEntry _
  · exact h.completeEntry _

theorem Agreed.decideFlagClear (h : Agreed s) (w : Work) : Agreed (decideFlagClear w s) := by
  unfold Machine.decideFlagClear
  dsimp only
  split_ifs
  · exact h.completeEntry _
  · exact (show Agreed (setAccount (clearFlags (w.byteAt 4).toNat s.credit.account) s) from
      h.same ⟨rfl, rfl, rfl, rfl, rfl, rfl, rfl, rfl, rfl, rfl⟩).completeEntry _

theorem Agreed.decideTimeSet (h : Agreed s) (w : Work) : Agreed (decideTimeSet w s) := by
  unfold Machine.decideTimeSet
  dsimp only
  split_ifs
  · have htime : Agreed (setTime (w.field 4 4) s) := h.same (by simp)
    exact htime.setOrCatchUp.evaluateFriendly.completeEntry _
  · exact h.completeEntry _

theorem Agreed.refuseBadCode (h : Agreed s) (r : Result) : Agreed (refuseBadCode r s) := h.same (by simp)

theorem Agreed.decideToken (h : Agreed s) (w : Work) : Agreed (decideToken w s) := by
  unfold Machine.decideToken
  cases firstBadDigit w with
  | some i =>
    dsimp only
    split_ifs
    · exact h.completeEntry _
    · exact h.completeEntry _
  | none =>
    dsimp only
    split_ifs
    · exact h.completeEntry _
    · exact h.completeEntry _
    · exact h.completeEntry _
    · exact h.refuseBadCode _
    · exact h.completeEntry _
    · exact h.same (by simp)

theorem Agreed.decideDiscard (h : Agreed s) (w : Work) : Agreed (decideDiscard w s) := by
  unfold Machine.decideDiscard
  split_ifs
  · exact h.completeEntry _
  · exact (h.endWindow _).completeEntry _

theorem Agreed.decideCommit (h : Agreed s) (w : Work) : Agreed (decideCommit w s) := by
  have hcommit : Agreed (beginCommit (s.window.staged.getD s.settings) s) := by
    have hderived : Agreed (Machine.deriveCredit (onSettings (fun _ => s.window.staged.getD s.settings)
        (onWindow (fun x => { x with state := .committing }) s))) := h.derived (by simp)
    exact (Underived.deriveTamper (hderived.underived.same (by simp [Tamper.recommitted]))).evaluate
  unfold Machine.decideCommit
  split_ifs
  · exact h.completeEntry _
  · exact hcommit.same (by simp)

theorem Agreed.applySubmit (h : Agreed s) : Agreed (applySubmit s) := by
  unfold Machine.applySubmit
  split
  · exact h.completeEntry _
  · exact h.same (by simp)

/-! ## Tokens -/

theorem Agreed.applyCredit (h : Agreed s) (d : Decoded) : Agreed (applyCredit d s) := by
  unfold Machine.applyCredit topup
  dsimp only
  split_ifs
  · exact h.completeEntry _
  · exact h.completeEntry _
  · exact (h.derived (by simp)).acceptToken _ _

theorem Agreed.applyDebtAdd (h : Agreed s) (d : Decoded) : Agreed (applyDebtAdd d s) := by
  unfold Machine.applyDebtAdd
  dsimp only
  split_ifs
  · exact h.completeEntry _
  · exact (h.derived (by simp)).acceptToken _ _

theorem Agreed.applyClear (h : Agreed s) (d : Decoded) : Agreed (applyClear d s) := by
  unfold Machine.applyClear
  split_ifs
  · exact h.completeEntry _
  · exact (h.derived (by simp)).acceptToken _ _

theorem Agreed.applySetting (h : Agreed s) (d : Decoded) : Agreed (applySetting d s) := by
  have hstaged (p : Settings) : Agreed (stageSetting p s) := h.same (by simp)
  unfold Machine.applySetting
  dsimp only
  split
  · exact h.completeEntry _
  · split_ifs
    · exact h.completeEntry _
    · exact h.completeEntry _
    · exact h.completeEntry _
    · exact h.completeEntry _
    · exact (hstaged _).acceptToken _ _

theorem Agreed.applyWindowOpen (h : Agreed s) (d : Decoded) : Agreed (applyWindowOpen d s) := by
  unfold Machine.applyWindowOpen
  split_ifs
  · exact h.completeEntry _
  · exact h.completeEntry _
  · exact Agreed.acceptToken (h.same (by simp [openWindow, handWindowHold])) _ _

theorem Agreed.applyTamperClear (h : Agreed s) (d : Decoded) : Agreed (applyTamperClear d s) := by
  have hcleared : Agreed (tamperClearArrives d.plain.payload s) := Underived.deriveTamper (h.underived.same (by simp))
  unfold Machine.applyTamperClear
  split_ifs
  · exact h.completeEntry _
  · exact hcleared.acceptToken _ _

theorem Agreed.applyKeyChange (h : Agreed s) (d : Decoded) : Agreed (applyKeyChange d s) := by
  unfold Machine.applyKeyChange
  dsimp only
  split_ifs
  · exact h.completeEntry _
  · exact h.completeEntry _
  · exact Agreed.awaitWrite (h.same (by simp)) _

/-- A change of the order reaches the controller (R109). -/
theorem Agreed.setOrder (h : Agreed s) (on : Bool) : Agreed (handReason .remote on (setOrder on s)) := by
  have hh : handing (Machine.handReason .remote on (Machine.setOrder on s)) = handing s :=
    handing_congr (by simp) (by simp)
  have hm : monitorReady (Machine.handReason .remote on (Machine.setOrder on s)) = monitorReady s :=
    monitorReady_congr (by simp) (by simp)
  refine ⟨⟨?_, ?_, ?_⟩, ?_, ?_⟩
  · rw [hh]
    simpa [Reasons.put] using h.told.credit
  · simp [Reasons.put, Machine.setOrder]
  · rw [hh]
    simpa [Reasons.put] using h.told.tamper
  · rw [CreditFits, hm]
    simpa [CreditFits, Machine.setOrder] using h.credit
  · rw [TamperFits, hm]
    simpa [TamperFits, Machine.setOrder] using h.tamper

theorem Agreed.applyRemote (h : Agreed s) (on : Bool) (d : Decoded) : Agreed (applyRemote on d s) := by
  unfold Machine.applyRemote
  split_ifs
  · exact h.completeEntry _
  · exact h.acceptToken _ _
  · exact (h.setOrder on).acceptToken _ _

theorem Agreed.applyTest (h : Agreed s) (d : Decoded) : Agreed (applyTest d s) := by
  unfold Machine.applyTest
  split_ifs
  · exact h.completeEntry _
  · exact Agreed.completeEntry (h.same (by simp)) _

/-! ## Metering -/

theorem Agreed.activateDue (h : Agreed s) : Agreed (activateDue s) := by
  unfold Machine.activateDue
  split
  · exact h
  · split_ifs
    · exact ((Agreed.requestWrite (h.same (by simp))).catchUpThen (fun _ h => h.evaluateFriendly) _).markDue _
    · exact h

theorem Agreed.billInterval (h : Agreed s) (imported exported ms : Nat) :
    Agreed (billInterval imported exported ms s) := by
  have hdue := h.activateDue
  exact hdue.derived (by simp [registerEnergy])

theorem Agreed.markSaturation (h : Agreed s) (e : Phases Int) : Agreed (markSaturation e s) := by
  unfold Machine.markSaturation
  split_ifs
  · exact h.same ⟨rfl, rfl, rfl, rfl, rfl, rfl, rfl, rfl, rfl, rfl⟩
  · exact h

theorem Agreed.closeInterval (h : Agreed s) (m : Measurement) : Agreed (closeInterval m s) := by
  unfold Machine.closeInterval
  dsimp only
  split_ifs
  · have htaken : Agreed (sampleVbat m.vbat (takeResults m (Machine.markSaturation m.energy s))) :=
      (h.markSaturation m.energy).same (by simp [sampleVbat, takeResults])
    exact (htaken.billInterval _ _ _).onAgenda _
  · exact h

theorem Agreed.closePartial (h : Agreed s) (p : PartMeasurement) : Agreed (closePartial p s) := by
  unfold Machine.closePartial
  dsimp only
  split_ifs
  · exact (h.billInterval _ _ _).onMeter _
  · exact ((h.markSaturation _).billInterval _ _ _).onMeter _

/-! ## The contactor -/

theorem Agreed.raiseFault (h : Agreed s) : Agreed (raiseFault s) := by
  unfold Machine.raiseFault
  split_ifs
  · exact h
  · exact Agreed.reportPresent (h.same (by simp [setFault])) _

/-- STUCK is entered with its fault reported. -/
theorem Agreed.entersStuck (h : Agreed s) : Agreed (Machine.raiseFault (setStuckTimer 60 (setContactor .stuck s))) :=
  Agreed.raiseFault (h.same (by simp [setContactor]))

theorem Agreed.closeConfirmed (h : Agreed s) : Agreed (closeConfirmed s) := by
  unfold Machine.closeConfirmed
  dsimp only
  split_ifs
  · exact h.same (by simp [commandPosition])
  · exact h.same (by simp [commandPosition])

theorem Agreed.judgeAttempt (h : Agreed s) : Agreed (judgeAttempt s) := by
  have hended : Agreed (endAttempt s) := h.same (by simp)
  have hopened : Agreed (openConfirmed s) := h.same (by simp [openConfirmed])
  have hstuck : Agreed (stuckAttemptFailed s) := h.same (by simp [stuckAttemptFailed])
  have hfailed : Agreed (closeFailed s) :=
    (Agreed.raiseFault (hended.same (by simp [markManualClose, commandPosition, setContactor]))).evaluate
  unfold Machine.judgeAttempt
  split
  · next w _ =>
    cases w
    · dsimp only
      split_ifs
      · exact hopened
      · exact hstuck
      · exact h.same (by simp [beginPulse])
      · exact hended.entersStuck.markSwitch
    · dsimp only
      split_ifs
      · exact h.closeConfirmed.evaluate
      · exact h.closeConfirmed
      · exact hstuck
      · exact h.same (by simp [beginPulse])
      · exact hfailed
  · exact h

theorem Agreed.weldArrives (h : Agreed s) : Agreed (weldArrives s) := by
  have hmeter := h.onMeter fun x => { x with weld := 0 }
  unfold Machine.weldArrives
  dsimp only
  split_ifs
  · exact hmeter.entersStuck.markSwitch
  · exact hmeter

theorem Agreed.testStuck (h : Agreed s) : Agreed (testStuck s) := by
  unfold Machine.testStuck
  split_ifs
  · exact h.same (by simp [stuckToClosed, commandPosition])
  · exact h

theorem Agreed.retryExpires (h : Agreed s) : Agreed (retryExpires s) := by
  unfold Machine.retryExpires
  split_ifs
  · exact h.handLoad _
  · exact h.same (by simp [setLatch])

theorem Agreed.tripLimiter (h : Agreed s) : Agreed (tripLimiter s) :=
  Agreed.handLoad (h.same (t := countTrip s.settings.loadRetryDelay s) (by simp)) _

/-! ## The supply -/

theorem Agreed.completeWrite (h : Agreed s) : Agreed (completeWrite s) := by
  unfold Machine.completeWrite
  split
  · exact h
  · next w _ =>
    have hstore : Agreed (storeWrite w s) := h.same (by simp)
    have htold : Agreed (tellWork (storeWrite w s)) := by
      unfold tellWork
      split
      · exact hstore
      · split
        · split_ifs
          · exact (hstore.endWindow _).completeEntry _
          · exact hstore.completeEntry _
        · exact hstore
    exact Agreed.same (s := tellWork (storeWrite w s)) htold (by simp)

theorem Agreed.holdupWindow (h : Agreed s) : Agreed (holdupWindow s) := by
  unfold Machine.holdupWindow
  split_ifs
  · exact h.endWindow _
  · exact h

theorem Agreed.enterHoldup (h : Agreed s) (hp : s.supply.power = .mains) (reset : Bool) (p : PartMeasurement) :
    Agreed (enterHoldup reset p s) := by
  have hdrop : Agreed (abandonWork (holdupSwitch (raiseNow attnSupply (dropPower reset s)))) :=
    h.powered (by simp [handing, hp]) (by simp)
  have hclosed : Agreed (passLockout (Machine.closePartial p
      (abandonWork (holdupSwitch (raiseNow attnSupply (dropPower reset s)))))) := (hdrop.closePartial p).same (by simp)
  exact hclosed.holdupWindow.same (by simp [Machine.enterHoldup, markResetWrite])

theorem Agreed.vsFalls (h : Agreed s) (p : PartMeasurement) : Agreed (vsFalls p s) := by
  unfold Machine.vsFalls
  split
  · next hp => exact Agreed.enterHoldup (h.same (by simp)) (by simpa using hp) _ _
  · exact h.same (by simp)
  · exact h.same (by simp)
  · exact h

theorem Agreed.resetLow (h : Agreed s) (p : PartMeasurement) : Agreed (resetLow p s) := by
  unfold Machine.resetLow
  split
  · next hp => exact h.enterHoldup hp _ _
  · split_ifs
    · exact h
    · exact h.same (by simp)
  · exact h.same (by simp)
  · exact h

theorem Agreed.openIntake (h : Agreed s) : Agreed (openIntake s) := h.same (by simp)

theorem Agreed.vsRises (h : Agreed s) : Agreed (vsRises s) := by
  unfold Machine.vsRises
  split
  · next hp =>
    dsimp only
    split_ifs
    · exact h.same (by simp)
    · have hmains : Agreed (resumeSwitch (beginInterval (raiseNow attnSupply (setMains (setVsLow false s))))) :=
        h.powered (by simp [handing, hp]) (by simp)
      exact (hmains.catchUpThen (fun _ h => h) _).openIntake
  · exact h.same (by simp)
  · exact h
  · exact h

theorem Agreed.vsFails (h : Agreed s) (b : BatteryInputs) : Agreed (vsFails b s) := by
  have hbattery : Agreed (enterBattery b s) := agreed_of_unready rfl
  unfold Machine.vsFails
  split
  · exact hbattery
  · exact hbattery
  · exact h
  · exact h

/-! ## A start -/

theorem Underived.reportFailed (h : Underived s) (fs : List Bool) : Underived (reportFailed fs s) := by
  induction fs generalizing s with
  | nil => exact h
  | cons b fs ih =>
    cases b
    · exact ih h
    · exact ih (h.reportBoth _)

theorem restoreStep_agreed (hp : s.supply.power = .start) : Agreed (restoreStep s) := by
  have hnoted : Underived (noteRestore (decide (s.supply.cause = .powerOn))
      (takeSections (restoredSections s.store.image (decide (s.supply.cause = .powerOn))) s)) := by
    have hh : handing (noteRestore (decide (s.supply.cause = .powerOn))
        (takeSections (restoredSections s.store.image (decide (s.supply.cause = .powerOn))) s)) = false := by
      simp [handing, noteRestore, takeSections, deriveQuietly, onCredit, onStore, onSupply, hp]
    exact ⟨⟨by simp [hh], by simp [hh], by simp [hh]⟩, fun _ => rfl⟩
  exact (hnoted.reportFailed _).deriveTamper

theorem Underived.mergeWatch (h : Underived s) (i : SenseInput) (b : BatteryWatch) (high : Bool) :
    Underived (mergeWatch i b high s) := by
  unfold Machine.mergeWatch
  dsimp only
  split_ifs
  · exact h
  · exact h.same (by simp)
  · exact (Underived.enteredActive (h.same (by simp))).underived

theorem Underived.inputStartReport (h : Underived s) (i : SenseInput) : Underived (inputStartReport i s) := by
  unfold Machine.inputStartReport
  dsimp only
  split_ifs
  · exact h.reportBoth _
  · exact h
  · exact h.report _ _

theorem Underived.onBattery (h : Underived s) (f : Battery → Battery) : Underived (onBattery f s) := h.same (by simp)

theorem Underived.setupInput (h : Underived s) (i : SenseInput) (high : Bool) : Underived (setupInput i high s) :=
  h.same (by simp)

theorem Underived.refreshActions (h : Underived s) : Underived (refreshActions s) := h.same (by simp [Machine.refreshActions])

theorem Underived.settleInputs (h : Underived s) : Agreed (settleInputs s) := by
  have hmerged := (h.mergeWatch .caseIn s.battery.caseIn s.pins.sense.caseHigh).mergeWatch .coverIn s.battery.coverIn
    s.pins.sense.coverHigh
  exact (((((((hmerged.onBattery _).setupInput .caseIn _).setupInput .coverIn _).setupInput .magIn _).inputStartReport
    .caseIn).inputStartReport .coverIn).inputStartReport .magIn).refreshActions.deriveTamper

theorem Agreed.clockReports (h : Agreed s) : Agreed (clockReports s) := by
  have hclear {t : State} (ht : Agreed t) : Agreed (clearCrystalMark t) := ht.same (by simp [clearCrystalMark])
  unfold Machine.clockReports
  dsimp only
  split_ifs
  · exact (hclear h).reportGone _
  · exact (hclear (h.reportBoth _)).reportGone _
  · exact (hclear h).reportGone _
  · exact hclear (h.reportPresent _)
  · exact hclear (h.reportPresent _)
  · exact hclear h

/-- A further step of a start between the restore and the hand-offs hands no reason. -/
theorem Agreed.stepped (h : Agreed s) (hp : s.supply.power = .start) {n : Nat} (hm : monitorReady s = true) (hn : n < 4) :
    Agreed (setStartStep n s) := by
  have hh : handing (setStartStep n s) = false := by simp [handing, setStartStep, onSupply, hp, hn]
  exact ⟨⟨by simp [hh], by simp [hh], by simp [hh]⟩, fun _ => h.credit hm, fun _ => h.tamper hm⟩

/-- The controller takes every block's reason as that block holds it (R156). -/
theorem Agreed.handedAtStart (h : Agreed s) (hm : monitorReady s = true) (friendly : Bool) :
    Agreed (setStartStep 4 (handAtStart friendly s)) := by
  have htaken : Agreed (setStartStep 4 (takeHandOffs friendly s.tamper.reason s.decoder.remoteOrder s.credit.reason s)) :=
    ⟨⟨fun _ => rfl, fun _ => rfl, fun _ => rfl⟩, fun _ => h.credit hm, fun _ => h.tamper hm⟩
  exact htaken.same (by simp [handAtStart, setStartStep])

theorem Agreed.findContactor (h : Agreed s) : Agreed (findContactor s) := by
  unfold Machine.findContactor
  dsimp only
  split_ifs
  · exact (h.reportBoth kindSwitch).same (by simp [commandPosition])
  · exact (h.reportGone kindSwitch).same (by simp [commandPosition])
  · exact (h.reportBoth kindSwitch).same (by simp [markManualClose, setContactor])
  · exact (h.reportGone kindSwitch).same (by simp [setContactor])

theorem Agreed.contactorStep (h : Agreed s) (hm : monitorReady s = true) : Agreed (contactorStep s) :=
  Agreed.same (h.findContactor.handedAtStart (by simpa [monitorReady] using hm) (friendlyState s))
    (by simp [Machine.contactorStep])

theorem nextStep_agreed (h : Agreed s) (hp : s.supply.power = .start) : Agreed (nextStep s) := by
  have hready {n : Nat} (hn : s.supply.startStep = n) (h1 : 1 ≤ n) : monitorReady s = true := by
    simpa [monitorReady, hp, hn] using h1
  unfold nextStep
  split
  · exact restoreStep_agreed hp
  · next hn =>
    exact (h.underived.settleInputs.clockReports.report kindKeypad _).stepped (by simpa using hp)
      (by simpa [monitorReady] using hready hn (by norm_num)) (by norm_num)
  · next hn =>
    exact h.setOrCatchUp.stepped (by simpa using hp) (by simpa [monitorReady] using hready hn (by norm_num)) (by norm_num)
  · next hn => exact h.contactorStep (hready hn (by norm_num))
  · next hn =>
    exact h.powered (by simp [handing, hp, hn]) (by simp [pagesStep, putPages, clearExchange, endFrame])
  · exact h

theorem runSteps_agreed (h : Agreed s) (hp : s.supply.power = .start) (n : Nat) : Agreed (runSteps n s) := by
  induction n generalizing s with
  | zero => exact h
  | succ n ih => exact ih (nextStep_agreed h hp) ((nextStep_supply s).1.trans hp)

theorem Agreed.startFromBattery (h : Agreed s) (i : StartInputs) : Agreed (startFromBattery i s) := by
  unfold Machine.startFromBattery
  split
  · exact runSteps_agreed (agreed_of_unready rfl) rfl _
  · exact h
  · exact h
  · exact h

theorem Agreed.startFromReset (h : Agreed s) (i : StartInputs) : Agreed (startFromReset i s) := by
  unfold Machine.startFromReset
  split_ifs
  · exact runSteps_agreed (agreed_of_unready rfl) rfl _
  · exact h

theorem Agreed.finishStart (h : Agreed s) : Agreed (finishStart s) := by
  unfold Machine.finishStart
  split_ifs with hf
  · simp only [Bool.and_eq_true, decide_eq_true_eq] at hf
    exact (runSteps_agreed h hf.1 _).completeWrite
  · exact h

theorem Agreed.enterMains (h : Agreed s) : Agreed (enterMains s) := by
  by_cases hp : s.supply.power = .start
  · have hrun := runSteps_agreed h hp (5 - s.supply.startStep)
    have hmains := (Agreed.catchUpThen (hrun.powered (runSteps_handing hp)
      (t := beginInterval (beginMains (runSteps (5 - s.supply.startStep) s))) (by simp)) (behind := id)
      (fun _ h => h) []).openIntake
    unfold Machine.enterMains
    dsimp only
    split_ifs
    · exact (hmains.vsFalls _).resetLow _
    · exact hmains.resetLow _
    · exact hmains.vsFalls _
    · exact hmains
  · unfold Machine.enterMains
    rwa [if_neg hp]

/-! ## Every command -/

theorem Agreed.runDue (h : Agreed s) (d : Due) : Agreed (runDue d s) := by
  have hwork {f : Work → State → State} (hf : ∀ w s, Agreed s → Agreed (f w s)) : Agreed (withWork f s) := by
    unfold withWork
    split
    · exact h
    · split_ifs
      · exact hf _ _ h
      · exact h
  cases d with
  | token => exact hwork fun w s h => h.decideToken w
  | reconnect => exact hwork fun w s h => h.decideReconnect
  | emergency => exact hwork fun w s h => h.decideEmergency
  | timeSet => exact hwork fun w s h => h.decideTimeSet w
  | calendarSubmit => exact hwork fun w s h => h.same (by simp)
  | windowCloseDiscard => exact hwork fun w s h => h.decideDiscard w
  | windowCloseCommit => exact hwork fun w s h => h.decideCommit w
  | windowClosePayloadRange => exact hwork fun w s h => h.completeEntry _
  | flagClear => exact hwork fun w s h => h.decideFlagClear w
  | kindUnknown => exact hwork fun w s h => h.completeEntry _
  | keypadLockoutStart => exact Agreed.reportPresent (h.same (by simp)) _
  | windowExpiry =>
    simp only [Machine.runDue, windowExpires]
    split_ifs
    · exact h.endWindow _
    · exact h
  | conditionQualified c => exact Agreed.report (h.onMeter _) _ _
  | weldObservation => exact h.weldArrives
  | loadTrip => exact h.tripLimiter
  | loadRetryExpiry => exact h.retryExpires
  | startReady => exact h.enterMains
  | judge => exact h.judgeAttempt
  | stuckTest => exact h.testStuck
  | friendly => exact h.evaluateFriendly
  | catchUp => exact h
  | cleanRunComplete => exact h.same ⟨rfl, rfl, rfl, rfl, rfl, rfl, rfl, rfl, rfl, rfl⟩
  | _ => exact h.same (by simp [Machine.runDue])

theorem agreed_kept : Kept Agreed where
  agenda s a h := h.same ⟨rfl, rfl, rfl, rfl, rfl, rfl, rfl, rfl, rfl, rfl⟩
  due d s h := h.runDue d
  catchUp s h := h.catchUpGoesOn
  link f s h := h.same ⟨rfl, rfl, rfl, rfl, rfl, rfl, rfl, rfl, rfl, rfl⟩
  byte a v s h := h.same (by simp)
  attention data s h := h.same (by unfold clearAttention; split <;> (try split_ifs) <;> simp)
  mask data s h := h.same (by unfold replaceMask; split <;> (try split_ifs) <;> simp)
  submit s h := h.applySubmit
  refuse code d s _ h := h.completeEntry _
  test d s _ _ _ h := h.applyTest d
  credit d s _ _ _ h := h.applyCredit d
  debtAdd d s _ _ _ h := h.applyDebtAdd d
  clear d s _ _ _ h := h.applyClear d
  setting d s _ _ _ h := h.applySetting d
  windowOpen d s _ _ _ h := h.applyWindowOpen d
  tamperClear d s _ _ _ h := h.applyTamperClear d
  keyChange d s _ _ _ h := h.applyKeyChange d
  remoteOpen d s _ _ _ h := h.applyRemote true d
  remoteClose d s _ _ _ h := h.applyRemote false d
  fails s h := by
    unfold tokenFails
    split
    · exact h
    · split_ifs
      · exact h.refuseBadCode _
      · exact h.completeEntry _
      · exact h
  publication s h := h.same (by simp)
  write s h := h.completeWrite
  interval m s h := h.closeInterval m
  pulse s h := h.same (by simp)
  wait s h := h.same (by simp)
  second p s h := by
    unfold meterSecond
    split_ifs
    · exact h.same (by simp [sampleBattery])
    · exact h
    · exact Agreed.catchUpThen (h.same (by simp)) (fun _ h => h.evaluateFriendly) _
  crystalStop s h := by
    have hbackup : Agreed (toBackup s) := h.same (by simp)
    unfold crystalStops
    dsimp only
    split_ifs
    · exact h
    · exact ((hbackup.reportPresent _).markDue _).evaluateFriendly
    · exact (hbackup.markDue _).evaluateFriendly
    · exact (hbackup.reportPresent _).evaluateFriendly
    · exact hbackup.evaluateFriendly
  crystalReturn s h := h.same (by simp)
  sample i high s h := h.sampleInput i high
  falls p s h := h.vsFalls p
  reset p s h := h.resetLow p
  rises s h := h.vsRises
  failing b s h := h.vsFails b
  start i s h := h.startFromBattery i
  resetStart i s h := h.startFromReset i
  finish s h := h.finishStart
  domain s h := by
    unfold domainLost
    split_ifs
    · exact h.same (by simp)
    · exact h

/-! ## What the CREDIT and TAMPER reasons and the EC state are -/

theorem creditReasonOf_iff (a : Account) : creditReasonOf a = true ↔ a.balance ≤ -(a.grant : Int) := by
  simp [creditReasonOf]

theorem cuts_iff (r : TamperRecord) : r.cuts = true ↔
    r.disconnect = true ∧ (r.state = .active ∨ r.state = .latched) := by
  unfold TamperRecord.cuts
  cases r.state <;> simp

/-- R79: exactly one row fits. -/
theorem ecStateOf_iff (a : Account) (p : Settings) :
    (ecStateOf a p = .unavailable ↔ a.grant = 0 ∧ (p.ecAmount = 0 ∨ (p.ecOffer : Int) < a.balance)) ∧
    (ecStateOf a p = .offered ↔ a.grant = 0 ∧ 0 < p.ecAmount ∧ a.balance ≤ p.ecOffer) ∧
    (ecStateOf a p = .inUse ↔ 0 < a.grant ∧ -(a.grant : Int) < a.balance) ∧
    (ecStateOf a p = .exhausted ↔ 0 < a.grant ∧ a.balance ≤ -(a.grant : Int)) := by
  unfold ecStateOf
  split_ifs with hg hu hb
  · have hno : ¬(0 < p.ecAmount ∧ a.balance ≤ p.ecOffer) := by
      simp only [Bool.or_eq_true, decide_eq_true_eq] at hu
      omega
    simp_all
  · simp only [Bool.or_eq_true, decide_eq_true_eq, not_or] at hu
    have hoffer : 0 < p.ecAmount ∧ a.balance ≤ p.ecOffer := by omega
    simp [hg, hu, hoffer]
  · simp [hg, hb, Nat.pos_of_ne_zero hg]
  · simp [hg, not_lt.mp hb, Nat.pos_of_ne_zero hg]

/-- Settles O12: each derivation brings block and controller in line, and nothing else moves a reason of either. -/
theorem reasonsStayAgreed : Obligations.ReasonsStayAgreed := by
  refine ⟨fun s t h he => ?_, creditReasonOf_iff, fun rs => ?_, ecStateOf_iff⟩
  · rw [reasonsAgree_iff] at h ⊢
    exact agreed_kept.step (fun _ _ h => h.same ⟨rfl, rfl, rfl, rfl, rfl, rfl, rfl, rfl, rfl, rfl⟩) s t h he
  · simp only [tamperReasonOf_iff, cuts_iff]

end Sys2Proof.Proofs
end

section
/-! SUPPORT. Commands on an agenda as a statement gives it, what a write request does, and the statements of tier 1. -/

namespace Sys2Proof.Proofs
open Sys2Proof.Machine Sys2Proof.Safety

variable {s t : State}

/-! ## Commands -/

/-- A command that stands for the step that is due next makes it, and goes on. -/
theorem atOnce_of_next {d : Due} {rest : List Due} (h : s.agenda = d :: rest) :
    atOnce d s = advance (runDue d (onAgenda (fun _ => rest) s)) := by
  have hsettle : settleTo d s = s := runUntil_of_stop (by simp [h]) _
  simp only [atOnce, hsettle, runHead, h, List.head?_cons, if_true]

/-- A command with an occasion of its own, on an empty agenda, whose effect makes a row of the table due or nothing. -/
theorem arrival_of_row (h : s.agenda = []) {f : State → State} (hf : ∀ d ∈ (f s).agenda.head?, d.isRow = true) :
    arrival f s = f s := by
  rw [arrival_of_idle h, advance_of_row hf]

theorem arrival_of_quiet (h : s.agenda = []) {f : State → State} (hf : (f s).agenda = []) : arrival f s = f s :=
  arrival_of_row h (by simp [hf])

/-! ## What a statement compares -/

theorem sameExcept_iff (ps : List Part) (s t : State) : SameExcept ps s t ↔
    (.queue ∉ ps → t.pending = s.pending) ∧ (.agenda ∉ ps → t.agenda = s.agenda) ∧ (.answer ∉ ps → t.link = s.link) ∧
    (.mem ∉ ps → t.mem = s.mem) ∧ (.intake ∉ ps → t.intake = s.intake) ∧ (.attn ∉ ps → t.attn = s.attn) ∧
    (.meter ∉ ps → t.meter = s.meter) ∧ (.energy ∉ ps → t.energy = s.energy) ∧ (.clock ∉ ps → t.clock = s.clock) ∧
    (.book ∉ ps → t.book = s.book) ∧ (.credit ∉ ps → t.credit = s.credit) ∧ (.decoder ∉ ps → t.decoder = s.decoder) ∧
    (.settings ∉ ps → t.settings = s.settings) ∧ (.window ∉ ps → t.window = s.window) ∧
    (.switch ∉ ps → t.switch = s.switch) ∧ (.tamper ∉ ps → t.tamper = s.tamper) ∧
    (.battery ∉ ps → t.battery = s.battery) ∧ (.store ∉ ps → t.store = s.store) ∧ (.supply ∉ ps → t.supply = s.supply) ∧
    (.pins ∉ ps → t.pins = s.pins) ∧ (.catchUp ∉ ps → t.catchUp = s.catchUp) := by
  constructor
  · intro h
    exact ⟨h .queue, h .agenda, h .answer, h .mem, h .intake, h .attn, h .meter, h .energy, h .clock, h .book, h .credit,
      h .decoder, h .settings, h .window, h .switch, h .tamper, h .battery, h .store, h .supply, h .pins, h .catchUp⟩
  · rintro ⟨h1, h2, h3, h4, h5, h6, h7, h8, h9, h10, h11, h12, h13, h14, h15, h16, h17, h18, h19, h20, h21⟩ p
    cases p <;> assumption

theorem onSupply_sameExcept {ps : List Part} (hp : .supply ∈ ps) (f : Supply → Supply) (s : State) :
    SameExcept ps s (onSupply f s) := by
  rw [sameExcept_iff]
  simp [hp]

/-! ## A write request (R180) -/

theorem storeFree_iff (s : State) : StoreFree s ↔ (s.store.writing.isSome || storeWaits s) = false := by
  simp [StoreFree, storeWaits]

/-- A request begins a write in an idle store, and else stands pending. -/
theorem requestWrite_asked (s : State) : StoreAsked s (requestWrite s) (sectionsOf s) := by
  constructor
  · intro h
    rw [storeFree_iff] at h
    simp [requestWrite, h, beginWrite]
  · intro h
    rw [storeFree_iff, Bool.not_eq_false] at h
    simp [requestWrite, h]

theorem requestWrite_requesters (s : State) : RequestersTold s (requestWrite s) s.intake := by
  constructor
  · intro h
    rw [storeFree_iff] at h
    simp [requestWrite, h, beginWrite]
  · intro h
    rw [storeFree_iff, Bool.not_eq_false] at h
    simp [requestWrite, h]

theorem requestWrite_frame (s : State) : SameExcept [.intake, .store, .supply] s (requestWrite s) := by
  rw [sameExcept_iff]
  simp

/-! ## Steps and frames -/

theorem step_of_front {c : Instr} {rest : List Instr} (h : s.pending = c :: rest) : step s = exec c (s.withQueue rest) := by
  unfold step
  rw [h]

theorem step_of_empty (h : s.pending = []) : step s = .next s := by
  unfold step
  rw [h]

/-- Settles O1: a frame that arrives at an empty queue stands alone in it, and is taken with the queue as it was. -/
theorem stepTakesFrontCommand : Obligations.StepTakesFrontCommand := by
  refine ⟨fun c rest s h => step_of_front h, fun s h => step_of_empty h, fun frame s h => ?_, fun c bytes => ?_, rfl, rfl⟩
  · have hqueue : (s.frameArrives frame).pending = [frameCommand frame] := by
      simp [State.frameArrives, State.withQueue, h]
    have hsame : (s.frameArrives frame).withQueue [] = s := by
      simp [State.frameArrives, State.withQueue, ← h]
    rw [step_of_front hqueue, hsame]
  · refine ⟨rfl, rfl, rfl, rfl, rfl, fun h1 h2 => ?_, fun h1 h2 h3 h4 => ?_⟩
    · simp only [frameCommand, if_neg h1, if_neg h2]
      rfl
    · simp only [frameCommand, if_neg h1, if_neg h2, if_neg h3, if_neg h4]

/-! ## Reset -/

/-- Settles O3: the reset state as its definition has it. -/
theorem resetIsANewPart : Obligations.ResetIsANewPart := by
  refine ⟨rfl, rfl, rfl, rfl, rfl, rfl, rfl, rfl, rfl, rfl, rfl, rfl, rfl, rfl, rfl, rfl, rfl, rfl, rfl, fun k => ?_, rfl⟩
  have hrecords : State.reset.store.image.setA.records.held = Vector.replicate 10 TamperRecord.cleared := rfl
  simp [hrecords, TamperRecord.cleared]

/-- The factory image obeys every rule that factory values obey. -/
theorem held_reset {R : Rules} (k : RulesKept R) : Held R State.reset :=
  have hset : SetObeys R CopySet.factory :=
    ⟨k.accountFactory, k.energyFactory, k.decoderFactory, k.settingsFactory, k.bookFactory⟩
  held_powered k ⟨hset, hset⟩ _ _ _ _ _ _

/-- Settles O4: what is retained has factory values, and what is lost in BATTERY promises nothing. -/
theorem resetKeepsEveryPromise : Obligations.ResetKeepsEveryPromise := by
  have hsettings : SettingsLawful State.reset := settingsLawful_iff.mpr (held_reset settingsRules_kept)
  refine ⟨rfl, (accountsLawful_iff hsettings).mpr (held_reset accountRules_kept), hsettings,
    calendarsLawful_iff.mpr (held_reset bookRules_kept), keysLawful_iff.mpr (held_reset keyRules_kept),
    energySumsUp_iff.mpr (held_reset energyRules_kept), settled_of_powered rfl rfl,
    (reasonsAgree_iff _).mpr (agreed_of_unready rfl), (slotsAgree_iff _).mpr slotRule_nil, ?_⟩
  unfold CounterTells
  decide

/-! ## Registers (R4, R16) -/

/-- The bytes of a list, then zeros, up to a length. -/
theorem take_zeros_eq (l : List Byte) (n : Nat) :
    (l ++ zeros n).take n = (List.range n).map fun k => l.getD k 0 := by
  refine List.ext_getElem (by simp [zeros]) fun k h1 h2 => ?_
  have hk : k < n := by simpa [zeros] using h1
  by_cases hl : k < l.length
  · simp [List.getElem_append_left, hl, zeros]
  · simp [List.getElem_append_right, not_lt.mp hl, zeros]

/-- Settles O20: the register's bytes as captured, and zeros behind them. -/
theorem readRegisterReturnsTheRegister : Obligations.ReadRegisterReturnsTheRegister := by
  refine ⟨fun r rest s ha => ?_, fun s ha => exec_readRegister ha []⟩
  rw [exec_readRegister ha, readRegisterAnswer, take_zeros_eq]
  refine congrArg (fun l => Host.Outcome.next (answerFrame ([0, 0] ++ l) s)) (List.map_congr_left fun k _ => ?_)
  by_cases h0 : r = 0
  · subst h0
    cases hp : s.supply.power <;> cases hr : s.intake.ready <;> cases hw : s.intake.work <;>
      simp [registerBytes, partStatus, byte, le, slotInWork, flagByte, flag, hp, hr, hw, Power.code]
  · by_cases h1 : r = 1
    · subst h1
      cases k <;> simp [registerBytes]
    · by_cases h2 : r = 2
      · subst h2
        cases k <;> simp [registerBytes]
      · simp only [registerBytes, if_neg h0, h1, h2, false_and, if_false]
        rfl

/-! ## Pulses and waits (R139, R140, R145, R154) -/

theorem attempt_unchanged {s : State} {a : Attempt} (h : s.switch.attempt = a) :
    { s with switch := { s.switch with attempt := a } } = s := by
  subst h
  rfl

/-- Settles O47: the ends of pulse and wait move the attempt alone; the timer's end begins one. -/
theorem pulsesAndWaitsEnd : Obligations.PulsesAndWaitsEnd := by
  refine ⟨fun s ha => ?pulse, fun s ha => ?wait, fun s rest ha => ?retry⟩
  case pulse =>
    have hexec : exec .coilPulseEnd s = .next (arrival pulseEnds s) := rfl
    rw [hexec, arrival_of_quiet ha (by simpa using ha), pulseEnds]
    cases h : s.switch.attempt
    case pulse w => rfl
    all_goals exact congrArg Host.Outcome.next (attempt_unchanged h).symm
  case wait =>
    have hexec : exec .confirmationWaitEnd s = .next (arrival waitEnds s) := rfl
    rw [hexec, arrival_of_quiet ha (by simpa using ha), waitEnds]
    cases h : s.switch.attempt
    case wait w => rfl
    all_goals exact congrArg Host.Outcome.next (attempt_unchanged h).symm
  case retry =>
    have hexec : exec .stuckRetry s = .next (atOnce .stuckRetry s) := rfl
    rw [hexec, atOnce_of_next ha]
    refine congrArg (fun t => Host.Outcome.next (advance t)) ?_
    by_cases hc : s.switch.contactor = .stuck
    · by_cases hi : s.switch.attempt = .idle
      · cases hp : s.supply.power <;> by_cases hq : s.switch.acting = Reasons.empty <;>
          simp [runDue, retryStuck, beginAttempt, beginPulse, onAgenda, onSwitch, driven, isEmpty_iff, hc, hi, hp, hq]
      · simp [runDue, retryStuck, onAgenda, hc, hi]
    · simp [runDue, retryStuck, onAgenda, hc]

/-! ## BATTERY (R40, R169, R175) -/

theorem modeActive_eq (mode : Nat) (high : Bool) : modeActive mode high = (high != mode.testBit 9) := by
  simp [modeActive, Nat.testBit_eq_decide_div_mod_eq, beq_eq_decide]

theorem watch_sample (b : BatteryWatch) (time : Nat) (high : Bool) :
    b.sample time high = watched b time (high != b.mode.testBit 9) := by
  have hlevel : modeActive b.mode high = (high != b.mode.testBit 9) := modeActive_eq _ _
  unfold BatteryWatch.sample watched
  simp only [hlevel]
  cases (high != b.mode.testBit 9) <;> cases hp : b.previous <;> simp [capped]

/-- Settles O52: one tick and one sample of each watched input, or nothing where the domain is lost. -/
theorem batteryKeepsTime : Obligations.BatteryKeepsTime := by
  refine ⟨fun p s ha hp hi => ?keeps, fun p s ha hp hi => ?lost, fun s ha => ?loss⟩
  case keeps =>
    have hexec : exec (.meterSecond p) s = .next (arrival (meterSecond p) s) := rfl
    have hsecond : meterSecond p s = sampleBattery p (tick s) := by simp [meterSecond, hp, hi]
    rw [hexec, arrival_of_quiet ha (by simpa [hsecond] using ha), hsecond]
    simp only [sampleBattery, watch_sample]
    rfl
  case lost =>
    have hexec : exec (.meterSecond p) s = .next (arrival (meterSecond p) s) := rfl
    have hsecond : meterSecond p s = s := by simp [meterSecond, hp, hi]
    rw [hexec, arrival_of_quiet ha (by simpa [hsecond] using ha), hsecond]
  case loss =>
    have hexec : exec .batteryDomainLoss s = .next (arrival domainLost s) := rfl
    have hagenda : (domainLost s).agenda = [] := by
      unfold domainLost
      split_ifs <;> simpa using ha
    rw [hexec, arrival_of_quiet ha hagenda, domainLost]
    rfl

/-! ## VS and RESET_N outside MAINS (R174, R182, R186) -/

/-- Settles O56: each power state's row of the supply commands. -/
theorem otherPowerStatesRemember : Obligations.OtherPowerStatesRemember := by
  intro p s ha
  have hfalls (t : State) (h : vsFalls p s = t) (ht : t.agenda = []) : exec (.holdupEntry p) s = .next t :=
    congrArg _ ((arrival_of_quiet ha (by rw [h, ht])).trans h)
  have hreset (t : State) (h : resetLow p s = t) (ht : t.agenda = []) : exec (.resetNLow p) s = .next t :=
    congrArg _ ((arrival_of_quiet ha (by rw [h, ht])).trans h)
  have hrises (t : State) (h : vsRises s = t) (ht : t.agenda = []) : exec .holdupReturn s = .next t :=
    congrArg _ ((arrival_of_quiet ha (by rw [h, ht])).trans h)
  refine ⟨fun hp => ⟨?_, ?_, ?_⟩, fun hp => ⟨?_, ?_, ?_⟩, fun hp => ?_, fun hp => ?_, fun hp hr => ⟨?_, ?_⟩,
    fun hp hr => ?_⟩
  · exact hfalls (setVsLow true s) (by simp only [vsFalls, hp]) ha
  · exact hreset (onSupply (fun x => { x with resetRemembered := true }) s) (by simp only [resetLow, hp]) ha
  · exact hrises (setVsLow false s) (by simp only [vsRises, hp]) ha
  · exact hfalls _ (by simp only [vsFalls, hp]) ha
  · exact hreset _ (by simp only [resetLow, hp]) ha
  · exact hrises _ (by simp only [vsRises, hp]) ha
  · exact hrises _ (by simp only [vsRises, hp]) ha
  · exact hfalls (setVsLow true s) (by simp only [vsFalls, hp]) ha
  · exact hreset _ (by simp only [resetLow, hp, hr, if_true]) ha
  · exact hrises (setVsLow false s) (by simp only [vsRises, hp, hr, if_true]) ha
  · have hmark : resetLow p s = markReset s := by simp [resetLow, hp, hr]
    refine ⟨markReset s, hreset _ hmark (by simpa using ha), ?_, requestWrite_asked _, requestWrite_requesters _⟩
    exact sameExcept_trans (onSupply_sameExcept (by simp) _ s) (requestWrite_frame _)

end Sys2Proof.Proofs
end

section
/-! SUPPORT. The pages that a publication writes show every field of the statements' tables at its address, and 0x00 in every
other byte. -/

namespace Sys2Proof.Proofs
open Sys2Proof.Machine Sys2Proof.Safety

/-! ## Layouts -/

/-- Where a layout from `pos` on ends. -/
def endOf : Nat → List (Nat × List Byte) → Nat
  | pos, [] => pos
  | _, (a, bytes) :: rest => endOf (a + bytes.length) rest

/-- Fields that stand at rising addresses from `pos` on, none over another. -/
def Rising : Nat → List (Nat × List Byte) → Prop
  | _, [] => True
  | pos, (a, bytes) :: rest => pos ≤ a ∧ Rising (a + bytes.length) rest

/-- Two lists of fields give the same bytes wherever they begin, and end at one place. -/
def SameBytes (l f : List (Nat × List Byte)) : Prop :=
  ∀ pos, layout pos l = layout pos f ∧ endOf pos l = endOf pos f

theorem layout_append (pos : Nat) (l f : List (Nat × List Byte)) :
    layout pos (l ++ f) = layout pos l ++ layout (endOf pos l) f := by
  induction l generalizing pos with
  | nil => rfl
  | cons x l ih => simp [layout, endOf, ih]

theorem endOf_append (pos : Nat) (l f : List (Nat × List Byte)) : endOf pos (l ++ f) = endOf (endOf pos l) f := by
  induction l generalizing pos with
  | nil => rfl
  | cons x l ih => simp [endOf, ih]

theorem rising_append (pos : Nat) (l f : List (Nat × List Byte)) :
    Rising pos (l ++ f) ↔ Rising pos l ∧ Rising (endOf pos l) f := by
  induction l generalizing pos with
  | nil => simp [Rising, endOf]
  | cons x l ih => simp [Rising, endOf, ih, and_assoc]

theorem SameBytes.append {l f m g : List (Nat × List Byte)} (h : SameBytes l f) (k : SameBytes m g) :
    SameBytes (l ++ m) (f ++ g) := by
  intro pos
  obtain ⟨hl, he⟩ := h pos
  obtain ⟨km, ke⟩ := k (endOf pos f)
  simp only [layout_append, endOf_append, hl, he, km, ke, and_self]

/-- Rising fields take their places up to the end. -/
theorem layout_length {pos : Nat} {l : List (Nat × List Byte)} (h : Rising pos l) :
    pos + (layout pos l).length = endOf pos l := by
  induction l generalizing pos with
  | nil => rfl
  | cons x l ih =>
    obtain ⟨hx, hl⟩ := h
    have hrest := ih hl
    simp only [layout, endOf, List.length_append, List.length_replicate]
    omega

/-- Fields with another origin. -/
def shifted (base : Nat) (l : List (Nat × List Byte)) : List (Nat × List Byte) := l.map fun f => (base + f.1, f.2)

theorem layout_shifted (base pos : Nat) (l : List (Nat × List Byte)) :
    layout (base + pos) (shifted base l) = layout pos l := by
  induction l generalizing pos with
  | nil => rfl
  | cons x l ih =>
    have hrest := ih (x.1 + x.2.length)
    rw [← add_assoc] at hrest
    have hgap : base + x.1 - (base + pos) = x.1 - pos := by omega
    simp only [shifted, List.map_cons, layout, hgap] at hrest ⊢
    rw [hrest]

theorem rising_shifted (base pos : Nat) (l : List (Nat × List Byte)) :
    Rising (base + pos) (shifted base l) ↔ Rising pos l := by
  induction l generalizing pos with
  | nil => rfl
  | cons x l ih =>
    have hrest := ih (x.1 + x.2.length)
    rw [← add_assoc] at hrest
    simp only [shifted, List.map_cons, Rising] at hrest ⊢
    rw [hrest, Nat.add_le_add_iff_left]

/-! ## What a stretch of the memory shows -/

/-- From `lo` to `hi` the memory holds these fields, and 0x00 in every byte of no field. -/
structure Shows (m : Memory) (lo hi : Nat) (fields : List (Nat × List Byte)) : Prop where
  placed : ∀ f ∈ fields, m.readBytes f.1 f.2.length = f.2
  gaps : ∀ a, lo ≤ a → a < hi → (∀ f ∈ fields, a < f.1 ∨ f.1 + f.2.length ≤ a) → m.read a = 0

theorem readBytes_append (m : Memory) (a n k : Nat) :
    m.readBytes a (n + k) = m.readBytes a n ++ m.readBytes (a + n) k := by
  induction n generalizing a with
  | zero => simp [Memory.readBytes]
  | succ n ih =>
    have hassoc : n + 1 + k = (n + k) + 1 := by omega
    rw [hassoc, Memory.readBytes, ih, Memory.readBytes]
    simp [add_assoc, add_comm 1 n]

/-- Bytes read as two stretches. -/
theorem readBytes_of_append {m : Memory} {a : Nat} {x y : List Byte}
    (h : m.readBytes a (x ++ y).length = x ++ y) :
    m.readBytes a x.length = x ∧ m.readBytes (a + x.length) y.length = y := by
  rw [List.length_append, readBytes_append] at h
  exact List.append_inj h (by simp)

theorem read_of_zeros {m : Memory} {a n : Nat} (h : m.readBytes a n = List.replicate n 0) {b : Nat} (hlo : a ≤ b)
    (hhi : b < a + n) : m.read b = 0 := by
  rw [Memory.readBytes_eq] at h
  have hget := List.getElem_of_eq h (i := b - a) (by simp; omega)
  have hb : a + (b - a) = b := by omega
  simpa [hb] using hget

/-- A stretch that holds a layout and then zeros shows its fields. -/
theorem shows_of_layout {m : Memory} {lo k : Nat} {fields : List (Nat × List Byte)} (hr : Rising lo fields)
    (h : m.readBytes lo (layout lo fields ++ List.replicate k 0).length = layout lo fields ++ List.replicate k 0) :
    Shows m lo (endOf lo fields + k) fields := by
  induction fields generalizing lo with
  | nil =>
    refine ⟨by simp, fun a hlo hhi _ => ?_⟩
    exact read_of_zeros (n := k) (by simpa [layout] using h) hlo hhi
  | cons x fields ih =>
    obtain ⟨a, bytes⟩ := x
    obtain ⟨ha, hrest⟩ := hr
    have hsplit : layout lo ((a, bytes) :: fields) ++ List.replicate k 0 =
        List.replicate (a - lo) 0 ++ (bytes ++ (layout (a + bytes.length) fields ++ List.replicate k 0)) := by
      simp [layout]
    rw [hsplit] at h
    obtain ⟨hgap, h⟩ := readBytes_of_append h
    have hplace : lo + (List.replicate (a - lo) (0 : Byte)).length = a := by simp; omega
    rw [hplace] at h
    obtain ⟨hbytes, h⟩ := readBytes_of_append h
    obtain ⟨ihf, ihg⟩ := ih hrest h
    refine ⟨fun f hf => ?_, fun b hlo hhi hb => ?_⟩
    · rcases List.mem_cons.mp hf with rfl | hf
      · exact hbytes
      · exact ihf f hf
    · rcases hb (a, bytes) (by simp) with hlt | hge
      · exact read_of_zeros (n := a - lo) (by simpa using hgap) hlo (by omega)
      · exact ihg b hge hhi fun f hf => hb f (by simp [hf])

/-- The same fields in another order, but for fields without a byte. -/
theorem Shows.of_mem {m : Memory} {lo hi : Nat} {l f : List (Nat × List Byte)} (h : Shows m lo hi l)
    (hf : ∀ x ∈ f, x ∈ l) (hl : ∀ x ∈ l, x ∈ f ∨ x.2 = []) : Shows m lo hi f := by
  refine ⟨fun x hx => h.placed x (hf x hx), fun a hlo hhi hg => h.gaps a hlo hhi fun x hx => ?_⟩
  rcases hl x hx with hx | hx
  · exact hg x hx
  · rw [hx]
    exact lt_or_ge a x.1

/-! ## Codes -/

theorem byte_eq (v : Nat) : byte v = le 1 v := rfl

theorem le_one (v : Nat) : le 1 v = [BitVec.ofNat 8 v] := rfl

theorem le_of_flag (b : Bool) : flagByte b = yes b := by cases b <;> rfl

theorem bits_cons (b : Bool) (l : List Bool) : bits (b :: l) = flag b + 2 * bits l := by
  have hdouble : (l.mapIdx fun i b => if b then 2 ^ (i + 1) else 0) =
      (l.mapIdx fun i b => if b then 2 ^ i else 0).map (2 * ·) := by
    refine List.ext_getElem (by simp) fun i _ _ => ?_
    simp only [List.getElem_mapIdx, List.getElem_map, pow_succ, mul_comm]
    split_ifs <;> rfl
  have hsum : (l.mapIdx fun i b => if b then 2 ^ (i + 1) else 0).sum = 2 * bits l := by
    rw [hdouble, List.sum_map_mul_left, List.map_id', bits]
  rw [bits, List.mapIdx_cons, List.sum_cons, hsum]
  cases b <;> rfl

/-- A set or mask has the same number in the model and in the statements. -/
theorem maskOf_eq_bits (l : List Bool) : maskOf l = bits l := by
  induction l with
  | nil => rfl
  | cons b l ih => rw [maskOf, ih, bits_cons]

theorem powerByte (p : Power) : BitVec.ofNat 8 p.code = powerCode p := by cases p <;> rfl
theorem causeByte (c : StartCause) : BitVec.ofNat 8 c.code = causeCode c := by cases c <;> rfl
theorem ecByte (e : EcState) : BitVec.ofNat 8 e.code = ecCode e := by cases e <;> rfl
theorem windowByte (w : WindowState) : BitVec.ofNat 8 w.code = windowCode w := by cases w <;> rfl
theorem endByte (c : EndCause) : BitVec.ofNat 8 c.code = endCode c := by cases c <;> rfl
theorem contactorByte (c : Contactor) : BitVec.ofNat 8 c.code = contactorCode c := by cases c <;> rfl
theorem governingByte (g : Governing) : BitVec.ofNat 8 g.code = governingCode g := by cases g <;> rfl
theorem recordByte (r : TamperState) : BitVec.ofNat 8 r.code = recordCode r := by cases r <;> rfl
theorem oscillatorByte (o : Oscillator) : BitVec.ofNat 8 o.code = if o = .backup then 1 else 0 := by cases o <;> rfl

/-- Two half-byte sets in one byte (R188). -/
theorem twoMasks (a b c d e f : Bool) : bits [a, b, c] + 16 * bits [d, e, f] = bits [a, b, c, false, d, e, f] := by
  revert a b c d e f
  decide

/-! ## The groups of the status page -/

theorem supply_sameBytes (s : State) (gen : Nat) :
    SameBytes (supplyFields s gen) ((0, le 4 gen) :: supplyShown s) := by
  intro pos
  cases hw : s.intake.work <;>
    simp [supplyFields, supplyShown, layout, endOf, le_length, byte_eq, powerByte, causeByte, le_of_flag, yes, slotInWork,
      maskOf_eq_bits, hw, le_one]

theorem meter_sameBytes (s : State) : SameBytes (meterFields s) (meterShown s) := by
  intro pos
  simp [meterFields, meterShown, layout, endOf, le_length, byte_eq, le_of_flag, yes, twoMasks, leSigned, Phases.toList,
    Bands.toList, maskOf_eq_bits]

theorem balanceDisplay_eq (b : Int) : balanceDisplay b = yes (b < 0) ++ (List.range 7).map fun k =>
    BitVec.ofNat 8 (16 * (b.natAbs / 10 ^ (13 - 2 * k) % 10) + b.natAbs / 10 ^ (12 - 2 * k) % 10) := by
  simp [balanceDisplay, yes, packedDecimal, List.range, List.range.loop]

theorem le_absent : le 2 0xFFFF = [0xFF, 0xFF] := rfl

theorem calendar_credit_sameBytes (s : State) :
    SameBytes (calendarFields s ++ creditFields s) (calendarShown s ++ creditShown s) := by
  intro pos
  cases hl : s.book.lastCharged <;> cases hp : s.book.passive <;>
    simp [calendarFields, calendarShown, creditFields, creditShown, layout, endOf, le_length, byte_eq, le_of_flag, yes,
      leSigned, oscillatorByte, ecByte, today, hl, hp, balanceDisplay_eq, le_absent, Account.flagBits, maskOf_eq_bits, le_one]

/-- The decoder's, the window's and the settings' fields by rising address. -/
def codesRising (s : State) : List (Nat × List Byte) :=
  let d := s.decoder
  keyShown 0x0124 d.key0 ++ keyShown 0x0130 d.key1 ++ keyShown 0x013C d.key2 ++ keyShown 0x0148 d.key3 ++
  [(0x0154, le 1 d.badCount), (0x0155, yes d.remoteOrder), (0x0156, le 2 d.lockout),
   (0x0158, le 1 d.lastToken.source), (0x0159, le 1 d.lastToken.slot), (0x015A, le 1 d.lastToken.cls),
   (0x015B, le 3 d.lastToken.serial), (0x015E, [windowCode s.window.state]), (0x015F, le 1 s.window.rank),
   (0x0160, le 2 s.window.remaining), (0x0162, [endCode s.window.cause])] ++
  match s.window.staged with
  | none => settingsShown 0x0167 s.settings
  | some p => [(0x0163, [1]), (0x0164, le 3 (bits (List.zipWith (· != ·) p.toList s.settings.toList)))] ++
      settingsShown 0x0167 s.settings ++ settingsShown 0x01A0 p

theorem mem_codesRising {s : State} {x : Nat × List Byte} : x ∈ codesShown s ↔ x ∈ codesRising s := by
  cases hp : s.window.staged
  · simp only [codesShown, codesRising, hp, List.append_nil]
  · simp only [codesShown, codesRising, hp, List.mem_append]
    tauto

theorem le_three_zero : le 3 0 = [0, 0, 0] := rfl

theorem codes_sameBytes (s : State) : SameBytes (decoderFields s ++ windowFields s) (codesRising s) := by
  intro pos
  have hrange : List.range 19 = [0, 1, 2, 3, 4, 5, 6, 7, 8, 9, 10, 11, 12, 13, 14, 15, 16, 17, 18] := rfl
  have hkey (k : KeySlot) : 128 * flag k.present + k.authority = k.authority + if k.present then 128 else 0 := by
    cases k.present <;> simp [flag, add_comm]
  cases hp : s.window.staged <;>
    simp [decoderFields, windowFields, codesRising, keyShown, keySlotBytes, settingsShown, settingsBytes, hrange, layout,
      endOf, le_length, byte_eq, le_of_flag, yes, windowByte, endByte, hp, hkey, Settings.toList, changedMask,
      maskOf_eq_bits, le_one, le_three_zero]

theorem switch_sameBytes (s : State) : SameBytes (switchFields s) (switchShown s) := by
  intro pos
  simp [switchFields, switchShown, layout, endOf, le_length, byte_eq, le_of_flag, yes, contactorByte, governingByte,
    Reasons.code, maskOf_eq_bits, reasonBits, friendlyContribution, le_one]

/-- The tamper monitor's fields on the status page. -/
def tamperStatus (s : State) : List (Nat × List Byte) :=
  let x := s.tamper
  [(0x01F0, yes x.reason), (0x01F1, le 2 (bits (x.records.toList.map (·.state == .active)))),
   (0x01F3, le 2 (bits (x.records.toList.map (·.state == .latched)))),
   (0x01F5, le 1 (bits [x.caseIn.qualified, x.coverIn.qualified, x.magIn.qualified, false, x.caseIn.raw, x.coverIn.raw,
     x.magIn.raw])),
   (0x01F6, le 3 s.settings.caseInput), (0x01F9, le 3 s.settings.coverInput), (0x01FC, le 3 s.settings.magnetInput)]

theorem tamper_sameBytes (s : State) : SameBytes (tamperFields s) (tamperStatus s) := by
  intro pos
  simp [tamperFields, tamperStatus, layout, endOf, le_length, byte_eq, le_of_flag, yes, recordMask, maskOf_eq_bits,
    twoMasks, le_one]

/-! ## The pages -/

/-- The fields of the status page behind the counter, by rising address. -/
def statusRising (s : State) : List (Nat × List Byte) :=
  supplyShown s ++ meterShown s ++ (calendarShown s ++ creditShown s) ++ codesRising s ++ switchShown s ++ tamperStatus s

theorem status_sameBytes (s : State) (gen : Nat) : SameBytes (supplyFields s gen ++ meterFields s ++ calendarFields s ++
    creditFields s ++ decoderFields s ++ windowFields s ++ switchFields s ++ tamperFields s)
    ((0, le 4 gen) :: statusRising s) := by
  have h := (((((supply_sameBytes s gen).append (meter_sameBytes s)).append (calendar_credit_sameBytes s)).append
    (codes_sameBytes s)).append (switch_sameBytes s)).append (tamper_sameBytes s)
  simpa only [statusRising, List.append_assoc, List.cons_append] using h

theorem supplyShown_rising (s : State) : Rising 4 (supplyShown s) ∧ endOf 4 (supplyShown s) = 0x11 := by
  cases hw : s.intake.work <;> simp [supplyShown, Rising, endOf, le_length, yes, hw]

theorem meterShown_rising (s : State) : Rising 0x11 (meterShown s) ∧ endOf 0x11 (meterShown s) = 0x90 := by
  simp [meterShown, Rising, endOf, le_length, yes, leSigned]

theorem calendar_creditShown_rising (s : State) : Rising 0x90 (calendarShown s ++ creditShown s) ∧
    endOf 0x90 (calendarShown s ++ creditShown s) = 0x124 := by
  cases hl : s.book.lastCharged <;> cases hp : s.book.passive <;>
    simp [calendarShown, creditShown, Rising, endOf, le_length, yes, leSigned, hl, hp]

theorem codesRising_rising (s : State) : Rising 0x124 (codesRising s) ∧ endOf 0x124 (codesRising s) ≤ 0x1D9 := by
  have hrange : List.range 19 = [0, 1, 2, 3, 4, 5, 6, 7, 8, 9, 10, 11, 12, 13, 14, 15, 16, 17, 18] := rfl
  cases hp : s.window.staged <;>
    simp [codesRising, keyShown, settingsShown, hrange, Rising, endOf, le_length, yes, hp]

theorem switchShown_rising {pos : Nat} (h : pos ≤ 0x1D9) (s : State) :
    Rising pos (switchShown s) ∧ endOf pos (switchShown s) = 0x1F0 := by
  simp [switchShown, Rising, endOf, le_length, yes, reasonBits, h]

theorem tamperStatus_rising (s : State) : Rising 0x1F0 (tamperStatus s) ∧ endOf 0x1F0 (tamperStatus s) = 0x1FF := by
  simp [tamperStatus, Rising, endOf, le_length, yes]

theorem statusRising_rising (s : State) : Rising 4 (statusRising s) ∧ endOf 4 (statusRising s) = 0x1FF := by
  obtain ⟨hsupply, esupply⟩ := supplyShown_rising s
  obtain ⟨hmeter, emeter⟩ := meterShown_rising s
  obtain ⟨hcredit, ecredit⟩ := calendar_creditShown_rising s
  obtain ⟨hcodes, ecodes⟩ := codesRising_rising s
  obtain ⟨hswitch, eswitch⟩ := switchShown_rising ecodes s
  obtain ⟨htamper, etamper⟩ := tamperStatus_rising s
  simp only [statusRising, rising_append, endOf_append] at hcredit ecredit ⊢
  simp only [esupply, emeter, ecredit, eswitch, etamper]
  tauto

theorem page_of_rising {size k : Nat} {l f : List (Nat × List Byte)} {head : List Byte}
    (h : layout 0 l = head ++ layout k f) (hf : Rising k f) (hk : head.length = k) (hend : endOf k f ≤ size) :
    page size l = head ++ (layout k f ++ List.replicate (size - endOf k f) 0) := by
  have hlen := layout_length hf
  have hall : (layout 0 l).length = endOf k f := by rw [h, List.length_append, hk, hlen]
  simp only [page, hall, List.take_of_length_le (hall.trans_le hend)]
  rw [h, List.append_assoc]

theorem statusPage_eq (s : State) (gen : Nat) :
    statusPage s gen = le 4 gen ++ (layout 4 (statusRising s) ++ List.replicate (0x200 - endOf 4 (statusRising s)) 0) := by
  obtain ⟨hr, he⟩ := statusRising_rising s
  have h := (status_sameBytes s gen 0).1
  refine page_of_rising (head := le 4 gen) (h.trans ?_) hr (le_length _ _) (by omega)
  simp [layout, le_length]

/-! ## The tamper page -/

theorem layout_recordShown (base : Nat) (r : TamperRecord) : layout base (recordShown base r) = recordBytes r := by
  simp [recordShown, recordBytes, layout, le_length, yes, byte_eq, le_of_flag, recordByte, le_one, leSigned]

theorem recordShown_rising (base : Nat) (r : TamperRecord) :
    Rising base (recordShown base r) ∧ endOf base (recordShown base r) = base + 32 := by
  simp [recordShown, Rising, endOf, le_length, yes, leSigned]

/-- The records of a list, each in 32 bytes. -/
def recordsShown : Nat → List TamperRecord → List (Nat × List Byte)
  | _, [] => []
  | base, r :: rs => recordShown base r ++ recordsShown (base + 32) rs

theorem layout_recordsShown (base : Nat) (rs : List TamperRecord) :
    layout base (recordsShown base rs) = rs.flatMap recordBytes := by
  induction rs generalizing base with
  | nil => rfl
  | cons r rs ih =>
    rw [recordsShown, layout_append, layout_recordShown, (recordShown_rising base r).2, ih, List.flatMap_cons]

theorem recordsShown_rising (base : Nat) (rs : List TamperRecord) :
    Rising base (recordsShown base rs) ∧ endOf base (recordsShown base rs) = base + 32 * rs.length := by
  induction rs generalizing base with
  | nil => simp [recordsShown, Rising, endOf]
  | cons r rs ih =>
    obtain ⟨hr, he⟩ := recordShown_rising base r
    obtain ⟨ihr, ihe⟩ := ih (base + 32)
    rw [recordsShown, rising_append, endOf_append, he, ihe, List.length_cons]
    exact ⟨⟨hr, ihr⟩, by omega⟩

theorem recordsShown_eq (rs : Vector TamperRecord 10) :
    (List.finRange 10).flatMap (fun k => recordShown (0x0600 + 32 * k.val) rs[k]) = recordsShown 0x0600 rs.toList := by
  have hlist : rs.toList = [rs[0], rs[1], rs[2], rs[3], rs[4], rs[5], rs[6], rs[7], rs[8], rs[9]] := by
    refine List.ext_getElem (by simp) fun i h1 h2 => ?_
    have hi : i < 10 := by simpa using h1
    interval_cases i <;> simp
  have hrange : List.finRange 10 = [0, 1, 2, 3, 4, 5, 6, 7, 8, 9] := by decide
  rw [hlist, hrange]
  simp [recordsShown]

theorem tamperPage_eq (s : State) : tamperPage s = layout 0x0600 (recordsShown 0x0600 s.tamper.records.toList) ++
    List.replicate (0x800 - endOf 0x0600 (recordsShown 0x0600 s.tamper.records.toList)) 0 := by
  obtain ⟨hr, he⟩ := recordsShown_rising 0x0600 s.tamper.records.toList
  have hlen := layout_length hr
  rw [layout_recordsShown] at hlen ⊢
  have hrecords : s.tamper.records.toList.length = 10 := by simp
  rw [hrecords] at he
  simp only [tamperPage, page, layout, Nat.sub_self, List.replicate_zero, List.nil_append, List.append_nil]
  rw [List.take_of_length_le (by omega)]
  congr 2
  omega

/-! ## The calendar views -/

/-- A list of places of one width. -/
theorem layout_places {α : Type} (g : α → List Byte) (w : Nat) (hw : ∀ x, (g x).length = w) (base : Nat) (xs : List α) :
    let f := xs.mapIdx fun i x => (base + w * i, g x)
    layout base f = xs.flatMap g ∧ Rising base f ∧ endOf base f = base + w * xs.length := by
  induction xs generalizing base with
  | nil => simp [layout, Rising, endOf]
  | cons x xs ih =>
    have hnext : (xs.mapIdx fun i x => (base + w * (i + 1), g x)) = xs.mapIdx fun i x => (base + w + w * i, g x) := by
      refine congrArg (fun f => List.mapIdx f xs) (funext fun i => funext fun y => ?_)
      rw [mul_add, mul_one, add_assoc, add_comm (w * i)]
    obtain ⟨il, ir, ie⟩ := ih (base + w)
    simp only [List.mapIdx_cons, mul_zero, add_zero, hnext, layout, Rising, endOf, hw, il, ir, ie, Nat.sub_self,
      List.replicate_zero, List.nil_append, List.flatMap_cons, List.length_cons, le_refl, true_and]
    rw [mul_add, mul_one, add_assoc, add_comm w]

/-- The fields of a view before its lists. -/
def viewHead (base : Nat) (c : Tariff) : List (Nat × List Byte) :=
  [(base, le 2 c.id), (base + 0x02, leSigned 2 c.offset), (base + 0x04, le 4 c.prices.b0), (base + 0x08, le 4 c.prices.b1),
   (base + 0x0C, le 4 c.prices.b2), (base + 0x10, le 4 c.prices.b3), (base + 0x14, le 4 c.prices.b4),
   (base + 0x18, le 4 c.prices.b5), (base + 0x1C, le 1 c.defaultBand), (base + 0x1D, le 1 c.switchPoints.length),
   (base + 0x1E, le 1 c.holidays.length), (base + 0x1F, le 1 c.windows.length), (base + 0x20, le 4 c.standing),
   (base + 0x24, le 4 c.activation), (base + 0x28, [1])]

/-- The bytes of a switch point. -/
def pointBytes (p : SwitchPoint) : List Byte := [p.mask] ++ le 2 p.minute ++ le 1 p.band

/-- The bytes of a holiday. -/
def holidayBytes (h : Holiday) : List Byte := le 2 h.year ++ le 1 h.month ++ le 1 h.day

/-- The bytes of a friendly window. -/
def windowBytes (w : FriendlyWindow) : List Byte := [w.mask] ++ le 2 w.start ++ le 2 w.stop

/-- The fields of a view, each of its lists begun by a field without a byte. -/
def viewRising (base : Nat) (c : Tariff) : List (Nat × List Byte) :=
  viewHead base c ++
    ((base + 0x30, []) :: (c.switchPoints.take 24).mapIdx fun i p => (base + 0x30 + 4 * i, pointBytes p)) ++
    ((base + 0x90, []) :: (c.holidays.take 16).mapIdx fun i h => (base + 0x90 + 4 * i, holidayBytes h)) ++
    ((base + 0xD0, []) :: (c.windows.take 8).mapIdx fun i w => (base + 0xD0 + 5 * i, windowBytes w))

theorem viewShown_eq (base : Nat) (c : Tariff) : viewShown base c = viewHead base c ++
    ((c.switchPoints.take 24).mapIdx fun i p => (base + 0x30 + 4 * i, pointBytes p)) ++
    ((c.holidays.take 16).mapIdx fun i h => (base + 0x90 + 4 * i, holidayBytes h)) ++
    (c.windows.take 8).mapIdx fun i w => (base + 0xD0 + 5 * i, windowBytes w) := rfl

theorem mem_viewRising (base : Nat) (c : Tariff) :
    (∀ x ∈ viewShown base c, x ∈ viewRising base c) ∧ ∀ x ∈ viewRising base c, x ∈ viewShown base c ∨ x.2 = [] := by
  simp only [viewShown_eq, viewRising, List.mem_append, List.mem_cons]
  constructor
  · tauto
  · rintro x (((h | rfl | h) | rfl | h) | rfl | h) <;> tauto

theorem viewHead_sameBytes (c : Tariff) : SameBytes
    [(0x000, le 2 c.id), (0x002, leSigned 2 c.offset), (0x004, c.prices.toList.flatMap (le 4)),
     (0x01C, byte c.defaultBand),
     (0x01D, byte c.switchPoints.length ++ byte c.holidays.length ++ byte c.windows.length),
     (0x020, le 4 c.standing), (0x024, le 4 c.activation), (0x028, byte 1)] (viewHead 0 c) := by
  intro pos
  simp [viewHead, layout, endOf, le_length, byte_eq, leSigned, Bands.toList, le_one]

theorem viewHead_rising (base : Nat) (c : Tariff) :
    Rising base (viewHead base c) ∧ endOf base (viewHead base c) = base + 0x29 := by
  simp [viewHead, Rising, endOf, le_length, leSigned]

theorem viewRising_rising (base : Nat) (c : Tariff) :
    Rising base (viewRising base c) ∧ endOf base (viewRising base c) ≤ base + 0x400 := by
  obtain ⟨hhead, ehead⟩ := viewHead_rising base c
  obtain ⟨-, hpoints, epoints⟩ := layout_places pointBytes 4 (by simp [pointBytes, le_length]) (base + 0x30)
    (c.switchPoints.take 24)
  obtain ⟨-, hholidays, eholidays⟩ := layout_places holidayBytes 4 (by simp [holidayBytes, le_length]) (base + 0x90)
    (c.holidays.take 16)
  obtain ⟨-, hwindows, ewindows⟩ := layout_places windowBytes 5 (by simp [windowBytes, le_length]) (base + 0xD0)
    (c.windows.take 8)
  have hlen24 : (c.switchPoints.take 24).length ≤ 24 := List.length_take_le _ _
  have hlen16 : (c.holidays.take 16).length ≤ 16 := List.length_take_le _ _
  have hlen8 : (c.windows.take 8).length ≤ 8 := List.length_take_le _ _
  simp only [viewRising, rising_append, endOf_append, ehead, Rising, endOf, List.length_nil, add_zero, epoints, eholidays,
    ewindows]
  exact ⟨⟨⟨⟨hhead, by omega, hpoints⟩, by omega, hholidays⟩, by omega, hwindows⟩, by omega⟩

/-- A list of places written as one field. -/
theorem joined_sameBytes {α : Type} (g : α → List Byte) (w : Nat) (hw : ∀ x, (g x).length = w) (base : Nat) (xs : List α) :
    SameBytes [(base, xs.flatMap g)] ((base, []) :: xs.mapIdx fun i x => (base + w * i, g x)) := by
  intro pos
  obtain ⟨hl, -, he⟩ := layout_places g w hw base xs
  have hlen : (xs.flatMap g).length = w * xs.length := by
    simp [List.length_flatMap, hw, mul_comm]
  simp [layout, endOf, hl, he, hlen]

theorem tariffView_eq (c : Tariff) : tariffView c = layout 0 (viewRising 0 c) ++
    List.replicate (0x400 - endOf 0 (viewRising 0 c)) 0 := by
  obtain ⟨hr, he⟩ := viewRising_rising 0 c
  have h := ((viewHead_sameBytes c).append (joined_sameBytes pointBytes 4 (by simp [pointBytes, le_length]) 0x30
    (c.switchPoints.take 24))).append (joined_sameBytes holidayBytes 4 (by simp [holidayBytes, le_length]) 0x90
    (c.holidays.take 16)) |>.append (joined_sameBytes windowBytes 5 (by simp [windowBytes, le_length]) 0xD0
    (c.windows.take 8))
  have hview : tariffView c = page 0x400 _ := rfl
  have hsame : layout 0 ([(0x000, le 2 c.id), (0x002, leSigned 2 c.offset), (0x004, c.prices.toList.flatMap (le 4)),
     (0x01C, byte c.defaultBand),
     (0x01D, byte c.switchPoints.length ++ byte c.holidays.length ++ byte c.windows.length),
     (0x020, le 4 c.standing), (0x024, le 4 c.activation), (0x028, byte 1)] ++ [(0x30, (c.switchPoints.take 24).flatMap pointBytes)]
     ++ [(0x90, (c.holidays.take 16).flatMap holidayBytes)] ++ [(0xD0, (c.windows.take 8).flatMap windowBytes)]) =
    [] ++ layout 0 (viewRising 0 c) := by
    simpa only [viewRising, zero_add, List.nil_append] using (h 0).1
  exact page_of_rising hsame hr rfl (by omega)

theorem shifted_append (base : Nat) (l f : List (Nat × List Byte)) :
    shifted base (l ++ f) = shifted base l ++ shifted base f := List.map_append

theorem shifted_places {α : Type} (g : α → List Byte) (base at_ w : Nat) (xs : List α) :
    shifted base (xs.mapIdx fun i x => (0 + at_ + w * i, g x)) = xs.mapIdx fun i x => (base + at_ + w * i, g x) := by
  refine List.ext_getElem (by simp [shifted]) fun i _ _ => ?_
  simp [shifted, add_assoc]

/-- A view with its own origin. -/
theorem viewRising_shifted (base : Nat) (c : Tariff) : viewRising base c = shifted base (viewRising 0 c) := by
  have hhead : viewHead base c = shifted base (viewHead 0 c) := by simp [viewHead, shifted]
  have hcons (a : Nat) (l : List (Nat × List Byte)) :
      shifted base ((0 + a, []) :: l) = (base + a, []) :: shifted base l := by simp [shifted]
  rw [viewRising, viewRising, shifted_append, shifted_append, shifted_append, hcons, hcons, hcons, shifted_places,
    shifted_places, shifted_places, hhead]

theorem endOf_shifted (base pos : Nat) (l : List (Nat × List Byte)) :
    endOf (base + pos) (shifted base l) = base + endOf pos l := by
  induction l generalizing pos with
  | nil => rfl
  | cons x l ih =>
    have hrest := ih (x.1 + x.2.length)
    rw [← add_assoc] at hrest
    simpa only [shifted, List.map_cons, endOf] using hrest

theorem tariffView_at (base : Nat) (c : Tariff) : tariffView c = layout base (viewRising base c) ++
    List.replicate (base + 0x400 - endOf base (viewRising base c)) 0 := by
  have hl := layout_shifted base 0 (viewRising 0 c)
  have he := endOf_shifted base 0 (viewRising 0 c)
  rw [add_zero, ← viewRising_shifted] at hl he
  rw [hl, he, Nat.add_sub_add_left]
  exact tariffView_eq c

/-- A page read back from the stretch it was written to shows its fields. -/
theorem shows_of_page {m : Memory} {lo hi : Nat} {fields : List (Nat × List Byte)} {bytes : List Byte}
    (hb : bytes = layout lo fields ++ List.replicate (hi - endOf lo fields) 0) (hr : Rising lo fields)
    (he : endOf lo fields ≤ hi) (h : m.readBytes lo bytes.length = bytes) : Shows m lo hi fields := by
  subst hb
  have hshow := shows_of_layout hr h
  rwa [Nat.add_sub_cancel' he] at hshow

theorem readBytes_splice_other (m : Memory) {base a n : Nat} {bytes : List Byte}
    (h : a + n ≤ base ∨ base + bytes.length ≤ a) : (m.splice base bytes).readBytes a n = m.readBytes a n := by
  simp only [Memory.readBytes_eq]
  refine List.map_congr_left fun i hi => Memory.read_splice_other _ _ _ ?_
  have hn := List.mem_range.mp hi
  omega

/-- Each of the four pages, read back from where it stands. -/
theorem readBytes_writePages (s : State) (gen : Nat) :
    (writePages s gen).readBytes 0 0x200 = statusPage s gen ∧
    (writePages s gen).readBytes 0x0600 0x200 = tamperPage s ∧
    (writePages s gen).readBytes 0x0C00 0x400 = tariffView s.book.active ∧
    (writePages s gen).readBytes 0x1000 0x400 = passiveView s := by
  have hstatus : (statusPage s gen).length = 0x200 := page_length _ _
  have htamper : (tamperPage s).length = 0x200 := page_length _ _
  have hactive : (tariffView s.book.active).length = 0x400 := page_length _ _
  have hpassive := passiveView_length s
  unfold writePages
  refine ⟨?_, ?_, ?_, ?_⟩
  · rw [readBytes_splice_other _ (by omega), readBytes_splice_other _ (by omega), readBytes_splice_other _ (by omega),
      ← hstatus, Memory.readBytes_splice]
  · rw [readBytes_splice_other _ (by omega), readBytes_splice_other _ (by omega), ← htamper, Memory.readBytes_splice]
  · rw [readBytes_splice_other _ (by omega), ← hactive, Memory.readBytes_splice]
  · rw [← hpassive, Memory.readBytes_splice]

/-- The fields of the passive view. -/
def passiveShown (s : State) : List (Nat × List Byte) :=
  match s.book.passive with
  | none => []
  | some c => viewShown 0x1000 c

theorem pageFields_eq (s : State) : pageFields s = supplyShown s ++ meterShown s ++ calendarShown s ++ creditShown s ++
    codesShown s ++ switchShown s ++ (tamperStatus s ++ recordsShown 0x0600 s.tamper.records.toList) ++
    viewShown 0x0C00 s.book.active ++ passiveShown s := by
  rw [← recordsShown_eq]
  rfl

theorem view_shows {m : Memory} {base : Nat} {c : Tariff} (h : m.readBytes base 0x400 = tariffView c) :
    Shows m base (base + 0x400) (viewShown base c) := by
  obtain ⟨hr, he⟩ := viewRising_rising base c
  obtain ⟨hmem, hmem'⟩ := mem_viewRising base c
  have hlen : (tariffView c).length = 0x400 := page_length _ _
  exact (shows_of_page (tariffView_at base c) hr he (by rw [hlen, h])).of_mem hmem hmem'

/-- The four written pages show the state's fields. -/
theorem pages_show (s : State) (gen : Nat) :
    Shows (writePages s gen) 4 0x200 (supplyShown s ++ meterShown s ++ calendarShown s ++ creditShown s ++
      codesShown s ++ switchShown s ++ tamperStatus s) ∧
    Shows (writePages s gen) 0x0600 0x0800 (recordsShown 0x0600 s.tamper.records.toList) ∧
    Shows (writePages s gen) 0x0C00 0x1000 (viewShown 0x0C00 s.book.active) ∧
    Shows (writePages s gen) 0x1000 0x1400 (passiveShown s) := by
  obtain ⟨hstatus, htamper, hactive, hpassive⟩ := readBytes_writePages s gen
  refine ⟨?_, ?_, view_shows hactive, ?_⟩
  · obtain ⟨hr, he⟩ := statusRising_rising s
    have hsplit : (le 4 gen).length + (0x200 - 4) = 0x200 := by simp [le_length]
    have hbody : (writePages s gen).readBytes 4 (0x200 - 4) =
        layout 4 (statusRising s) ++ List.replicate (0x200 - endOf 4 (statusRising s)) 0 := by
      rw [statusPage_eq, ← hsplit, readBytes_append] at hstatus
      have hpart := (List.append_inj hstatus (by simp)).2
      simpa only [le_length, Nat.zero_add] using hpart
    have hlen : (layout 4 (statusRising s) ++ List.replicate (0x200 - endOf 4 (statusRising s)) (0 : Byte)).length =
        0x200 - 4 := by rw [← hbody, Memory.readBytes_length]
    refine (shows_of_page rfl hr (by omega) (by rw [hlen, hbody])).of_mem (fun x hx => ?_) fun x hx => .inl ?_
    · simp only [statusRising, List.mem_append, ← mem_codesRising] at hx ⊢
      tauto
    · simp only [statusRising, List.mem_append, ← mem_codesRising] at hx ⊢
      tauto
  · obtain ⟨hr, he⟩ := recordsShown_rising 0x0600 s.tamper.records.toList
    have hlen : (tamperPage s).length = 0x200 := page_length _ _
    exact shows_of_page (tamperPage_eq s) hr (by simp [he]) (by rw [hlen, htamper])
  · cases hc : s.book.passive with
    | none =>
      simp only [passiveView, passiveShown, hc] at hpassive ⊢
      exact ⟨by simp, fun a hlo hhi _ => read_of_zeros hpassive hlo hhi⟩
    | some c =>
      simp only [passiveView, passiveShown, hc] at hpassive ⊢
      exact view_shows hpassive

/-- The pages show the state, its memory apart, in the memory `m`. -/
structure PagesIn (m : Memory) (s : State) : Prop where
  placed : ∀ f ∈ pageFields s, m.readBytes f.1 f.2.length = f.2
  gaps : ∀ a, inPages a = true → 4 ≤ a → (∀ f ∈ pageFields s, a < f.1 ∨ f.1 + f.2.length ≤ a) → m.read a = 0

theorem writePages_shows (s : State) (gen : Nat) : PagesIn (writePages s gen) s := by
  obtain ⟨⟨hs, gs⟩, ⟨ht, gt⟩, ⟨ha, ga⟩, hp, gp⟩ := pages_show s gen
  refine ⟨fun f hf => ?_, fun a hin h4 hg => ?_⟩
  · rw [pageFields_eq] at hf
    simp only [List.mem_append] at hf hs
    rcases hf with (((h | h | h) | h) | h)
    · exact hs f (.inl h)
    · exact hs f (.inr h)
    · exact ht f h
    · exact ha f h
    · exact hp f h
  · rw [pageFields_eq] at hg
    simp only [List.mem_append] at hg gs
    simp only [inPages, Bool.or_eq_true, Bool.and_eq_true, decide_eq_true_eq] at hin
    rcases hin with (hin | hin) | hin
    · exact gs a h4 (by omega) fun f hf => hg f (by tauto)
    · exact gt a (by omega) (by omega) fun f hf => hg f (by tauto)
    · rcases Nat.lt_or_ge a 0x1000 with hlt | hge
      · exact ga a (by omega) hlt fun f hf => hg f (by tauto)
      · exact gp a hge (by omega) fun f hf => hg f (by tauto)

/-! ## Publications (R14) -/

theorem beginPublication_mem (s : State) :
    (beginPublication s).mem = writePages s ((generation s.mem + 1) % 4294967296) := rfl

theorem beginPublication_shows (s : State) : PagesShow (beginPublication s) := by
  obtain ⟨hplaced, hgaps⟩ := writePages_shows s ((generation s.mem + 1) % 4294967296)
  exact ⟨hplaced, hgaps⟩

theorem generation_beginPublication (s : State) :
    generation (beginPublication s).mem = (generation s.mem + 1) % 4294967296 := by
  rw [beginPublication_mem, generation_writePages]
  omega

theorem generation_closePublication (s : State) :
    generation (closePublication s).mem = (generation s.mem + 1) % 4294967296 := by
  have h := generation_splice s.mem [] ((generation s.mem + 1) % 2 ^ 32)
  rw [List.append_nil, Nat.mod_mod] at h
  exact h

theorem read_closePublication (s : State) {a : Nat} (h : 4 ≤ a) : (closePublication s).mem.read a = s.mem.read a :=
  Memory.read_splice_other _ _ _ (by rw [le_length]; omega)

/-- A publication requested where none is in progress shows the state as it stands. -/
theorem requestPublication_publishes {s u : State} (hb : u.attn.busy = s.attn.busy)
    (hg : generation u.mem = generation s.mem) : Publishes s (requestPublication u) := by
  intro h
  rw [requestPublication, hb, h]
  exact ⟨beginPublication_shows u, by rw [← hg]; exact generation_beginPublication u⟩

theorem endPublication_of_queued {s : State} (hb : s.attn.busy = true) (hq : s.attn.queued = true) :
    endPublication s = beginPublication (closePublication s) := by
  simp [endPublication, hb, hq]

theorem endPublication_of_last {s : State} (hb : s.attn.busy = true) (hq : s.attn.queued = false) :
    endPublication s = closePublication s := by
  simp [endPublication, hb, hq]

/-- Settles O41: the counter is made even, and a queued publication writes the pages of the state as it then stands. -/
theorem publicationsEnd : Obligations.PublicationsEnd := by
  intro s ha hm
  have hexec : exec .publicationEnd s = .next (endPublication s) := congrArg _ (arrival_of_quiet ha (by simpa using ha))
  refine ⟨fun hb => ?_, fun hb => ⟨_, hexec, ?_, fun hq => ?_, fun hq => ?_⟩⟩
  · rw [hexec]
    simp [endPublication, hb]
  · rw [sameExcept_iff]
    simp
  · rw [endPublication_of_last hb hq]
    exact ⟨rfl, generation_closePublication s, fun a h => read_closePublication s h⟩
  · rw [endPublication_of_queued hb hq]
    refine ⟨rfl, ?_, beginPublication_shows _, fun a h => ?_⟩
    · rw [generation_beginPublication, generation_closePublication]
      omega
    · have hlow : 4 ≤ a := by
        simp only [inPages, Bool.or_eq_false_iff, Bool.and_eq_false_iff, decide_eq_false_iff_not] at h
        omega
      exact (read_writePages h _ _).trans (read_closePublication s hlow)

end Sys2Proof.Proofs
end

section
/-! SUPPORT. The completion of an entry (R12): what its slot, the next entry and the publication are behind it. -/

namespace Sys2Proof.Proofs
open Sys2Proof.Machine Sys2Proof.Safety

/-! ## The slot -/

theorem read_slot_apart {m : Memory} {w : Work} (r : Result) {a : Nat}
    (h : a < slotBase w.slot ∨ slotBase w.slot + 64 ≤ a) : (writeResult m w r).read a = m.read a := by
  have hlen : (resultBytes r).length = 60 := by simp [resultBytes]; omega
  rw [writeResult, Memory.read_write_other _ _ (by omega), Memory.read_splice_other _ _ _ (by omega),
    Memory.read_splice_other _ _ _ (by simp only [List.length_cons, List.length_nil]; omega)]

theorem read_writeResult_kind (m : Memory) (w : Work) (r : Result) :
    (writeResult m w r).read (slotBase w.slot + 1) = m.read (slotBase w.slot + 1) := by
  rw [writeResult, Memory.read_write_other _ _ (by omega), Memory.read_splice_other _ _ _ (by omega),
    Memory.read_splice_other _ _ _ (by omega)]

/-- A byte outside what is read does not change it. -/
theorem readBytes_write_other (m : Memory) {a b n : Nat} (v : Byte) (h : b < a ∨ a + n ≤ b) :
    (m.write b v).readBytes a n = m.readBytes a n := by
  simp only [Memory.readBytes_eq]
  refine List.map_congr_left fun i hi => Memory.read_write_other _ _ ?_
  have hn := List.mem_range.mp hi
  omega

theorem readBytes_writeResult_tag (m : Memory) (w : Work) (r : Result) :
    (writeResult m w r).readBytes (slotBase w.slot + 2) 2 = [w.byteAt 2, w.byteAt 3] := by
  rw [writeResult, readBytes_write_other _ _ (by omega), readBytes_splice_other _ (by omega)]
  exact Memory.readBytes_splice m _ [w.byteAt 2, w.byteAt 3]

theorem readBytes_writeResult (m : Memory) (w : Work) (r : Result) :
    (writeResult m w r).readBytes (slotBase w.slot + 4) 60 = resultBytes r := by
  have hlen : (resultBytes r).length = 60 := by simp [resultBytes]; omega
  rw [writeResult, readBytes_write_other _ _ (by omega), ← hlen, Memory.readBytes_splice]

theorem read_writeResult_code (m : Memory) (w : Work) (r : Result) :
    (writeResult m w r).read (slotBase w.slot + 4) = r.code.code ∧
    (writeResult m w r).read (slotBase w.slot + 5) = BitVec.ofNat 8 r.item ∧
    (writeResult m w r).readBytes (slotBase w.slot + 6) 58 = r.body.take 58 ++ List.replicate (58 - r.body.length) 0 := by
  have h := readBytes_writeResult m w r
  have hsplit : (60 : Nat) = 58 + 1 + 1 := rfl
  rw [hsplit, Memory.readBytes, Memory.readBytes, resultBytes] at h
  obtain ⟨hcode, h⟩ := List.cons.inj h
  obtain ⟨hitem, hbody⟩ := List.cons.inj h
  exact ⟨hcode, hitem, hbody⟩

/-! ## The completion -/

/-- Nothing has changed from `s` to `u` that the completion of the entry `w` compares, and nothing is due. -/
structure Completing (s u : State) (w : Work) : Prop where
  intake : ∃ g, u.intake = { s.intake with work := some { w with stage := g } }
  mem : u.mem = s.mem
  bits : u.attn.bits = s.attn.bits
  mask : u.attn.mask = s.attn.mask
  busy : u.attn.busy = s.attn.busy
  agenda : u.agenda = []

/-- The entry in work with its result written, before the next one is taken. -/
def resulted (w : Work) (r : Result) (u : State) : State :=
  markDue attnSlotDone (onMem (fun m => writeResult m w r) (onIntake (fun i => { i with work := none }) u))

theorem completeEntry_of_work {u : State} {w : Work} {g : Stage} (h : u.intake.work = some { w with stage := g })
    (r : Result) : completeEntry r u = requestPublication (takeNext (resulted w r u)) := by
  simp only [completeEntry, h]
  rfl

section
variable {s u : State} {w : Work}

theorem Completing.completeEntry (h : Completing s u w) (r : Result) :
    completeEntry r u = requestPublication (takeNext (resulted w r u)) := by
  obtain ⟨g, hg⟩ := h.intake
  exact completeEntry_of_work (g := g) (by rw [hg]) r

/-- A publication leaves the parts outside the pages and ATTENTION, and queues or begins. -/
theorem requestPublication_tells (v : State) :
    (v.attn.busy = false → (requestPublication v).attn.busy = true ∧ (requestPublication v).attn.inFlight = v.attn.due) ∧
    (v.attn.busy = true → (requestPublication v).mem = v.mem ∧
      (requestPublication v).attn = { v.attn with queued := true }) := by
  constructor <;> intro h <;> simp [requestPublication, h, beginPublication]

theorem takeNext_pages {v : State} (h : ∀ n ∈ v.intake.list, n < 16) {a : Nat} (ha : inPages a = true) :
    (takeNext v).mem.read a = v.mem.read a := by
  refine read_takeNext_other fun n hn he => ?_
  rw [← he, slotBase_not_inPages (h n hn)] at ha
  exact absurd ha (by decide)

/-- The bytes that neither the taking of the next entry nor a publication writes. -/
theorem read_published {v : State} {a : Nat} (ha : inPages a = false)
    (hn : ∀ n ∈ v.intake.list.head?, v.intake.ready = true → a ≠ slotBase n) :
    (requestPublication (takeNext v)).mem.read a = v.mem.read a := by
  rw [read_requestPublication ha]
  rcases takeNext_cases v with ⟨n, rest, hl, -, hr, ht⟩ | ht <;> rw [ht]
  exact Memory.read_write_other _ _ (hn n (by simp [hl]) hr)

/-- A byte of a slot is no page's and no other slot's. -/
theorem slot_byte {n i : Nat} (hn : n < 16) (hi : i < 64) : inPages (slotBase n + i) = false ∧
    (i ≠ 0 → ∀ k, slotBase n + i ≠ slotBase k) ∧ ∀ k, k ≠ n → slotBase n + i ≠ slotBase k := by
  refine ⟨?_, fun h0 k => ?_, fun k hk => ?_⟩
  · have hrange : 0x200 ≤ slotBase n + i ∧ slotBase n + i < 0x600 := by
      unfold slotBase
      omega
    simp only [inPages, Bool.or_eq_false_iff, Bool.and_eq_false_iff, decide_eq_false_iff_not]
    omega
  · unfold slotBase
    omega
  · unfold slotBase
    omega

/-- The slot of the entry in work keeps its result whatever is taken and published behind it. -/
theorem read_slot_published {v : State} {n i : Nat} (hn : n < 16) (hi : i < 64)
    (hl : ∀ k ∈ v.intake.list, k ≠ n) :
    (requestPublication (takeNext v)).mem.read (slotBase n + i) = v.mem.read (slotBase n + i) := by
  obtain ⟨hpage, -, hother⟩ := slot_byte hn hi
  exact read_published hpage fun k hk _ => hother k (hl k (List.mem_of_mem_head? hk))

theorem readBytes_slot_published {v : State} {n i k : Nat} (hn : n < 16) (hi : i + k ≤ 64)
    (hl : ∀ x ∈ v.intake.list, x ≠ n) :
    (requestPublication (takeNext v)).mem.readBytes (slotBase n + i) k = v.mem.readBytes (slotBase n + i) k := by
  simp only [Memory.readBytes_eq]
  refine List.map_congr_left fun b hb => ?_
  have hk := List.mem_range.mp hb
  rw [add_assoc]
  exact read_slot_published hn (by omega) hl

/-- The publication at a completion (R12, R14). -/
theorem resulted_tells (h : OwnSlot s w) (hc : Completing s u w) (r : Result) :
    TellsDone s (requestPublication (takeNext (resulted w r u))) := by
  obtain ⟨⟨g, hintake⟩, hmem, hbits, hmask, hbusy, -⟩ := hc
  have hlist : ∀ n ∈ (resulted w r u).intake.list, n < 16 := fun n hn => by
    simp only [resulted, markDue_keeps, onMem_keeps, onIntake_intake, hintake] at hn
    exact (h.waiting n hn).1
  have hdue : (takeNext (resulted w r u)).attn.due.getLsbD 0 = true := by simp [resulted, attnSlotDone]
  have hbusy' : (takeNext (resulted w r u)).attn.busy = s.attn.busy := by simp [resulted, markDue, hbusy]
  obtain ⟨hnow, hlater⟩ := requestPublication_tells (takeNext (resulted w r u))
  rw [hbusy'] at hnow hlater
  refine ⟨by simpa [resulted, markDue] using hbits, by simpa [resulted] using hmask, ?_, fun hb => ?_, fun hb => ?_⟩
  · cases hb : s.attn.busy
    · exact (hnow hb).1
    · rw [(hlater hb).2]
      exact hbusy'.trans hb
  · rw [(hnow hb).2]
    exact hdue
  · obtain ⟨hm, ha⟩ := hlater hb
    refine ⟨by rw [ha], by rw [ha]; exact hdue, fun a hpage => ?_⟩
    rw [hm, takeNext_pages hlist hpage, ← hmem]
    refine read_slot_apart r ?_
    have hrange := slotBase_range h.slot
    simp only [inPages, Bool.or_eq_true, Bool.and_eq_true, decide_eq_true_eq] at hpage
    have hend : slotBase w.slot + 64 ≤ 0x600 := by have := h.slot; unfold slotBase; omega
    omega

/-- The next entry at a completion (R10). -/
theorem resulted_takes (h : OwnSlot s w) (hc : Completing s u w) (r : Result) :
    TakesNext s (requestPublication (takeNext (resulted w r u))) := by
  obtain ⟨⟨g, hintake⟩, hmem, -, -, -, hagenda⟩ := hc
  have hin : (resulted w r u).intake = { s.intake with work := none } := by
    simp [resulted, hintake]
  have hag : (resulted w r u).agenda = [] := by simpa [resulted] using hagenda
  refine ⟨fun n rest hl hr => ?_, fun hnone => ?_⟩
  · obtain ⟨hn, hne⟩ := h.waiting n (by simp [hl])
    have hsnap : takenWork (resulted w r u).mem n = takenWork s.mem n := by
      have hbytes : (writeResult s.mem w r).readBytes (slotBase n + 1) 63 = s.mem.readBytes (slotBase n + 1) 63 := by
        simp only [Memory.readBytes_eq]
        refine List.map_congr_left fun i hi => read_slot_apart r ?_
        have hk := List.mem_range.mp hi
        unfold slotBase
        omega
      simp only [takenWork, ← hmem] at hbytes ⊢
      rw [← hbytes]
      rfl
    have htake := takeNext_of_head (s := resulted w r u) (n := n) (rest := rest) (by rw [hin]) (by rw [hin]; exact hr)
      (by rw [hin]; exact hl)
    rw [hsnap] at htake
    refine ⟨?_, ?_, ?_⟩
    · simp [htake, hin, hr]
    · rw [ownerOf, read_requestPublication (slotBase_not_inPages hn), htake]
      refine ownerOf_write_same ?_ n _
      have hwf : (resulted w r u).mem.wf = true := wf_writeResult (hmem ▸ h.canonical) w r
      exact hwf
    · simp [htake, hag]
  · have hsame : takeNext (resulted w r u) = resulted w r u := by
      rcases takeNext_cases (resulted w r u) with ⟨n, rest, hl, -, hr, -⟩ | ht
      · rw [hin] at hl hr
        rcases hnone with hnone | hnone
        · simp [hnone] at hl
        · simp [hnone] at hr
      · exact ht
    rw [hsame]
    exact ⟨by simpa using hin, by simpa using hag⟩

/-- The entry in work completes as its statement has it (R12). -/
theorem Completing.completes (hc : Completing s u w) (h : OwnSlot s w) (r : Result) :
    Completes s (Machine.completeEntry r u) w r.code r.item (r.body.take 58) := by
  rw [hc.completeEntry r]
  obtain ⟨g, hintake⟩ := hc.intake
  have hin : (resulted w r u).intake.list = s.intake.list := by simp [resulted, hintake]
  have hready : (resulted w r u).intake.ready = s.intake.ready := by simp [resulted, hintake]
  have hmem : (resulted w r u).mem = writeResult s.mem w r := by
    rw [← hc.mem]
    rfl
  have hlist : ∀ n ∈ (resulted w r u).intake.list, n ≠ w.slot := fun n hn => (h.waiting n (hin ▸ hn)).2
  have hread (i : Nat) (hi : i < 64) :
      (requestPublication (takeNext (resulted w r u))).mem.read (slotBase w.slot + i) =
        (writeResult s.mem w r).read (slotBase w.slot + i) := by
    rw [read_slot_published h.slot hi hlist, hmem]
  obtain ⟨hcode, hitem, hbody⟩ := read_writeResult_code s.mem w r
  refine ⟨resulted_tells h hc r, resulted_takes h hc r, ⟨?_, ?_, ?_⟩, ?_, ?_, ?_, fun a hpage hout hn => ?_⟩
  · have howner := hread 0 (by omega)
    simp only [add_zero] at howner
    rw [ownerOf, howner]
    exact Memory.read_write_same (Memory.wf_splice (Memory.wf_splice h.canonical _ _) _ _) _ _
  · rw [hread 4 (by omega), hcode]
  · rw [hread 5 (by omega), hitem]
  · rw [readBytes_slot_published h.slot (by omega) hlist, hmem, hbody, List.length_take]
    congr 2
    omega
  · rw [readBytes_slot_published h.slot (by omega) hlist, hmem, readBytes_writeResult_tag]
  · rw [hread 1 (by omega), read_writeResult_kind]
  · rw [read_published hpage (by rw [hin, hready]; exact hn), hmem, read_slot_apart r hout]

/-- The publication of a completion shows the state behind it (R14, Assumption 46). -/
theorem Completing.publishes (hc : Completing s u w) (r : Result) : Publishes s (Machine.completeEntry r u) := by
  rw [hc.completeEntry r]
  refine requestPublication_publishes (by simp [resulted, markDue, hc.busy]) ?_
  have hmem : (resulted w r u).mem = writeResult s.mem w r := by
    rw [← hc.mem]
    rfl
  rcases takeNext_cases (resulted w r u) with ⟨n, rest, -, -, -, ht⟩ | ht <;> rw [ht]
  · have hwrite : generation ((writeResult s.mem w r).write (slotBase n) ownerTaken) = generation s.mem := by
      rw [generation_writeSlot, generation_writeResult]
    rw [← hwrite, ← hmem]
    rfl
  · rw [hmem, generation_writeResult]

/-- What a completion leaves alone. -/
theorem completeEntry_frame (r : Result) (u : State) :
    SameExcept [.mem, .intake, .attn, .agenda] u (Machine.completeEntry r u) := by
  rw [sameExcept_iff]
  simp

/-- Behind a completion a row of the table is next, or nothing is due. -/
theorem Completing.head_isRow (hc : Completing s u w) (r : Result) :
    ∀ d ∈ (Machine.completeEntry r u).agenda.head?, d.isRow = true := by
  rw [hc.completeEntry r, (requestPublication_keeps _).2.1]
  exact takeNext_head_isRow (by simp [resulted, hc.agenda])

end

end Sys2Proof.Proofs
end

section
/-! SUPPORT. What the statements see of an evaluation, of a reason handed on, and of the two derivations that hand one on, also
where the states compared differ in what an evaluation does not touch. -/

namespace Sys2Proof.Proofs
open Sys2Proof.Machine Sys2Proof.Safety

variable {s t u v : State}

/-! ## Bits that become due -/

/-- Every bit that was due still is. -/
def DueStands (s t : State) : Prop := ∀ i, s.attn.due.getLsbD i = true → t.attn.due.getLsbD i = true

theorem DueStands.refl (s : State) : DueStands s s := fun _ h => h

theorem DueStands.trans (h : DueStands s t) (k : DueStands t u) : DueStands s u := fun i hi => k i (h i hi)

theorem dueStands_of_eq (h : t.attn.due = s.attn.due) : DueStands s t := fun i hi => by rw [h, hi]

theorem markDue_stands (b : BitVec 6) (s : State) : DueStands s (markDue b s) := fun i hi => by simp [hi]

theorem markSwitch_stands (s : State) : DueStands s (markSwitch s) := by
  unfold markSwitch
  dsimp only
  split_ifs
  · exact .refl s
  · exact markDue_stands attnSwitch _

theorem act_attn (s : State) : (actOnContactor s).attn = s.attn := by simp

theorem evaluate_stands (s : State) : DueStands s (evaluate s) :=
  .trans (dueStands_of_eq (by rw [act_attn]; rfl)) (markSwitch_stands (actOnContactor (formSets s)))

theorem handReason_stands (r : Governing) (on : Bool) (s : State) : DueStands s (handReason r on s) := by
  unfold handReason
  split_ifs
  · exact .refl s
  · exact .trans (t := setReason r on s) (dueStands_of_eq rfl) (evaluate_stands (setReason r on s))

theorem deriveCredit_stands (s : State) : DueStands s (deriveCredit s) := by
  have hquiet : DueStands s (deriveQuietly s) := dueStands_of_eq rfl
  unfold deriveCredit
  dsimp only
  split_ifs
  · exact hquiet.trans (handReason_stands _ _ _)
  · exact (hquiet.trans (markDue_stands _ _)).trans (handReason_stands _ _ _)
  · exact hquiet
  · exact hquiet.trans (markDue_stands _ _)

theorem deriveTamper_stands (s : State) : DueStands s (deriveTamper s) := by
  unfold deriveTamper
  dsimp only
  split_ifs
  · exact .refl s
  · exact .trans (t := onTamper (fun x => { x with reason := tamperReasonOf s.tamper.records }) s) (dueStands_of_eq rfl)
      (handReason_stands _ _ _)
  · exact dueStands_of_eq rfl

/-- A bit that is due behind the effect is marked. -/
theorem marks_of_due {i : Nat} (h : t.attn.due.getLsbD i = true) : Marks s t i := .inl h

/-- A bit that is due as an entry completes is marked: it stays due, or the publication that begins carries it. -/
theorem Completing.marks {w : Work} (hc : Completing s u w) (r : Result) {i : Nat} (h : u.attn.due.getLsbD i = true) :
    Marks s (Machine.completeEntry r u) i := by
  rw [hc.completeEntry r]
  have hdue : (takeNext (resulted w r u)).attn.due.getLsbD i = true := by simp [resulted, h]
  have hbusy : (takeNext (resulted w r u)).attn.busy = s.attn.busy := by simp [resulted, markDue, hc.busy]
  obtain ⟨hnow, hlater⟩ := requestPublication_tells (takeNext (resulted w r u))
  rw [hbusy] at hnow hlater
  cases hb : s.attn.busy
  · exact .inr ⟨hb, by rw [(hnow hb).2]; exact hdue⟩
  · exact .inl (by rw [(hlater hb).2]; exact hdue)

/-! ## Evaluations (R137) -/

/-- `s` is before an evaluation what `u` is, as far as the evaluation reads it. -/
structure AsBefore (s u : State) : Prop where
  switch : s.switch = u.switch
  settings : s.settings = u.settings
  power : s.supply.power = u.supply.power
  tamper : s.tamper = u.tamper

/-- `t` is behind an evaluation what `u` is, as far as the evaluation has written it or is told by it. -/
structure AsBehind (t u : State) : Prop where
  switch : t.switch = u.switch
  settings : t.settings = u.settings
  sides : t.meter.supplySide = u.meter.supplySide ∧ t.meter.loadSide = u.meter.loadSide
  time : t.clock.time = u.clock.time
  tamper : t.tamper = u.tamper

theorem AsBehind.refl (t : State) : AsBehind t t := ⟨rfl, rfl, ⟨rfl, rfl⟩, rfl, rfl⟩

theorem evaluate_due (h : (evaluate u).switch.contactor ≠ u.switch.seenContactor ∨
    (evaluate u).switch.governing ≠ u.switch.seenGoverning) : (evaluate u).attn.due.getLsbD 1 = true := by
  have hswitch : (evaluate u).switch = _ := markSwitch_switch (actOnContactor (formSets u))
  have hseen := (act_acted u).seen
  rw [hswitch] at h
  exact markSwitch_due (by rwa [hseen.1, hseen.2])

/-- One evaluation lies between what `u` was before it and what `evaluate u` is behind it. -/
theorem evaluated_between (hs : AsBefore s u) (ht : AsBehind t (evaluate u))
    (hm : (evaluate u).attn.due.getLsbD 1 = true → Marks s t 1) : Evaluated s t := by
  have h := evaluate_evaluated u
  obtain ⟨hsw, hset, hpow, htam⟩ := hs
  obtain ⟨tsw, tset, ⟨tup, tlow⟩, ttime, ttam⟩ := ht
  obtain ⟨hhold, hacting, hheld, hgov⟩ := sets_congr (s := evaluate u) (t := t) (by rw [tsw]) (by rw [tsw]) (by rw [tsw]) tset
  have hclose : closeCondition t = closeCondition (evaluate u) := by simp only [closeCondition, tup, tlow]
  have hauto : autoClosePermitted s = autoClosePermitted u := by simp only [autoClosePermitted, hsw, hset]
  have hafter : contactorAfter s t = contactorAfter u (evaluate u) := by
    simp only [contactorAfter, hsw, hacting, hclose, hauto]
  have hbegins : begins s t = begins u (evaluate u) := by simp only [begins, hsw, tsw]
  have hdriven : driven s = driven u := by simp only [driven, hpow]
  have hreleased : released s t = released u (evaluate u) := by simp only [released, hsw, tsw]
  constructor
  case inputs => rw [tsw, hsw]; exact h.inputs
  case hold => rw [hhold, tsw]; exact h.hold
  case acting => rw [hacting, tsw]; exact h.acting
  case held => rw [hheld, tsw]; exact h.held
  case governing => rw [hgov, tsw]; exact h.governing
  case contactor => rw [hafter, tsw]; exact h.contactor
  case pulse => rw [hbegins, hdriven, tsw, hsw]; exact h.pulse
  case deferred => rw [hbegins, hdriven, tsw, hsw]; exact h.deferred
  case still => rw [hbegins, tsw, hsw]; exact h.still
  case kept => rw [hreleased, hbegins, hdriven, hacting, tsw, hsw]; exact h.kept
  case fault => rw [hreleased, tsw, hsw]; exact h.fault
  case cleanRun => rw [hreleased, tsw, hsw]; exact h.cleanRun
  case timers => rw [tsw, hsw]; exact h.timers
  case seen => rw [tsw]; exact h.seen
  case told => rw [tsw, hsw]; exact fun hchange => hm (evaluate_due hchange)
  case tamper => rw [hreleased, htam, hsw, ttam, ttime]; exact h.tamper

/-! ## A reason handed on (R134, R137) -/

/-- A reason handed on: one evaluation where the set changes by it, and nothing else. -/
theorem handReason_between {r : Governing} {on : Bool} {moved : Prop} (hv : AsBefore v (setReason r on u))
    (ht : AsBehind t (handReason r on u)) (hs : s.switch = u.switch)
    (hmoved : moved ↔ u.switch.reasons.put r on ≠ u.switch.reasons)
    (hm : (handReason r on u).attn.due.getLsbD 1 = true → Marks v t 1) : HandOff s v t moved := by
  constructor
  · intro h
    have hhand : handReason r on u = evaluate (setReason r on u) := if_neg (hmoved.mp h)
    rw [hhand] at ht hm
    exact evaluated_between hv ht hm
  · intro h
    have hsame : (setReason r on u).switch.reasons = u.switch.reasons := by
      by_contra hne
      exact h (hmoved.mpr hne)
    have hhand : handReason r on u = u := if_pos hsame
    rw [hhand] at ht
    exact ⟨ht.switch.trans hs.symm, ht.tamper.trans hv.tamper.symm⟩

theorem put_credit_ne (a : Reasons) (on : Bool) : a.put .credit on ≠ a ↔ a.credit ≠ on := by
  cases a
  simp [Reasons.put, eq_comm]

theorem put_tamper_ne (a : Reasons) (on : Bool) : a.put .tamper on ≠ a ↔ a.tamper ≠ on := by
  cases a
  simp [Reasons.put, eq_comm]

theorem put_remote_ne (a : Reasons) (on : Bool) : a.put .remote on ≠ a ↔ a.remote ≠ on := by
  cases a
  simp [Reasons.put, eq_comm]

/-! ## The credit engine's derivation (R80, R86 to R88) -/

/-- The account of `u` stands to be derived, with all else that the derivation reads as `s` has it. -/
structure ToDerive (s u : State) : Prop where
  before : AsBefore s u
  ec : s.credit.ecState = u.credit.ecState
  low : s.credit.lowCredit = u.credit.lowCredit
  reason : s.credit.reason = u.credit.reason
  handing : handing u = true

/-- The derivation marks CREDIT attention where it changes anything (R88). -/
theorem deriveCredit_due (h : derivedCredit u ≠ u.credit) : (deriveCredit u).attn.due.getLsbD 2 = true := by
  have hmark : (markDue attnCredit (deriveQuietly u)).attn.due.getLsbD 2 = true := by simp [attnCredit]
  unfold deriveCredit
  dsimp only
  rw [if_neg h]
  split_ifs
  · exact handReason_stands _ _ _ 2 hmark
  · exact hmark

/-- The derivation tells a change, and hands a changed reason on (R87, R88). -/
theorem deriveCredit_between (h : ToDerive s u) (ht : AsBehind t (deriveCredit u))
    (hc : t.credit = (deriveCredit u).credit)
    (hm : ∀ i, (deriveCredit u).attn.due.getLsbD i = true → Marks s t i) : CreditHanded s t t.credit.reason := by
  obtain ⟨⟨hsw, hset, hpow, htam⟩, hec, hlow, hreason, hhand⟩ := h
  rw [deriveCredit_credit] at hc
  have hreason' : t.credit.reason = (derivedCredit u).reason := by rw [hc]
  have hsplit : ∃ m, m.switch = u.switch ∧ m.settings = u.settings ∧ m.supply = u.supply ∧ m.tamper = u.tamper ∧
      deriveCredit u = if (derivedCredit u).reason ≠ u.credit.reason
        then handReason .credit (derivedCredit u).reason m else m := by
    refine ⟨if derivedCredit u = u.credit then deriveQuietly u else markDue attnCredit (deriveQuietly u), ?_⟩
    simp only [deriveCredit, hhand, Bool.and_true, decide_eq_true_eq]
    split_ifs <;> simp [deriveQuietly]
  obtain ⟨m, msw, mset, msup, mtam, hm'⟩ := hsplit
  refine ⟨?_, fun hchange => hm 2 (deriveCredit_due fun heq => ?_)⟩
  · rw [hreason', hreason, hsw]
    by_cases hr : (derivedCredit u).reason ≠ u.credit.reason
    · rw [if_pos hr] at hm'
      rw [hm'] at ht hm
      refine handReason_between (u := m) (r := .credit) (on := (derivedCredit u).reason) ⟨?_, ?_, ?_, ?_⟩ ht
        (by rw [hsw, msw]) ?_ (hm 1)
      · simp [withReasons, setReason, onSwitch, Reasons.put, msw, hsw]
      · simp [withReasons, setReason, mset, hset]
      · simp [withReasons, setReason, msup, hpow]
      · simp [withReasons, setReason, mtam, htam]
      · rw [put_credit_ne, msw]
        exact and_iff_right hr
    · rw [if_neg hr] at hm'
      rw [hm'] at ht
      refine ⟨fun hmoved => absurd hmoved.1 hr, fun _ => ⟨?_, ?_⟩⟩
      · rw [ht.switch, msw, hsw]
      · rw [ht.tamper, mtam]
        exact htam.symm
  · rw [hc, heq] at hchange
    rcases hchange with hne | hne | hne
    · exact hne hec.symm
    · exact hne hlow.symm
    · exact hne hreason.symm

/-! ## The tamper monitor's derivation (R166, R167) -/

/-- The records of `u` stand to be derived from: `rs` in place of those of `s`, and all else that the derivation reads as `s`
has it. -/
structure ToJudge (s u : State) (rs : Vector TamperRecord 10) : Prop where
  switch : s.switch = u.switch
  settings : s.settings = u.settings
  supply : s.supply.power = u.supply.power ∧ s.supply.startStep = u.supply.startStep
  tamper : u.tamper = { s.tamper with records := rs }

theorem deriveTamper_between {rs : Vector TamperRecord 10} (h : ToJudge s u rs) (ht : AsBehind t (deriveTamper u))
    (hm : (deriveTamper u).attn.due.getLsbD 1 = true → Marks s t 1) : RecordsChanged s t rs := by
  obtain ⟨hsw, hset, ⟨hpow, hstep⟩, htam⟩ := h
  have hhand : handing u = handing s := handing_congr hpow.symm hstep.symm
  have hrecords : u.tamper.records = rs := by rw [htam]
  have hreason : u.tamper.reason = s.tamper.reason := by rw [htam]
  unfold RecordsChanged
  by_cases hr : tamperReasonOf rs = s.tamper.reason
  · have hsame : deriveTamper u = u := by simp [deriveTamper, hrecords, hreason, hr]
    rw [hsame] at ht
    refine ⟨fun hmoved => absurd hr hmoved.2.1, fun _ => ⟨by rw [ht.switch, hsw], ?_⟩⟩
    rw [ht.tamper, htam]
    simp [withRecords, hr]
  · by_cases hh : handing s = true
    · have hnext : deriveTamper u = handReason .tamper (tamperReasonOf rs)
          (onTamper (fun x => { x with reason := tamperReasonOf rs }) u) := by
        simp [deriveTamper, hrecords, hreason, hr, hhand, hh]
      rw [hnext] at ht hm
      refine handReason_between (r := .tamper) ⟨?_, ?_, ?_, ?_⟩ ht (by simp [hsw]) ?_ hm
      · simp [withRecords, setReason, onSwitch, Reasons.put, hsw]
      · simp [withRecords, setReason, hset]
      · simp [withRecords, setReason, hpow]
      · simp [withRecords, setReason, htam]
      · rw [put_tamper_ne]
        simp [hh, hr, hsw]
    · have hnext : deriveTamper u = onTamper (fun x => { x with reason := tamperReasonOf rs }) u := by
        simp [deriveTamper, hrecords, hreason, hr, hhand, hh]
      rw [hnext] at ht
      refine ⟨fun hmoved => absurd hmoved.1 hh, fun _ => ⟨by rw [ht.switch]; simp [hsw], ?_⟩⟩
      rw [ht.tamper]
      simp [withRecords, htam]

/-! ## Present reports (R160, R161) -/

theorem requestWrite_stands (s : State) : DueStands s (requestWrite s) := dueStands_of_eq (by simp)

theorem setRecord_stands (k : Fin 10) (r : TamperRecord) (s : State) : DueStands s (setRecord k r s) :=
  dueStands_of_eq (by simp [setRecord])

theorem reportPresent_stands (k : Fin 10) (s : State) : DueStands s (reportPresent k s) := by
  unfold reportPresent
  dsimp only
  split_ifs
  · exact .refl s
  · exact (((setRecord_stands _ _ _).trans (markDue_stands _ _)).trans (requestWrite_stands _)).trans
      (deriveTamper_stands _)

theorem reportGone_stands (k : Fin 10) (s : State) : DueStands s (reportGone k s) := by
  unfold reportGone
  dsimp only
  split_ifs <;> exact dueStands_of_eq rfl

/-- The record that a present report enters is that of the statements (R160, R165). -/
theorem presentRecord_eq (s : State) (k : Fin 10) (h : s.tamper.records[k].state ≠ .active) :
    presentRecord s k = activeRecord s k s.tamper.records[k] := by
  unfold presentRecord presentAt activeRecord
  cases hs : s.tamper.records[k].state
  · simp [importWh, tamperAction]
  · exact absurd hs h
  · simp [tamperAction, capped]

theorem reportPresent_of_active {k : Fin 10} (h : s.tamper.records[k].state = .active) : reportPresent k s = s := by
  simp only [reportPresent, h, if_true]

/-- The state with the record of a kind as a present report leaves it. -/
def withPresent (k : Fin 10) (s : State) : State := onTamper (fun x => { x with records := presentRecords s k }) s

theorem reportPresent_of_entry {k : Fin 10} (h : s.tamper.records[k].state ≠ .active) :
    reportPresent k s = deriveTamper (requestWrite (markDue attnTamper (withPresent k s))) := by
  simp only [reportPresent, if_neg h, enteredActive, withPresent, presentRecords, presentRecord_eq s k h]
  rfl

/-- What a present report reads of `u` is as `s` has it. -/
structure ToReport (s u : State) : Prop where
  before : AsBefore s u
  step : s.supply.startStep = u.supply.startStep
  time : s.clock.time = u.clock.time
  total : s.energy.total = u.energy.total
  balance : s.credit.account.balance = u.credit.account.balance

theorem ToReport.refl (s : State) : ToReport s s := ⟨⟨rfl, rfl, rfl, rfl⟩, rfl, rfl, rfl, rfl⟩

theorem ToReport.presentRecords (h : ToReport s u) (k : Fin 10) : presentRecords s k = presentRecords u k := by
  obtain ⟨⟨-, hset, -, htam⟩, -, htime, htotal, hbalance⟩ := h
  simp only [Safety.presentRecords, presentRecord, hset, htam, htime, htotal, hbalance]

/-- A present report changes the records as its statement has it. -/
theorem reportPresent_between {k : Fin 10} (h : ToReport s u) (hk : u.tamper.records[k].state ≠ .active)
    (ht : AsBehind t (reportPresent k u))
    (hm : (reportPresent k u).attn.due.getLsbD 1 = true → Marks s t 1) : RecordsChanged s t (presentRecords s k) := by
  rw [h.presentRecords k]
  obtain ⟨⟨hsw, hset, hpow, htam⟩, hstep, -, -, -⟩ := h
  rw [reportPresent_of_entry hk] at ht hm
  refine deriveTamper_between ⟨?_, ?_, ?_, ?_⟩ ht hm
  · simp [withPresent, hsw]
  · simp [withPresent, hset]
  · simp [withPresent, hpow, hstep]
  · simp [withPresent, htam]

theorem reportPresent_due {k : Fin 10} (hk : u.tamper.records[k].state ≠ .active) :
    (reportPresent k u).attn.due.getLsbD 3 = true := by
  rw [reportPresent_of_entry hk]
  exact deriveTamper_stands _ 3 (requestWrite_stands _ 3 (by simp [attnTamper]))

/-! ## Write requests (R180) -/

theorem asked_between {x : Sections} (h : StoreAsked u v x) (hs : s.store = u.store ∧ s.supply = u.supply)
    (ht : t.store = v.store ∧ t.supply = v.supply) : StoreAsked s t x := by
  obtain ⟨hstore, hsupply⟩ := hs
  obtain ⟨tstore, tsupply⟩ := ht
  have hfree : StoreFree s ↔ StoreFree u := by simp only [StoreFree, hstore, hsupply]
  constructor
  · rw [hfree, tstore, tsupply, hstore, hsupply]
    exact h.begun
  · rw [hfree, tstore, tsupply, hstore, hsupply]
    exact h.pending

theorem told_between {i : Intake} (h : RequestersTold u v i) (hs : s.store = u.store ∧ s.supply = u.supply)
    (ht : t.intake = v.intake) : RequestersTold s t i := by
  obtain ⟨hstore, hsupply⟩ := hs
  have hfree : StoreFree s ↔ StoreFree u := by simp only [StoreFree, hstore, hsupply]
  constructor
  · rw [hfree, ht]
    exact h.begun
  · rw [hfree, ht]
    exact h.pending

theorem reportPresent_asked {k : Fin 10} (hk : u.tamper.records[k].state ≠ .active) :
    StoreAsked u (reportPresent k u) { sectionsOf u with records := presentRecords u k } ∧
      RequestersTold u (reportPresent k u) u.intake := by
  rw [reportPresent_of_entry hk]
  have hasked := requestWrite_asked (markDue attnTamper (withPresent k u))
  have htold := requestWrite_requesters (markDue attnTamper (withPresent k u))
  exact ⟨asked_between hasked (by simp [withPresent]) (by simp), told_between htold (by simp [withPresent]) (by simp)⟩

/-- A present report that finds its record not ACTIVE. -/
theorem reportPresent_entered {k : Fin 10} (hk : s.tamper.records[k].state ≠ .active) :
    Entered s (reportPresent k s) k := by
  obtain ⟨hasked, htold⟩ := reportPresent_asked hk
  exact ⟨hasked, htold, reportPresent_due hk, reportPresent_between (.refl s) hk (.refl _) marks_of_due⟩

end Sys2Proof.Proofs
end

section
/-! SUPPORT. The entries that their blocks decide at once, and the pre-checks of a TOKEN entry. -/

namespace Sys2Proof.Proofs
open Sys2Proof.Machine Sys2Proof.Safety

variable {s u : State} {w : Work}

/-! ## A taken entry -/

/-- A taken entry's state as its block decides it: nothing else is due. -/
def handed (s : State) : State := onAgenda (fun _ => []) s

/-- The command of a taken entry makes its block's decision, and goes on. -/
theorem taken_decides (h : Taken s w) {d : Due} {f : Work → State → State} (hd : dueOf w = d)
    (hf : ∀ u, runDue d u = withWork f u) : atOnce d s = advance (f w (handed s)) := by
  obtain ⟨-, hwork, hstage, hdue⟩ := h
  rw [hd] at hdue
  have hdecides : withWork f (handed s) = f w (handed s) := by
    simp [withWork, handed, hwork, hstage]
  rw [atOnce_of_next hdue, hf]
  exact congrArg advance hdecides

/-- A decision that leaves what a completion compares. -/
theorem taken_completing (h : Taken s w) (e : u.intake = s.intake ∧ u.mem = s.mem ∧ u.attn.bits = s.attn.bits ∧
    u.attn.mask = s.attn.mask ∧ u.attn.busy = s.attn.busy ∧ u.agenda = []) : Completing s u w := by
  obtain ⟨hintake, hmem, hbits, hmask, hbusy, hagenda⟩ := e
  refine ⟨⟨w.stage, ?_⟩, hmem, hbits, hmask, hbusy, hagenda⟩
  rw [hintake, ← h.work]

theorem taken_handed (h : Taken s w) : Completing s (handed s) w := taken_completing h (by simp [handed])

/-- A completion ends the step: a row of the table is next, or nothing is due. -/
theorem Completing.ends (hc : Completing s u w) (r : Result) :
    advance (Machine.completeEntry r u) = Machine.completeEntry r u := advance_of_row (hc.head_isRow r)

/-- The result `r` of the entry `w` comes about between `s` and `t`, as the command `c` ends. -/
structure Answered (c : Instr) (s t : State) (w : Work) (r : Result) : Prop where
  exec : exec c s = .next t
  completes : Completes s t w r.code r.item r.body
  publishes : Publishes s t

/-- A decision that ends in a result ends its command. -/
theorem taken_answered {c : Instr} {d : Due} {f : Work → State → State} {r : Result} (h : Taken s w) (hd : dueOf w = d)
    (hf : ∀ u, runDue d u = withWork f u) (hexec : ∀ u, exec c u = .next (atOnce d u))
    (hdecide : f w (handed s) = completeEntry r u) (hc : Completing s u w) (hb : r.body.length ≤ 58) :
    Answered c s (completeEntry r u) w r := by
  have hwhole := hc.completes h.toOwnSlot r
  rw [List.take_of_length_le hb] at hwhole
  exact ⟨by rw [hexec, taken_decides h hd hf, hdecide, hc.ends], hwhole, hc.publishes r⟩

theorem handed_frame (s : State) (r : Result) :
    SameExcept [.mem, .intake, .attn, .agenda] s (completeEntry r (handed s)) := by
  rw [sameExcept_iff]
  simp [handed]

/-! ## Plain entries -/

theorem windowResult_length (code : ResultCode) (w : Work) (s : State) (changed : Nat) (cause : EndCause) :
    (windowResult code w s changed cause).body.length ≤ 58 := by
  simp [windowResult, byte_eq, le_length]

theorem flags_completing (h : Taken s w) (a : Account) : Completing s (setAccount a (handed s)) w :=
  taken_completing h (by simp [handed])

/-- Settles O22: each of the three decisions completes at once, FLAG_CLEAR with the flags that its mask leaves. -/
theorem plainEntriesComplete : Obligations.PlainEntriesComplete := by
  refine ⟨fun s w h hk => ?unknown, fun s w h hk h0 h1 => ?action, fun s w h hk => ?flags⟩
  case unknown =>
    have hd : dueOf w = .kindUnknown := by
      unfold dueOf
      split
      case h_8 => rfl
      all_goals omega
    obtain ⟨hexec, hcomp, hpub⟩ := taken_answered (c := .kindUnknown) h hd (fun _ => rfl) (fun _ => rfl) rfl (taken_handed h)
      (by simp)
    exact ⟨_, hexec, hcomp, hpub, handed_frame s _⟩
  case action =>
    have hd : dueOf w = .windowClosePayloadRange := by
      unfold dueOf
      rw [hk]
      exact (if_neg h0).trans (if_neg h1)
    obtain ⟨hexec, hcomp, hpub⟩ := taken_answered (c := .windowClosePayloadRange) h hd (fun _ => rfl) (fun _ => rfl) rfl
      (taken_handed h) (windowResult_length _ _ _ _ _)
    exact ⟨_, hexec, hcomp, hpub, handed_frame s _⟩
  case flags =>
    have hd : dueOf w = .flagClear := by
      unfold dueOf
      rw [hk]
      rfl
    by_cases hm : 16 ≤ (w.byteAt 4).toNat
    · obtain ⟨hexec, hcomp, hpub⟩ := taken_answered (c := .flagClear) h hd (fun _ => rfl) (fun _ => rfl) (if_pos hm)
        (taken_handed h) (by simp [byte_eq, le_length])
      simp only [hm, if_true]
      refine ⟨_, hexec, hcomp, hpub, ?_, ?_⟩
      · rw [sameExcept_iff]
        simp [handed]
      · simp [handed]
    · obtain ⟨hexec, hcomp, hpub⟩ := taken_answered (c := .flagClear) h hd (fun _ => rfl) (fun _ => rfl) (if_neg hm)
        (flags_completing h _) (by simp [byte_eq, le_length])
      simp only [hm, if_false]
      refine ⟨_, hexec, hcomp, hpub, ?_, ?_⟩
      · rw [sameExcept_iff]
        simp [handed]
      · simp only [completeEntry_keeps]
        rfl

/-! ## Pre-checks (R99) -/

theorem findIdx?_bad (l : List Nat) : l.findIdx? (fun d => 9 < d) =
    if l.any (fun d => 9 < d) then some (l.takeWhile fun d => d ≤ 9).length else none := by
  induction l with
  | nil => rfl
  | cons d l ih =>
    by_cases hd : 9 < d
    · simp [List.findIdx?_cons, hd]
    · have hle : d ≤ 9 := not_lt.mp hd
      rw [List.findIdx?_cons, ih, List.any_cons, List.takeWhile_cons]
      simp only [hd, hle, decide_false, decide_true, Bool.false_or, if_true]
      cases l.any fun d => decide (9 < d) <;> rfl

theorem firstBadDigit_eq (w : Work) : firstBadDigit w = if w.digits.any (fun d => 9 < d) then
    some ((w.digits.takeWhile fun d => d ≤ 9).length + 1) else none := by
  rw [firstBadDigit, findIdx?_bad]
  split_ifs <;> rfl

theorem tokenBody_unnamed (w : Work) : tokenBody w 0xFF 0 0xFF 0 = le 1 w.source ++ [0xFF, 0, 0xFF, 0, 0, 0] := rfl

theorem bodyBeforeCheck_eq (w : Work) (u : State) : bodyBeforeCheck w u = bareHead u w := rfl

theorem bareHead_length (w : Work) (u : State) : (bareHead u w).length ≤ 58 := by simp [bareHead, le_length]

/-- A TOKEN entry is refused by its first failing check, which counts at BODY_RANGE, or begins its decode. -/
theorem decideToken_eq (w : Work) (u : State) : decideToken w u = match preCheck u w with
    | none => setStage .decoding u
    | some r => if r.code = .bodyRange then refuseBadCode r u else completeEntry r u := by
  have hexpired : (u.clock.certain && (u.decoder.key w.selector).expired (today u)) = true ↔ u.clock.certain = true ∧
      (tokenKey u w).expiry ≠ 0 ∧ (tokenKey u w).expiry < localDate u.clock.time u.book.active := by
    simp only [KeySlot.expired, today, tokenKey, Bool.and_eq_true, bne_iff_ne]
    exact and_congr_right fun _ => and_congr_right fun _ => decide_eq_true_iff
  have hpresent : (!(u.decoder.key w.selector).present) = true ↔ (tokenKey u w).present = false := by simp [tokenKey]
  have hrange : 2 ^ 72 ≤ w.bodyValue ↔ 4722366482869645213696 ≤ w.bodyValue := Iff.rfl
  simp only [decideToken, preCheck, firstBadDigit_eq, tokenBody_unnamed, bodyBeforeCheck_eq, hexpired, hpresent, hrange]
  split_ifs <;> rfl

/-- The pre-check bodies have their place in a slot. -/
theorem preCheck_length {r : Result} (h : preCheck s w = some r) : r.body.length ≤ 58 := by
  have hbare := bareHead_length w s
  simp only [preCheck] at h
  split_ifs at h <;> cases h <;> simp [le_length, hbare]

theorem bad_completing (h : Taken s w) (f : Decoder → Decoder) : Completing s (onDecoder f (handed s)) w :=
  taken_completing h (by simp [handed])

/-- Settles O23: the decision as one case for each outcome of the pre-checks. -/
theorem tokenPreChecks : Obligations.TokenPreChecks := by
  intro s w h hk
  have hd : dueOf w = .token := by
    unfold dueOf
    rw [hk]
    rfl
  have hexec (u : State) : exec .token u = .next (atOnce .token u) := rfl
  have hcheck : preCheck (handed s) w = preCheck s w := rfl
  have hdecide := decideToken_eq w (handed s)
  rw [hcheck] at hdecide
  cases hp : preCheck s w with
  | none =>
    simp only [hp] at hdecide ⊢
    rw [hexec, taken_decides h hd fun _ => rfl, hdecide, advance_of_idle rfl]
    simp [setStage, handed, onIntake, onAgenda, h.work]
  | some r =>
    have hlen := preCheck_length hp
    simp only [hp] at hdecide ⊢
    by_cases hcode : r.code = .bodyRange
    · simp only [hcode, if_true, true_and] at hdecide ⊢
      split_ifs with hcount
      · have hlock : refuseBadCode r (handed s) = dueFirst .keypadLockoutStart (dueFirst (.complete r) (handed s)) :=
          if_pos hcount
        rw [hexec, taken_decides h hd fun _ => rfl, hdecide, hlock, advance_of_row (by simp [Due.isRow])]
        rfl
      · have hbad : refuseBadCode r (handed s) =
            completeEntry r (onDecoder (fun x => { x with badCount := x.badCount + 1 }) (handed s)) := if_neg hcount
        obtain ⟨hx, hcomp, hpub⟩ := taken_answered (c := .token) h hd (fun _ => rfl) hexec (hdecide.trans hbad)
          (bad_completing h _) hlen
        refine ⟨_, hx, hcode ▸ hcomp, hpub, ?_, ?_⟩
        · rw [sameExcept_iff]
          simp [handed]
        · simp [handed]
    · simp only [hcode, if_false, false_and] at hdecide ⊢
      obtain ⟨hx, hcomp, hpub⟩ := taken_answered (c := .token) h hd (fun _ => rfl) hexec hdecide (taken_handed h) hlen
      refine ⟨_, hx, hcomp, hpub, ?_, ?_⟩
      · rw [sameExcept_iff]
        simp [handed]
      · simp [handed]

/-! ## The keypad lockout (R112, R113) -/

/-- A due step that is not a row is made, and the step it belongs to ends where a row is next. -/
theorem advance_of_one {d : Due} {rest : List Due} (h : s.agenda = d :: rest) (hd : d.isRow = false)
    (hc : d.isCatchUp = false)
    (hx : ∀ e ∈ (runDue d (onAgenda (fun _ => rest) s)).agenda.head?, e.isRow = true) :
    advance s = runDue d (onAgenda (fun _ => rest) s) := by
  have hrun : runUntil Due.isRow dueBound s = runUntil Due.isRow 127 (runDue d (onAgenda (fun _ => rest) s)) := by
    rw [dueBound, runUntil, h]
    simp only [hd, waits, hc, Bool.false_and, Bool.or_false, Bool.false_eq_true, if_false]
  have hmore : advance s = advance (runDue d (onAgenda (fun _ => rest) s)) := by
    simp only [advance, hrun, runUntil_of_stop hx]
  rw [hmore, advance_of_row hx]

/-- A write request leaves of the entry in work at most its stage changed. -/
theorem requestWrite_work (h : s.intake.work = some w) :
    ∃ g, (requestWrite s).intake = { s.intake with work := some { w with stage := g } } := by
  obtain ⟨hbegun, hpending⟩ := requestWrite_requesters s
  by_cases hfree : StoreFree s
  · exact ⟨w.stage.writeBegun, by rw [hbegun hfree, h]; rfl⟩
  · exact ⟨w.stage, by rw [hpending hfree, ← h]⟩

theorem reportPresent_work (h : s.intake.work = some w) (k : Fin 10) :
    ∃ g, (reportPresent k s).intake = { s.intake with work := some { w with stage := g } } := by
  by_cases hk : s.tamper.records[k].state = .active
  · rw [reportPresent_of_active hk]
    exact ⟨w.stage, by rw [← h]⟩
  · rw [reportPresent_of_entry hk, (deriveTamper_keeps _).2.2.2.2.1]
    obtain ⟨g, hg⟩ := requestWrite_work (s := markDue attnTamper (withPresent k s)) (w := w) (by simpa [withPresent] using h)
    exact ⟨g, by rw [hg]; simp [withPresent]⟩

/-- A gone report as its statement has it (R160). -/
theorem reportGone_eq (k : Fin 10) (s : State) : reportGone k s =
    { s with tamper := { s.tamper with records := s.tamper.records.set k (goneRecord s k) } } := by
  have htamper := reportGone_tamper k s
  unfold reportGone at htamper ⊢
  dsimp only at htamper ⊢
  split_ifs at htamper ⊢ with h
  · simp only [onTamper, goneRecord, goneAt, h, if_true]
  · exact congrArg (fun x => { s with tamper := x }) htamper

/-- The start of the lockout with the completion behind it. -/
def lockoutStarts (r : Result) (s : State) : State := startLockout (onAgenda (fun _ => [.complete r]) s)

/-- The state in which the entry that brought the fifth bad code completes: the lockout has started. -/
def lockedOut (r : Result) (s : State) : State := onAgenda (fun _ => []) (lockoutStarts r s)

theorem lockedOut_completing (r : Result) (hw : s.intake.work = some w) : Completing s (lockedOut r s) w := by
  obtain ⟨g, hg⟩ := reportPresent_work (w := w)
    (s := onDecoder (fun x => { x with lockout := 1800, badCount := 0 }) (onAgenda (fun _ => [.complete r]) s)) hw kindKeypad
  refine ⟨⟨g, hg⟩, ?_, ?_, ?_, ?_, rfl⟩ <;> simp [lockedOut, lockoutStarts]

/-- The decoder as the lockout's start finds it and KEYPAD is reported. -/
def lockoutSet (r : Result) (s : State) : State :=
  onDecoder (fun x => { x with lockout := 1800, badCount := 0 }) (onAgenda (fun _ => [.complete r]) s)

/-- Settles O24: the start is a report of KEYPAD behind the decoder's change, and the completion comes with it; the end is a
gone report. -/
theorem keypadLockoutStartsAndEnds : Obligations.KeypadLockoutStartsAndEnds := by
  refine ⟨fun s w r h hw ha => ?start, fun s rest ha => ?stop⟩
  case stop =>
    have hexec : exec .keypadLockoutEnd s = .next (atOnce .keypadLockoutEnd s) := rfl
    rw [hexec, atOnce_of_next ha, runDue, endLockout, reportGone_eq]
    rfl
  case start =>
    have hc := lockedOut_completing r hw
    have hexec : exec .keypadLockoutStart s = .next (atOnce .keypadLockoutStart s) := rfl
    have hstarts : lockoutStarts r s = reportPresent kindKeypad (lockoutSet r s) := rfl
    have hsteps : atOnce .keypadLockoutStart s = completeEntry r (lockedOut r s) := by
      have hagenda : (lockoutStarts r s).agenda = [.complete r] := by simp [lockoutStarts]
      rw [atOnce_of_next ha]
      exact advance_of_one hagenda rfl rfl (hc.head_isRow r)
    refine ⟨_, hexec.trans (congrArg _ hsteps), ?_, hc.completes h r, hc.publishes r, ?_, fun hk => ?_, fun hk => ?_⟩
    · simp [lockedOut, lockoutStarts, startLockout]
    · rw [sameExcept_iff]
      simp [lockedOut, lockoutStarts]
    · have hasked := (reportPresent_asked (u := lockoutSet r s) (k := kindKeypad) hk).1
      refine ⟨asked_between hasked ⟨rfl, rfl⟩ (by simp [lockedOut, hstarts]), ?_⟩
      refine reportPresent_between (u := lockoutSet r s) ⟨⟨rfl, rfl, rfl, rfl⟩, rfl, rfl, rfl, rfl⟩ hk
        ⟨?_, ?_, ?_, ?_, ?_⟩ fun hdue => hc.marks r hdue
      all_goals simp [lockedOut, hstarts]
    · have hnone : lockoutStarts r s = lockoutSet r s := reportPresent_of_active (s := lockoutSet r s) hk
      rw [sameExcept_iff]
      simp [lockedOut, hnone, lockoutSet]

end Sys2Proof.Proofs
end

section
/-! SUPPORT. The entries EMERGENCY, WINDOW_CLOSE and RECONNECT, which reach the switch controller. -/

namespace Sys2Proof.Proofs
open Sys2Proof.Machine Sys2Proof.Safety

variable {s t u : State} {w : Work}

/-! ## EMERGENCY (R81) -/

theorem handing_of_powered (h : s.supply.power = .mains ∨ s.supply.power = .holdup) : handing s = true := by
  rcases h with h | h <;> simp [handing, h]

theorem toDerive_account (hh : handing s = true) (a : Account) : ToDerive s (setAccount a (handed s)) :=
  ⟨⟨rfl, rfl, rfl, rfl⟩, rfl, rfl, rfl, hh⟩

/-- The grant made, with what follows from it. -/
def granted (s : State) : State :=
  deriveCredit (setAccount { s.credit.account with grant := s.settings.ecAmount } (handed s))

theorem granted_completing (h : Taken s w) : Completing s (granted s) w := taken_completing h (by simp [granted, handed])

theorem emergencyResult_length (code : ResultCode) (item : Nat) (e : EcState) (s : State) :
    (emergencyResult code item e s).body.length ≤ 58 := by
  simp [emergencyResult, byte_eq, le_length, leSigned, le_of_flag, yes]

theorem granted_credit (s : State) : (granted s).credit = { s.credit with
    account := { s.credit.account with grant := s.settings.ecAmount }
    ecState := ecStateOf { s.credit.account with grant := s.settings.ecAmount } s.settings
    lowCredit := decide (s.credit.account.balance ≤ s.settings.lowCredit)
    reason := decide (s.credit.account.balance ≤ -(s.settings.ecAmount : Int)) } := by
  rw [granted, deriveCredit_credit]
  rfl

theorem decideEmergency_offered (h : ecStateOf s.credit.account s.settings = .offered) : decideEmergency (handed s) =
    completeEntry (emergencyResult .accepted 0 .offered (granted s)) (granted s) := by
  have hdecide : decideEmergency (handed s) =
      completeEntry (emergencyResult .accepted 0 (ecStateOf s.credit.account s.settings) (granted s)) (granted s) := if_pos h
  rw [hdecide, h]

/-- What a refused EMERGENCY reports: the state as it stands, derived. -/
def refusedEmergency (s : State) : Result :=
  emergencyResult .ecNotOffered (ecStateOf s.credit.account s.settings).code (ecStateOf s.credit.account s.settings)
    (onCredit (fun _ => derivedCredit s) s)

theorem decideEmergency_refused (h : ecStateOf s.credit.account s.settings ≠ .offered) : decideEmergency (handed s) =
    completeEntry (refusedEmergency s) (handed s) := if_neg h

theorem flagByte_eq (b : Bool) : flagByte b = le 1 (if b = true then 1 else 0) := by cases b <;> rfl

/-- Settles O26: the grant is one derivation behind the changed account, and a refusal changes nothing. -/
theorem emergencyGrantsOrRefuses : Obligations.EmergencyGrantsOrRefuses := by
  intro s w h hk hp
  have hd : dueOf w = .emergency := by
    unfold dueOf
    rw [hk]
    rfl
  have hiff := (ecStateOf_iff s.credit.account s.settings).2.1
  dsimp only
  by_cases ho : ecStateOf s.credit.account s.settings = .offered
  · have ho' := hiff.mp ho
    have hc := granted_completing h
    obtain ⟨hexec, hcomp, hpub⟩ := taken_answered (c := .emergency) h hd (fun _ => rfl) (fun _ => rfl)
      (decideEmergency_offered ho) hc (emergencyResult_length _ _ _ _)
    simp only [if_pos ho', ho]
    refine ⟨_, hexec, ?_, hpub, ?_, fun _ => ⟨?_, ?_⟩, fun hn => absurd ho' hn⟩
    · simpa only [emergencyResult, granted_credit, byte_eq, flagByte_eq, decide_eq_true_eq] using hcomp
    · rw [sameExcept_iff]
      simp [granted, handed]
    · simp [granted_credit]
    · exact deriveCredit_between (toDerive_account (handing_of_powered hp) _) ⟨by simp [granted], by simp [granted],
        by simp [granted], by simp [granted], by simp [granted]⟩ (by simp [granted]) fun i hi => hc.marks _ hi
  · have ho' := mt hiff.mpr ho
    obtain ⟨hexec, hcomp, hpub⟩ := taken_answered (c := .emergency) h hd (fun _ => rfl) (fun _ => rfl)
      (decideEmergency_refused ho) (taken_handed h) (emergencyResult_length _ _ _ _)
    simp only [if_neg ho']
    refine ⟨_, hexec, ?_, hpub, ?_, fun hx => absurd hx ho', fun _ => handed_frame s _⟩
    · simpa only [refusedEmergency, emergencyResult, byte_eq, flagByte_eq, onCredit_credit, derivedCredit, creditReasonOf,
        decide_eq_true_eq] using hcomp
    · rw [sameExcept_iff]
      simp [handed]

/-! ## WINDOW_CLOSE with action 0 (R124, R125) -/

theorem completes_congr {code : ResultCode} {item : Nat} {b c : List Byte} (h : Completes s t w code item b) (e : b = c) :
    Completes s t w code item c := e ▸ h

/-- The window as an ended one, with its hold contribution gone, before the evaluation. -/
def unheld (c : EndCause) (s : State) : State :=
  onSwitch (fun x => { x with windowHold := 0 }) (onWindow (fun _ => endedWindow c) s)

theorem endWindow_eq (c : EndCause) (s : State) : endWindow c s = evaluate (unheld c s) := rfl

theorem windowNotOpen_body (h : s.window.state = .closed) (a : Nat) (hb : w.byteAt 4 = BitVec.ofNat 8 a) :
    (windowResult .windowNotOpen w s 0 s.window.cause).body = le 1 a ++ le 1 0 ++ le 1 s.window.rank ++
      le 2 s.window.remaining ++ [0, 0, 0] ++ le 1 s.window.cause.code := by
  rw [windowResult, hb, h]
  rfl

/-- Settles O28: the discard is one evaluation behind the ended window, and a refusal changes nothing. -/
theorem discardDropsTheWindow : Obligations.DiscardDropsTheWindow := by
  intro s w h hk ha
  have hd : dueOf w = .windowCloseDiscard := by
    unfold dueOf
    rw [hk]
    exact if_pos ha
  by_cases hc : s.window.state = .closed
  · have hdecide : decideDiscard w (handed s) = completeEntry (windowResult .windowNotOpen w s 0 s.window.cause) (handed s) :=
      if_pos hc
    obtain ⟨hexec, hcomp, hpub⟩ := taken_answered (c := .windowCloseDiscard) h hd (fun _ => rfl) (fun _ => rfl) hdecide
      (taken_handed h) (windowResult_length _ _ _ _ _)
    exact ⟨_, hexec, hpub, fun _ => ⟨completes_congr hcomp (windowNotOpen_body hc 0 ha), handed_frame s _⟩,
      fun hn => absurd hc hn⟩
  · have hdecide : decideDiscard w (handed s) = completeEntry (windowResult .accepted w s (stagedChanges s) .discarded)
        (endWindow .discarded (handed s)) := if_neg hc
    have hcompleting : Completing s (endWindow .discarded (handed s)) w := taken_completing h (by simp [handed])
    obtain ⟨hexec, hcomp, hpub⟩ := taken_answered (c := .windowCloseDiscard) h hd (fun _ => rfl) (fun _ => rfl) hdecide
      hcompleting (windowResult_length _ _ _ _ _)
    refine ⟨_, hexec, hpub, fun hx => absurd hx hc, fun _ => ⟨completes_congr hcomp ?_, ?_, ?_, ?_⟩⟩
    · rw [windowResult, ha]
      rfl
    · rw [sameExcept_iff]
      simp [handed]
    · simp [endWindow, handWindowHold, endedWindow]
    · refine evaluated_between (u := unheld .discarded (handed s)) ⟨rfl, rfl, rfl, rfl⟩ ⟨?_, ?_, ?_, ?_, ?_⟩
        fun hdue => hcompleting.marks _ hdue
      all_goals simp [endWindow_eq]

/-! ## RECONNECT (R148) -/

/-- The part as a RECONNECT's evaluation leaves it. -/
def cleared (s : State) : State := evaluate (reconnectClears (handed s))

/-- A RECONNECT is accepted exactly where the contactor stood OPEN or ARMED and nothing acts. -/
def Accepted (s : State) : Prop :=
  (s.switch.contactor = .opened ∨ s.switch.contactor = .armed) ∧ actingSet (reconnected s) = Reasons.empty

theorem cleared_evaluated (s : State) : Evaluated (reconnected s) (cleared s) :=
  evaluated_between (u := reconnectClears (handed s)) ⟨rfl, rfl, rfl, rfl⟩ (.refl _) marks_of_due

theorem cleared_sets (s : State) : actingSet (cleared s) = actingSet (reconnected s) ∧
    heldSet (cleared s) = heldSet (reconnected s) ∧ governingReason (cleared s) = governingReason (reconnected s) := by
  obtain ⟨-, hacting, hheld, hgoverning⟩ := evaluate_sets (reconnectClears (handed s))
  exact ⟨hacting, hheld, hgoverning⟩

theorem reconnectCloses_switch (s : State) : (reconnectCloses s).switch =
    if s.switch.contactor = .armed then
      { (enterClosing s).switch with
        seenContactor := (enterClosing s).switch.contactor, seenGoverning := (enterClosing s).switch.governing }
    else s.switch := by
  unfold reconnectCloses
  split_ifs
  · exact markSwitch_switch _
  · rfl

/-- Where a RECONNECT is accepted, its evaluation leaves the contactor ARMED, or CLOSING where it may close of itself. -/
theorem cleared_accepted (h : Accepted s) : (cleared s).switch.contactor =
    if autoClosePermitted (reconnected s) then .closing else .armed := by
  obtain ⟨hc, hq⟩ := h
  have hafter := (cleared_evaluated s).contactor
  have hsame : (reconnected s).switch.contactor = s.switch.contactor := rfl
  rw [hafter, contactorAfter, (cleared_sets s).1, hq, hsame]
  rcases hc with hc | hc <;> simp [hc]

/-- Where it is refused, the contactor is neither ARMED nor newly CLOSING. -/
theorem cleared_refused (h : ¬Accepted s) : (cleared s).switch.contactor ≠ .armed ∧
    (s.switch.contactor ≠ .closing → (cleared s).switch.contactor ≠ .closing) := by
  have hafter := (cleared_evaluated s).contactor
  have hsame : (reconnected s).switch.contactor = s.switch.contactor := rfl
  rw [hafter, contactorAfter, (cleared_sets s).1, hsame]
  by_cases hq : actingSet (reconnected s) = Reasons.empty
  · have hc : s.switch.contactor ≠ .opened ∧ s.switch.contactor ≠ .armed :=
      ⟨fun hc => h ⟨.inl hc, hq⟩, fun hc => h ⟨.inr hc, hq⟩⟩
    cases hx : s.switch.contactor <;> simp_all
    split_ifs <;> simp
  · cases hx : s.switch.contactor <;> simp [hq]

/-- What an accepted RECONNECT leaves: a close operation begun, at once or by the evaluation (R148, R154). -/
structure Closes (s t : State) : Prop where
  contactor : t.switch.contactor = .closing
  tamper : t.tamper = s.tamper
  pulse : driven s = true → t.switch.attempt = .pulse .close ∧
    t.switch.attemptCount = s.switch.attemptCount + 1 ∧ t.switch.kept.commandedClosed = true
  deferred : driven s = false → t.switch.attempt = .deferred .close

theorem reconnect_closes (h : Accepted s) : Closes s (reconnectCloses (cleared s)) := by
  have he := cleared_evaluated s
  have hcontactor := cleared_accepted h
  have hreleased : released (reconnected s) (cleared s) = false := by
    have hstuck : s.switch.contactor ≠ .stuck := by rcases h.1 with hc | hc <;> simp [hc]
    simp [released, reconnected, hstuck]
  have htamper : (cleared s).tamper = s.tamper := by
    rw [he.tamper, hreleased]
    rfl
  have hdriven : driven (cleared s) = driven s := by simp [driven, cleared, reconnectClears, handed]
  have hswitch := reconnectCloses_switch (cleared s)
  by_cases hauto : autoClosePermitted (reconnected s) = true
  · rw [if_pos hauto] at hcontactor
    have hnew : (reconnected s).switch.contactor ≠ .closing := by
      have hsame : (reconnected s).switch.contactor = s.switch.contactor := rfl
      rw [hsame]
      rcases h.1 with hc | hc <;> simp [hc]
    have hbegins : begins (reconnected s) (cleared s) = some .close := by
      simp [begins, hcontactor, Ne.symm hnew]
    rw [if_neg (by simp [hcontactor])] at hswitch
    refine ⟨?_, by simpa using htamper, fun hd => ?_, fun hd => ?_⟩
    · rw [hswitch, hcontactor]
    · obtain ⟨hpulse, hcount⟩ := he.pulse .close hbegins hd
      have hkept := congrArg SwitchKept.commandedClosed he.kept
      rw [hswitch]
      refine ⟨hpulse, hcount, ?_⟩
      rw [hkept]
      simp [hreleased, hbegins, show driven (reconnected s) = true from hd]
    · rw [hswitch]
      exact (he.deferred .close hbegins hd).1
  · rw [if_neg hauto] at hcontactor
    have hbegins : begins (reconnected s) (cleared s) = none := by
      simp [begins, hcontactor]
    obtain ⟨-, hcount⟩ := he.still hbegins
    rw [if_pos hcontactor, enterClosing_switch, hdriven] at hswitch
    refine ⟨?_, by simpa using htamper, fun hd => ?_, fun hd => ?_⟩
    · rw [hswitch]
      split_ifs <;> rfl
    · rw [hswitch, if_pos hd]
      exact ⟨rfl, congrArg (· + 1) hcount, rfl⟩
    · rw [hswitch, hd]
      rfl

theorem reconnected_completing (h : Taken s w) : Completing s (reconnectCloses (cleared s)) w :=
  taken_completing h (by simp [reconnectCloses_busy, cleared, reconnectClears, handed])

/-- A RECONNECT is accepted, as its result tells it. -/
def closesNow (s : State) : Bool :=
  s.switch.contactor != .closing && (reconnectCloses (cleared s)).switch.contactor = .closing

theorem reconnect_accepted : closesNow s = true ↔ Accepted s := by
  rw [closesNow, Bool.and_eq_true, bne_iff_ne, decide_eq_true_iff]
  constructor
  · rintro ⟨hc, hu⟩
    by_contra hn
    obtain ⟨harmed, hclosing⟩ := cleared_refused hn
    have hswitch := reconnectCloses_switch (cleared s)
    rw [if_neg harmed] at hswitch
    exact hclosing hc (hswitch ▸ hu)
  · intro h
    refine ⟨?_, (reconnect_closes h).contactor⟩
    rcases h.1 with hc | hc <;> simp [hc]

/-- The parts of the controller that a RECONNECT leaves as its evaluation does. -/
theorem reconnectCloses_sets (s : State) : (reconnectCloses s).switch.reasons = s.switch.reasons ∧
    (reconnectCloses s).switch.acting = s.switch.acting ∧ (reconnectCloses s).switch.held = s.switch.held ∧
    (reconnectCloses s).switch.governing = s.switch.governing ∧
    (reconnectCloses s).switch.kept.tripCount = s.switch.kept.tripCount ∧
    (reconnectCloses s).switch.kept.loadLatch = s.switch.kept.loadLatch ∧
    (reconnectCloses s).switch.kept.manualClose = s.switch.kept.manualClose := by
  rw [reconnectCloses_switch, enterClosing_switch]
  split_ifs <;> exact ⟨rfl, rfl, rfl, rfl, rfl, rfl, rfl⟩

theorem decideReconnect_eq (s : State) : decideReconnect (handed s) =
    completeEntry (reconnectResult s (cleared s) (reconnectCloses (cleared s)) (closesNow s)) (reconnectCloses (cleared s)) :=
  rfl

/-- Settles O25: the evaluation of a RECONNECT arms or closes exactly where it is accepted, and an ARMED contactor then closes. -/
theorem reconnectClosesOrTellsWhy : Obligations.ReconnectClosesOrTellsWhy := by
  intro s w h hk hp
  have hd : dueOf w = .reconnect := by
    unfold dueOf
    rw [hk]
    rfl
  have he := cleared_evaluated s
  have hc := reconnected_completing h
  have hiff : closesNow s = true ↔ (s.switch.contactor = .opened ∨ s.switch.contactor = .armed) ∧
    actingSet (reconnected s) = Reasons.empty := reconnect_accepted
  obtain ⟨hreasons, hacting, hheld, hgoverning, htrips, hlatch, hmanual⟩ := reconnectCloses_sets (cleared s)
  obtain ⟨sacting, sheld, sgoverning⟩ := cleared_sets s
  have tacting := he.acting.trans sacting
  have theld := he.held.trans sheld
  have tgoverning := he.governing.trans sgoverning
  have hlen (r : Bool) : (reconnectResult s (cleared s) (reconnectCloses (cleared s)) r).body.length ≤ 58 := by
    simp [reconnectResult, byte_eq, le_length, flagByte_eq]
  obtain ⟨hexec, hcomp, hpub⟩ := taken_answered (c := .reconnect) h hd (fun _ => rfl) (fun _ => rfl)
    (decideReconnect_eq s) hc (hlen _)
  refine ⟨_, hexec, ?_, hpub, ?_, ?_, ?_, ?_, ?_, ?_, ?_, ?_, fun ha => ?_, fun hn hs => ?_⟩
  · simp only [← hiff]
    simpa only [reconnectResult, tacting, theld, tgoverning, byte_eq, flagByte_eq, completeEntry_keeps] using hcomp
  · rw [sameExcept_iff]
    simp [cleared, reconnectClears, handed]
  · simpa using hreasons.trans he.inputs.1
  · simpa using hacting.trans tacting
  · simpa using hheld.trans theld
  · simpa using hgoverning.trans tgoverning
  · simpa [he.kept, reconnected] using htrips
  · simpa [he.kept, reconnected] using hlatch
  · simpa [he.kept, reconnected] using hmanual
  · obtain ⟨hcontactor, htamper, hpulse, hdeferred⟩ := reconnect_closes ha
    refine ⟨by simpa using htamper, by simpa using hcontactor, fun hm => ?_, fun hm => ?_⟩
    · simpa using hpulse (by simp [driven, hm])
    · simpa using hdeferred (by simp [driven, hm])
  · obtain ⟨harmed, hclosing⟩ := cleared_refused hn
    have hswitch := reconnectCloses_switch (cleared s)
    rw [if_neg harmed] at hswitch
    simpa [hswitch] using hclosing hs

end Sys2Proof.Proofs
end

section
/-! SUPPORT. The end of a TOKEN entry's decode: what stands then, how it is refused, and how it is accepted. -/

namespace Sys2Proof.Proofs
open Sys2Proof.Machine Sys2Proof.Safety

variable {s t u : State} {w : Work} {p : Block}

/-! ## The plaintext (R97, R98) -/

theorem plainOf_cls (p : Block) : (plainOf p).cls = tokenClass p := by
  have hp := p.isLt
  simp only [plainOf, tokenClass, BitVec.extractLsb'_toNat, Nat.shiftRight_eq_div_pow]
  omega

theorem plainOf_serial (p : Block) : (plainOf p).serial = tokenSerial p := by
  simp only [plainOf, tokenSerial, BitVec.extractLsb'_toNat, Nat.shiftRight_eq_div_pow]

theorem plainOf_payload (p : Block) : (plainOf p).payload = tokenPayload p := by
  simp only [plainOf, tokenPayload, BitVec.extractLsb'_toNat, Nat.shiftRight_eq_div_pow]

theorem genuine_iff (p : Block) : (plainOf p).genuine = true ↔ Genuine p := by
  have hcheck : p.setWidth 16 = p.extractLsb' 0 16 := by
    refine BitVec.eq_of_toNat_eq ?_
    simp
  simp only [Plain.genuine, plainOf, Genuine, hcheck, beq_iff_eq]

theorem payload_lt (p : Block) : tokenPayload p < 4294967296 := (p.extractLsb' 16 32).isLt

/-! ## The end of a decode -/

/-- What stands at the end of the decode of the entry `w`, with the plaintext `p`. -/
def endedDecode (s : State) (w : Work) (p : Block) : Decoded := ⟨w, w.selector, tokenKey s w, plainOf p⟩

theorem decoded_eq (h : DecodeEnds s w p) : decoded s = some (endedDecode s w p) := by
  have hbody : decodeBody (s.decoder.key w.selector).key w.bodyValue = p := by
    rw [decodeBody, h.body]
    exact Equiv.symm_apply_apply _ p
  simp only [decoded, h.work, h.stage, if_true, hbody]
  rfl

theorem endedDecode_body (s : State) (w : Work) (p : Block) : (endedDecode s w p).body = tokenHead s w p := by
  have hserial := plainOf_serial p
  have hcls := plainOf_cls p
  simp only [Decoded.body, tokenBody, endedDecode, tokenHead, hserial, hcls, byte_eq]

theorem tokenHead_length (s : State) (w : Work) (p : Block) : (tokenHead s w p).length = 7 := by
  simp [tokenHead, le_length]

/-- A decode that ends leaves what a completion compares. -/
theorem decode_completing (h : DecodeEnds s w p) : Completing s s w :=
  ⟨⟨w.stage, by rw [← h.work]⟩, rfl, rfl, rfl, rfl, h.idle⟩

/-- The row of a class finds its token, and makes checks 9 and 10. -/
theorem tokenApply_eq (h : DecodeEnds s w p) (hg : Genuine p) {cls : Nat} (hcls : tokenClass p = cls) (least : Nat)
    (act : Decoded → State → State) : tokenApply cls least act s =
      match serialCheck (tokenKey s w) cls (tokenSerial p) least with
      | some code => completeEntry ⟨code, 0, tokenHead s w p⟩ s
      | none => act (endedDecode s w p) s := by
  have hgenuine := (genuine_iff p).mpr hg
  have hrefusal : tokenRefusal least (endedDecode s w p) = serialCheck (tokenKey s w) cls (tokenSerial p) least := by
    rw [tokenRefusal_eq, ← hcls, ← plainOf_cls, ← plainOf_serial]
    rfl
  have hplain : ((endedDecode s w p).plain.genuine && decide ((endedDecode s w p).plain.cls = cls)) = true := by
    simp [endedDecode, hgenuine, plainOf_cls, hcls]
  cases hs : serialCheck (tokenKey s w) cls (tokenSerial p) least with
  | none => simp only [tokenApply, decoded_eq h, hplain, if_true, hrefusal, hs]
  | some code => simp only [tokenApply, decoded_eq h, hplain, if_true, hrefusal, hs, refuseToken, endedDecode_body]

/-- The command of a class's row that lets its token pass makes the class's effect. -/
theorem exec_passes {c : Instr} {cls least : Nat} {act : Decoded → State → State} (h : Passes s w p cls least)
    (hexec : ∀ u, exec c u = .next (arrival (tokenApply cls least act) u)) :
    exec c s = .next (advance (act (endedDecode s w p) s)) := by
  rw [hexec, arrival_of_idle h.idle, tokenApply_eq h.toDecodeEnds h.genuine h.named, h.checks]

/-- A token that is refused completes its entry and leaves the rest. -/
theorem refused_of_completes {c : Instr} {code : ResultCode} {item : Nat} (h : DecodeEnds s w p)
    (hexec : exec c s = .next (advance (completeEntry ⟨code, item, tokenHead s w p⟩ s))) : TokenRefused c s w p code item := by
  have hc := decode_completing h
  have hcomp := hc.completes h.toOwnSlot ⟨code, item, tokenHead s w p⟩
  rw [List.take_of_length_le (by simp [tokenHead_length])] at hcomp
  refine ⟨_, hexec.trans (congrArg _ (hc.ends _)), hcomp, hc.publishes _, completeEntry_frame _ _⟩

/-- A class's effect that refuses its token. -/
theorem refused_of_passes {c : Instr} {cls least : Nat} {act : Decoded → State → State} {code : ResultCode} {item : Nat}
    (h : Passes s w p cls least) (hexec : ∀ u, exec c u = .next (arrival (tokenApply cls least act) u))
    (hact : act (endedDecode s w p) s = refuseToken code item (endedDecode s w p) s) : TokenRefused c s w p code item := by
  refine refused_of_completes h.toDecodeEnds ?_
  rw [exec_passes h hexec, hact, refuseToken, endedDecode_body]

/-- Settles O31: checks 9 and 10 stand before every class's effect. -/
theorem authorityAndSerialRefuse : Obligations.AuthorityAndSerialRefuse := by
  intro c cls least hrow s w p h hg hcls
  have hexec : ∃ act, ∀ u, exec c u = .next (arrival (tokenApply cls least act) u) := by
    simp only [tokenRows, List.mem_cons, List.not_mem_nil, or_false, Prod.mk.injEq] at hrow
    rcases hrow with ⟨rfl, rfl, rfl⟩ | ⟨rfl, rfl, rfl⟩ | ⟨rfl, rfl, rfl⟩ | ⟨rfl, rfl, rfl⟩ | ⟨rfl, rfl, rfl⟩ |
      ⟨rfl, rfl, rfl⟩ | ⟨rfl, rfl, rfl⟩ | ⟨rfl, rfl, rfl⟩ | ⟨rfl, rfl, rfl⟩ | ⟨rfl, rfl, rfl⟩ <;>
    exact ⟨_, fun _ => rfl⟩
  obtain ⟨act, hexec⟩ := hexec
  have heq := tokenApply_eq h hg hcls least act
  cases hcheck : serialCheck (tokenKey s w) cls (tokenSerial p) least with
  | none => trivial
  | some code =>
    rw [hcheck] at heq
    exact refused_of_completes h (by rw [hexec, arrival_of_idle h.idle, heq])

/-! ## Bad codes and TEST (R100, R104, R112) -/

theorem exec_decodeEnd (h : DecodeEnds s w p) : exec .tokenDecodeEnd s = .next (advance (tokenFails s)) :=
  congrArg _ (arrival_of_idle h.idle tokenFails)

/-- A decode that ends without a genuine plaintext is a bad code. -/
theorem tokenFails_bad (h : DecodeEnds s w p) (hg : ¬Genuine p) :
    tokenFails s = refuseBadCode ⟨.checkFail, 0, bareHead s w⟩ s := by
  have hgenuine : (endedDecode s w p).plain.genuine = false := by
    simpa [endedDecode] using mt (genuine_iff p).mp hg
  simp only [tokenFails, decoded_eq h, hgenuine, Bool.not_false, if_true]
  rfl

theorem tokenFails_unknown (h : DecodeEnds s w p) (hg : Genuine p) (hcls : 10 ≤ tokenClass p) :
    tokenFails s = completeEntry ⟨.classUnknown, 0, tokenHead s w p⟩ s := by
  have hgenuine : (endedDecode s w p).plain.genuine = true := (genuine_iff p).mpr hg
  have hclass : 10 ≤ (endedDecode s w p).plain.cls := (plainOf_cls p).symm ▸ hcls
  simp only [tokenFails, decoded_eq h, hgenuine, Bool.not_true, Bool.false_eq_true, if_false, hclass, if_true, refuseToken,
    endedDecode_body]

/-- The decoder may change before an entry in its decode completes. -/
theorem decoder_completing (h : DecodeEnds s w p) (f : Decoder → Decoder) : Completing s (onDecoder f s) w :=
  ⟨⟨w.stage, by rw [← h.work]; rfl⟩, rfl, rfl, rfl, rfl, h.idle⟩

theorem decoder_frame (f : Decoder → Decoder) (r : Result) (s : State) :
    SameExcept [.mem, .intake, .attn, .agenda, .decoder] s (completeEntry r (onDecoder f s)) := by
  rw [sameExcept_iff]
  simp

/-- Settles O32: the end of a decode without a genuine plaintext, of one of an unknown class, and the class TEST. -/
theorem testsAndFailedDecodesComplete : Obligations.TestsAndFailedDecodesComplete := by
  refine ⟨fun s w p h => ⟨fun hg hn => ?bad, fun hg hn => ?lockout, fun hg hcls => ?unknown⟩,
    fun s w p h => ⟨fun hn => ?refused, fun hn => ?tested⟩⟩
  case bad =>
    have hc := decoder_completing h fun x => { x with badCount := x.badCount + 1 }
    have hbad : refuseBadCode ⟨.checkFail, 0, bareHead s w⟩ s = completeEntry ⟨.checkFail, 0, bareHead s w⟩
        (onDecoder (fun x => { x with badCount := x.badCount + 1 }) s) := if_neg (by omega)
    refine ⟨_, (exec_decodeEnd h).trans (congrArg _ (by rw [tokenFails_bad h hg, hbad]; exact hc.ends _)), ?_,
      hc.publishes _, decoder_frame _ _ s, by simp⟩
    have hcomp := hc.completes h.toOwnSlot ⟨.checkFail, 0, bareHead s w⟩
    rwa [List.take_of_length_le (bareHead_length w s)] at hcomp
  case lockout =>
    have hlock : refuseBadCode ⟨.checkFail, 0, bareHead s w⟩ s =
        dueFirst .keypadLockoutStart (dueFirst (.complete ⟨.checkFail, 0, bareHead s w⟩) s) := if_pos hn
    rw [exec_decodeEnd h, tokenFails_bad h hg, hlock, advance_of_row (by simp [Due.isRow])]
    simp [dueFirst, onAgenda, h.idle]
  case unknown => exact refused_of_completes h (by rw [exec_decodeEnd h, tokenFails_unknown h hg hcls])
  case refused =>
    refine refused_of_passes (c := .test) h (fun _ => rfl) (if_pos ?_)
    rwa [endedDecode, plainOf_payload]
  case tested =>
    have hd := h.toDecodeEnds
    have hact : applyTest (endedDecode s w p) s = completeEntry ⟨.accepted, 0, (endedDecode s w p).body ++
        byte (tokenKey s w).authority ++ le 3 (tokenKey s w).expiry⟩ (recordToken (endedDecode s w p) s) :=
      if_neg (by simp [endedDecode, plainOf_payload, hn])
    have hc : Completing s (recordToken (endedDecode s w p) s) w := decoder_completing hd _
    have hexec := exec_passes (c := .test) h (fun _ => rfl)
    rw [hact, hc.ends, endedDecode_body] at hexec
    refine ⟨_, hexec, ?_, hc.publishes _, decoder_frame _ _ s, ?_⟩
    · have hcomp := hc.completes hd.toOwnSlot
        ⟨.accepted, 0, tokenHead s w p ++ byte (tokenKey s w).authority ++ le 3 (tokenKey s w).expiry⟩
      rwa [List.take_of_length_le (by simp [tokenHead_length, byte_eq, le_length])] at hcomp
    · have hzero : tokenSerial p = 0 := by
        have hchecks := h.checks
        by_contra hne
        unfold serialCheck at hchecks
        rw [if_pos rfl, if_neg hne] at hchecks
        split_ifs at hchecks
      have hcls := h.named
      simp [recordToken, endedDecode, plainOf_cls, plainOf_serial, hzero, hcls]

/-! ## Acceptance (R102) -/

/-- The entry in work waits for the write that is asked for. -/
theorem awaitWrite_awaits (hw : s.intake.work = some w) (h : u.intake = s.intake ∧ u.store = s.store ∧ u.supply = s.supply)
    (r : Result) : AwaitsWrite s (awaitWrite r u) w r := by
  obtain ⟨hintake, hstore, hsupply⟩ := h
  have hasked := requestWrite_asked (setStage (.waiting .next r) u)
  have htold := requestWrite_requesters (setStage (.waiting .next r) u)
  have hsections : sectionsOf (setStage (.waiting .next r) u) = sectionsOf (awaitWrite r u) := by
    simp [sectionsOf, awaitWrite]
  have hwaits : (setStage (.waiting .next r) u).intake =
      { s.intake with work := some { w with stage := .waiting .next r } } := by
    simp [setStage, hintake, hw]
  rw [hsections] at hasked
  rw [hwaits] at htold
  exact ⟨asked_between hasked (by simp [hstore, hsupply]) ⟨rfl, rfl⟩, told_between htold (by simp [hstore, hsupply]) rfl⟩

/-- Nothing that the acceptance of a token reads has changed from `s` to `u`, in which the token's effect is made. -/
structure Accepting (s u : State) : Prop where
  intake : u.intake = s.intake
  store : u.store = s.store
  supply : u.supply = s.supply
  agenda : u.agenda = []

theorem acceptToken_awaits (h : DecodeEnds s w p) (hu : Accepting s u) (fields : List Byte) :
    AwaitsWrite s (acceptToken (endedDecode s w p) fields u) w ⟨.accepted, 0, tokenHead s w p ++ fields⟩ := by
  obtain ⟨hintake, hstore, hsupply, -⟩ := hu
  rw [acceptToken, endedDecode_body]
  refine awaitWrite_awaits h.work ?_ _
  simp [hintake, hstore, hsupply]

/-- The decoder of an accepted token (R96, R102). -/
theorem acceptToken_decoder (hd : u.decoder = s.decoder) (fields : List Byte) :
    (acceptToken (endedDecode s w p) fields u).decoder = acceptedDecoder s w p := by
  have hsteps : (acceptToken (endedDecode s w p) fields u).decoder =
      (recordToken (endedDecode s w p) (spendSerial (endedDecode s w p) u)).decoder := by
    simp [acceptToken, awaitWrite]
  rw [hsteps]
  simp only [recordToken, spendSerial, onDecoder_decoder, endedDecode, hd, plainOf_cls, plainOf_serial]
  rfl

/-- An accepted token ends its command: nothing is due behind it. -/
theorem exec_accepted {c : Instr} {cls least : Nat} {act : Decoded → State → State} {fields : List Byte}
    (h : Passes s w p cls least) (hexec : ∀ u, exec c u = .next (arrival (tokenApply cls least act) u))
    (hu : Accepting s u) (hact : act (endedDecode s w p) s = acceptToken (endedDecode s w p) fields u) :
    exec c s = .next (acceptToken (endedDecode s w p) fields u) := by
  rw [exec_passes h hexec, hact, advance_of_idle]
  simpa [acceptToken, awaitWrite] using hu.agenda

end Sys2Proof.Proofs
end

section
/-! SUPPORT. The classes of tokens: each class's refusals in order, and its effect behind the acceptance. -/

namespace Sys2Proof.Proofs
open Sys2Proof.Machine Sys2Proof.Safety

variable {s t u : State} {w : Work} {p : Block}

/-! ## Tokens that change the account (R105) -/

/-- The token accepted with another account, and what is derived from it. -/
def accountAccepted (s : State) (w : Work) (p : Block) (a : Account) (fields : List Byte) : State :=
  acceptToken (endedDecode s w p) fields (deriveCredit (setAccount a s))

theorem account_accepting (h : s.agenda = []) (a : Account) : Accepting s (deriveCredit (setAccount a s)) := by
  refine ⟨?_, ?_, ?_, ?_⟩ <;> simp [h]

/-- What an accepted token with another account leaves. -/
structure AccountAccepted (s t : State) (w : Work) (p : Block) (a : Account) (fields : List Byte) : Prop where
  accepted : TokenAccepted s t w p fields [.credit, .switch, .tamper]
  decoder : t.decoder = acceptedDecoder s w p
  credit : t.credit = { s.credit with
    account := a
    ecState := ecStateOf a s.settings
    lowCredit := decide (a.balance ≤ s.settings.lowCredit)
    reason := decide (a.balance ≤ -(a.grant : Int)) }
  handed : CreditHanded s t t.credit.reason

theorem account_accepted (h : DecodeEnds s w p) (a : Account) (fields : List Byte) :
    AccountAccepted s (accountAccepted s w p a fields) w p a fields := by
  refine ⟨⟨acceptToken_awaits h (account_accepting h.idle a) fields, ?_⟩, acceptToken_decoder (by simp) fields, ?_, ?_⟩
  · rw [sameExcept_iff]
    simp [accountAccepted]
  · have hcredit : (accountAccepted s w p a fields).credit = (deriveCredit (setAccount a s)).credit := by
      simp [accountAccepted]
    rw [hcredit, deriveCredit_credit]
    rfl
  · refine deriveCredit_between (u := setAccount a s) ⟨⟨rfl, rfl, rfl, rfl⟩, rfl, rfl, rfl, handing_of_powered h.power⟩
      ⟨?_, ?_, ?_, ?_, ?_⟩ ?_ fun i hi => marks_of_due (by simpa [accountAccepted] using hi)
    all_goals simp [accountAccepted]

theorem exec_account {c : Instr} {cls least : Nat} {act : Decoded → State → State} {a : Account} {fields : List Byte}
    (h : Passes s w p cls least) (hexec : ∀ u, exec c u = .next (arrival (tokenApply cls least act) u))
    (hact : act (endedDecode s w p) s = accountAccepted s w p a fields) :
    exec c s = .next (accountAccepted s w p a fields) := exec_accepted h hexec (account_accepting h.idle a) hact

theorem deriveCredit_account (s : State) : (deriveCredit s).credit.account = s.credit.account := by simp

theorem amount_iff (n : Nat) : amountInRange n = true ↔ 1 ≤ n ∧ n ≤ 99999999 := by
  simp [amountInRange]

theorem endedDecode_payload (s : State) (w : Work) (p : Block) : (endedDecode s w p).plain.payload = tokenPayload p :=
  plainOf_payload p

/-- The debt share of a CREDIT token. -/
def debtShare (s : State) (p : Block) : Nat :=
  topupRecovery s.settings.debtRate (tokenPayload p * 100) s.credit.account.debt

/-- The account after a CREDIT token. -/
def toppedUp (s : State) (p : Block) : Account :=
  topupAccount (tokenPayload p * 100) (debtShare s p) s.credit.account

/-- Settles O33: the payload's range, then the balance's limit, then one derivation behind the top-up. -/
theorem creditTokensTopUp : Obligations.CreditTokensTopUp := by
  intro s w p h
  have hexec (u : State) : exec .credit u = .next (arrival (tokenApply 1 1 applyCredit) u) := rfl
  refine ⟨fun hn => refused_of_passes h hexec (if_pos ?_), fun h1 h2 hB => refused_of_passes h hexec ?_, fun h1 h2 hB => ?_⟩
  · simpa [endedDecode_payload, ← amount_iff] using hn
  · have hr : amountInRange (tokenPayload p) = true := (amount_iff _).mpr ⟨h1, h2⟩
    have htop : topup (tokenPayload p * 100) s = none := if_pos hB
    simp only [applyCredit, endedDecode_payload, hr, Bool.not_true, Bool.false_eq_true, if_false, htop]
  · have hr : amountInRange (tokenPayload p) = true := (amount_iff _).mpr ⟨h1, h2⟩
    have htop : topup (tokenPayload p * 100) s = some (deriveCredit (setAccount (toppedUp s p) s)) := if_neg (not_lt.mpr hB)
    have hact : applyCredit (endedDecode s w p) s = accountAccepted s w p (toppedUp s p) (le 8 (tokenPayload p * 100) ++
        le 8 (debtShare s p) ++ leSigned 8 (toppedUp s p).balance ++ le 8 (toppedUp s p).debt) := by
      simp only [applyCredit, endedDecode_payload, hr, Bool.not_true, Bool.false_eq_true, if_false, htop,
        deriveCredit_account]
      rfl
    obtain ⟨hacc, hdec, hcredit, hhanded⟩ := account_accepted h.toDecodeEnds (toppedUp s p) (le 8 (tokenPayload p * 100) ++
      le 8 (debtShare s p) ++ leSigned 8 (toppedUp s p).balance ++ le 8 (toppedUp s p).debt)
    refine ⟨_, exec_account h hexec hact, hacc, hdec, ?_, ?_, hhanded⟩
    · rw [hcredit]
      rfl
    · rw [hcredit]
      rfl

/-- The account after a DEBT_ADD token. -/
def debtRaised (s : State) (p : Block) : Account := debtAccount (tokenPayload p * 100) s.credit.account

/-- Settles O34: either class is one derivation behind the changed account. -/
theorem debtAddAndClearTokens : Obligations.DebtAddAndClearTokens := by
  refine ⟨fun s w p h hlimit => ?debt, fun s w p h => ?clear⟩
  case debt =>
    have hexec (u : State) : exec .debtAdd u = .next (arrival (tokenApply 2 3 applyDebtAdd) u) := rfl
    refine ⟨fun hn => refused_of_passes h hexec (if_pos ?_), fun h1 h2 => ?_⟩
    · simpa [endedDecode_payload, ← amount_iff] using hn
    · have hr : amountInRange (tokenPayload p) = true := (amount_iff _).mpr ⟨h1, h2⟩
      have hact : applyDebtAdd (endedDecode s w p) s = accountAccepted s w p (debtRaised s p)
          (le 8 (debtAdded (tokenPayload p * 100) s.credit.account) ++ le 8 (debtRaised s p).debt ++
            flagByte (Config.debtLimit < s.credit.account.debt + tokenPayload p * 100)) := by
        simp only [applyDebtAdd, endedDecode_payload, hr, Bool.not_true, Bool.false_eq_true, if_false, deriveCredit_account]
        rfl
      obtain ⟨hacc, hdec, hcredit, hhanded⟩ := account_accepted h.toDecodeEnds (debtRaised s p) (le 8 (debtAdded
        (tokenPayload p * 100) s.credit.account) ++ le 8 (debtRaised s p).debt ++
          flagByte (Config.debtLimit < s.credit.account.debt + tokenPayload p * 100))
      refine ⟨_, exec_account h hexec hact, ?_, hdec, ?_, ?_, hhanded⟩
      · simp only [flagByte_eq, decide_eq_true_eq] at hacc ⊢
        exact hacc
      · rw [hcredit]
        rfl
      · rw [hcredit]
        rfl
  case clear =>
    have hexec (u : State) : exec .clear u = .next (arrival (tokenApply 3 3 applyClear) u) := rfl
    refine ⟨fun hn => refused_of_passes h hexec (if_pos ?_), fun h1 h2 => ?_⟩
    · simp only [endedDecode_payload, Bool.not_eq_true', Bool.and_eq_false_iff, decide_eq_false_iff_not]
      omega
    · have hact : applyClear (endedDecode s w p) s = accountAccepted s w p (clearAccount (tokenPayload p) s.credit.account)
          (le 1 (tokenPayload p)) := by
        simp only [applyClear, endedDecode_payload, h1, h2, decide_true, Bool.and_true, Bool.not_true, Bool.false_eq_true,
          if_false]
        rfl
      obtain ⟨hacc, hdec, hcredit, hhanded⟩ := account_accepted h.toDecodeEnds
        (clearAccount (tokenPayload p) s.credit.account) (le 1 (tokenPayload p))
      refine ⟨_, exec_account h hexec hact, hacc, hdec, ?_, hhanded⟩
      rw [hcredit]
      simp only [clearAccount, clearCreditGroup, clearDebtGroup, Bool.or_eq_true, decide_eq_true_eq]

/-! ## SETTING (R106) -/

theorem settingInRange_iff {id : Nat} (v : Nat) (hid : 1 ≤ id ∧ id ≤ 19) : settingInRange id v = true ↔ SettingRange id v := by
  refine ⟨settingInRange_range, fun h => ?_⟩
  obtain ⟨hlow, hhigh⟩ := hid
  interval_cases id <;> simp [SettingRange, settingRanges] at h <;> simp [settingInRange, modeInRange] <;> omega

theorem settings_get_eq (q : Settings) {id : Nat} (hid : 1 ≤ id) : q.get id = q.toList.getD (id - 1) 0 :=
  if_neg (by omega)

/-- A SETTING token behind its window's check is refused by the first check that fails, or stages its value. -/
theorem applySetting_staged {q : Settings} (hc : s.window.state ≠ .closed) (hq : s.window.staged = some q) (d : Decoded) :
    applySetting d s =
      let id := d.plain.payload / 16777216
      let v := d.plain.payload % 16777216
      if settingKnown id && (s.window.rank < settingAuthority id || d.key.authority < settingAuthority id) then
        refuseToken .windowRank id d s
      else if !settingKnown id then refuseToken .settingId id d s
      else if !settingInRange id v then refuseToken .payloadRange id d s
      else acceptToken d (byte id ++ le 3 (q.get id) ++ le 3 v) (stageSetting (q.set id v) s) := by
  simp only [applySetting, hq, if_neg hc, Nat.reducePow]

theorem settingKnown_iff (id : Nat) : settingKnown id = true ↔ 1 ≤ id ∧ id ≤ 19 := by simp [settingKnown]

theorem settingAuthority_eq (id : Nat) : settingAuthority id = if (2 ≤ id ∧ id ≤ 5) ∨ 17 ≤ id then 2 else 3 := by
  simp only [settingAuthority, Bool.or_eq_true, Bool.and_eq_true, decide_eq_true_eq]

/-- Settles O35: the checks of the class in their order, then the value in the staged record. -/
theorem settingTokensStage : Obligations.SettingTokensStage := by
  intro s w p h
  have hexec (u : State) : exec .setting u = .next (arrival (tokenApply 4 0 applySetting) u) := rfl
  dsimp only
  by_cases hc : s.window.state = .closed
  · rw [if_pos hc]
    refine refused_of_passes h hexec ?_
    unfold applySetting
    split
    · rfl
    · rw [if_pos hc]
  rw [if_neg hc]
  cases hq : s.window.staged with
  | none =>
    refine refused_of_passes h hexec ?_
    simp only [applySetting, hq]
  | some q =>
    have hact := applySetting_staged hc hq (endedDecode s w p)
    have hkey : (endedDecode s w p).key.authority = (tokenKey s w).authority := rfl
    simp only [endedDecode_payload, hkey, settingKnown_iff, settingAuthority_eq, Bool.and_eq_true, Bool.or_eq_true,
      decide_eq_true_eq, Bool.not_eq_true', ← Bool.not_eq_true] at hact
    dsimp only
    by_cases hrank : (1 ≤ tokenPayload p / 16777216 ∧ tokenPayload p / 16777216 ≤ 19) ∧
        (s.window.rank < (if (2 ≤ tokenPayload p / 16777216 ∧ tokenPayload p / 16777216 ≤ 5) ∨
          17 ≤ tokenPayload p / 16777216 then 2 else 3) ∨ (tokenKey s w).authority <
            (if (2 ≤ tokenPayload p / 16777216 ∧ tokenPayload p / 16777216 ≤ 5) ∨ 17 ≤ tokenPayload p / 16777216 then 2 else 3))
    · rw [if_pos hrank] at hact ⊢
      exact refused_of_passes h hexec hact
    rw [if_neg hrank] at hact ⊢
    by_cases hknown : 1 ≤ tokenPayload p / 16777216 ∧ tokenPayload p / 16777216 ≤ 19
    · rw [if_neg (not_not_intro hknown)] at hact ⊢
      simp only [settingInRange_iff _ hknown] at hact
      by_cases hrange : SettingRange (tokenPayload p / 16777216) (tokenPayload p % 16777216)
      · rw [if_neg (not_not_intro hrange)] at hact ⊢
        have hu : Accepting s (stageSetting (q.set (tokenPayload p / 16777216) (tokenPayload p % 16777216)) s) :=
          ⟨rfl, rfl, rfl, h.idle⟩
        rw [settings_get_eq q hknown.1] at hact
        refine ⟨_, exec_accepted h hexec hu hact, ⟨acceptToken_awaits h.toDecodeEnds hu _, ?_⟩, acceptToken_decoder rfl _, ?_, ?_⟩
        · rw [sameExcept_iff]
          simp
        · simp [stageSetting]
        · simp [stageSetting, settings_toList_set q _ hknown]
      · rw [if_pos hrange] at hact ⊢
        exact refused_of_passes h hexec hact
    · rw [if_pos hknown] at hact ⊢
      exact refused_of_passes h hexec hact

/-! ## WINDOW_OPEN (R107) -/

/-- The window as WINDOW_OPEN opens it, with its hold contribution, before the evaluation. -/
def opened (rank seconds : Nat) (s : State) : State :=
  onSwitch (fun x => { x with windowHold := 2 })
    (onWindow (fun x => ⟨.opened, rank, seconds, some s.settings, x.cause⟩) s)

theorem openWindow_eq (rank seconds : Nat) (s : State) : openWindow rank seconds s = evaluate (opened rank seconds s) := rfl

/-- Settles O36: the payload, then the window's state, then one evaluation behind the opened window. -/
theorem windowOpenTokensOpen : Obligations.WindowOpenTokensOpen := by
  intro s w p h
  have hexec (u : State) : exec .windowOpen u = .next (arrival (tokenApply 5 2 applyWindowOpen) u) := rfl
  have hrange : (1 ≤ tokenPayload p ∧ tokenPayload p ≤ 240) ↔
      (decide (1 ≤ tokenPayload p) && decide (tokenPayload p ≤ 240)) = true := by simp
  refine ⟨fun hn => refused_of_passes h hexec (if_pos ?_), fun h1 h2 hb => refused_of_passes h hexec ?_,
    fun h1 h2 hc => ?_⟩
  · rw [endedDecode_payload, Bool.not_eq_true', ← Bool.not_eq_true, ← hrange]
    exact hn
  · simp only [applyWindowOpen, endedDecode_payload, hrange.mp ⟨h1, h2⟩, Bool.not_true, Bool.false_eq_true, if_false,
      if_pos hb]
  · have hact : applyWindowOpen (endedDecode s w p) s = acceptToken (endedDecode s w p)
        (le 1 (tokenKey s w).authority ++ le 2 (tokenPayload p * 60))
          (openWindow (tokenKey s w).authority (tokenPayload p * 60) s) := by
      simp only [applyWindowOpen, endedDecode_payload, hrange.mp ⟨h1, h2⟩, Bool.not_true, Bool.false_eq_true, if_false,
        if_neg (not_not_intro hc)]
      rfl
    have hu : Accepting s (openWindow (tokenKey s w).authority (tokenPayload p * 60) s) := by
      refine ⟨?_, ?_, ?_, ?_⟩ <;> simp [h.idle]
    refine ⟨_, exec_accepted h hexec hu hact, ⟨acceptToken_awaits h.toDecodeEnds hu _, ?_⟩,
      acceptToken_decoder (by simp) _, ?_, ?_⟩
    · rw [sameExcept_iff]
      simp
    · simp [openWindow, handWindowHold]
    · refine evaluated_between (u := opened (tokenKey s w).authority (tokenPayload p * 60) s) ⟨rfl, rfl, rfl, rfl⟩
        ⟨?_, ?_, ?_, ?_, ?_⟩ fun hdue => marks_of_due (by simpa [openWindow_eq] using hdue)
      all_goals simp [openWindow_eq]

/-! ## TAMPER_CLEAR (R108, R168) -/

/-- The records behind a TAMPER_CLEAR. -/
def clearedRecords (n : Nat) (rs : Vector TamperRecord 10) : Vector TamperRecord 10 :=
  Vector.ofFn fun k : Fin 10 => if n.testBit k ∧ rs[k].state = .latched then ⟨.clear, 0, 0, 0, 0, 0, 0, false⟩ else rs[k]

theorem tamperClear_eq (n : Nat) (s : State) : tamperClearArrives n s =
    deriveTamper (onTamper (fun x => { x with records := clearedRecords n x.records }) s) := by
  have hrecords : (s.tamper.records.mapFinIdx fun k r _ => if n.testBit k then clearedRecord r else r) =
      clearedRecords n s.tamper.records := by
    refine Vector.ext fun k hk => ?_
    simp only [Vector.getElem_mapFinIdx, clearedRecords, Vector.getElem_ofFn, clearedRecord, Fin.getElem_fin]
    split_ifs <;> simp_all
    rfl
  simp only [tamperClearArrives, onTamper, hrecords]

theorem maskOf_eq_sum (l : List Bool) :
    maskOf l = ((List.range l.length).map fun k => if l.getD k false = true then 2 ^ k else 0).sum := by
  rw [maskOf_eq_bits, bits]
  refine congrArg List.sum (List.ext_getElem (by simp) fun k hk _ => ?_)
  have hlen : k < l.length := by simpa using hk
  simp [hlen]

/-- The selected kinds whose record is in a state, as a mask. -/
theorem selectedMask_eq (x : TamperState) (n : Nat) (rs : Vector TamperRecord 10) :
    maskOf (List.zipWith (fun b r => b && r.state == x) (kindBits n) rs.toList) =
      ((List.range 10).map fun k =>
        if (n.testBit k && (rs.toList.map fun r => decide (r.state = x)).getD k false) = true then 2 ^ k else 0).sum := by
  have hlen : (List.zipWith (fun b r => b && r.state == x) (kindBits n) rs.toList).length = 10 := by simp [kindBits]
  rw [maskOf_eq_sum, hlen]
  refine congrArg List.sum (List.map_congr_left fun k hk => ?_)
  have hk10 : k < 10 := List.mem_range.mp hk
  have hzip : (List.zipWith (fun b r => b && r.state == x) (kindBits n) rs.toList).getD k false =
      (n.testBit k && (rs.toList.map fun r => decide (r.state = x)).getD k false) := by
    rw [List.getD_eq_getElem _ _ (by omega), List.getD_eq_getElem _ _ (by simpa using hk10)]
    simp [kindBits, beq_eq_decide]
  rw [hzip]

/-- Settles O37: the payload, then the records as the mask clears them, and one derivation behind them. -/
theorem tamperClearTokensClear : Obligations.TamperClearTokensClear := by
  intro s w p h
  have hexec (u : State) : exec .tamperClear u = .next (arrival (tokenApply 6 2 applyTamperClear) u) := rfl
  refine ⟨fun hn => refused_of_passes h hexec (if_pos ?_), fun hn => ?_⟩
  · rwa [endedDecode_payload]
  · have hact : applyTamperClear (endedDecode s w p) s = acceptToken (endedDecode s w p)
        (le 2 (clearedMask (tokenPayload p) s.tamper.records) ++ le 2 (refusedMask (tokenPayload p) s.tamper.records))
          (tamperClearArrives (tokenPayload p) s) := by
      simp only [applyTamperClear, endedDecode_payload, if_neg (not_le.mpr hn)]
    have hu : Accepting s (tamperClearArrives (tokenPayload p) s) := by
      refine ⟨?_, ?_, ?_, ?_⟩ <;> simp [h.idle]
    have hawaits := acceptToken_awaits h.toDecodeEnds hu
      (le 2 (clearedMask (tokenPayload p) s.tamper.records) ++ le 2 (refusedMask (tokenPayload p) s.tamper.records))
    refine ⟨_, exec_accepted h hexec hu hact, ⟨?_, ?_⟩, acceptToken_decoder (by simp) _, ?_⟩
    · simpa only [clearedMask, refusedMask, selectedMask_eq] using hawaits
    · rw [sameExcept_iff]
      simp
    · refine deriveTamper_between
        (u := onTamper (fun x => { x with records := clearedRecords (tokenPayload p) x.records }) s)
        ⟨rfl, rfl, ⟨rfl, rfl⟩, rfl⟩ ⟨?_, ?_, ?_, ?_, ?_⟩ fun hdue => marks_of_due (by simpa [tamperClear_eq] using hdue)
      all_goals simp [tamperClear_eq]

/-! ## KEY_CHANGE (R110, R111) -/

theorem tokenPayload_fields (p : Block) : keyChangeOf (tokenPayload p) =
    ⟨tokenPayload p / 1073741824, tokenPayload p / 268435456 % 4 + 1, tokenPayload p / 1048576 % 256,
      tokenPayload p % 1048576⟩ := by
  have hp := payload_lt p
  simp only [keyChangeOf, Nat.reducePow, KeyChange.mk.injEq, and_true]
  omega

theorem checkField_cleared (p : BitVec 72) : (p >>> 16) <<< 16 = p.extractLsb' 16 56 ++ (0 : BitVec 16) := by
  refine BitVec.eq_of_getLsbD_eq fun i hi => ?_
  rw [BitVec.getLsbD_append, BitVec.getLsbD_shiftLeft, BitVec.getLsbD_ushiftRight, BitVec.getLsbD_extractLsb']
  by_cases h : i < 16
  · simp [h]
  · have hback : 16 + (i - 16) = i := by omega
    have h56 : i - 16 < 56 := by omega
    simp [h, hi, hback, h56]

/-- The new key of a KEY_CHANGE: of the plaintext with its check field at 0. -/
theorem derivedKey_eq (key : KeyValue) (p : Block) : derivedKey key p =
    (Config.transform key (p.extractLsb' 16 56 ++ (0 : BitVec 16))).extractLsb' 0 64 := by
  rw [derivedKey, checkField_cleared]
  refine BitVec.eq_of_toNat_eq ?_
  simp only [BitVec.toNat_setWidth, BitVec.extractLsb'_toNat, Nat.shiftRight_zero]

theorem setKey_of_record (d : Decoder) (n : Nat) (k : KeySlot) (b : Nat) (l : LastToken) :
    { d.setKey n k with badCount := b, lastToken := l } = ({ d with badCount := b, lastToken := l } : Decoder).setKey n k := by
  unfold Decoder.setKey
  split <;> rfl

/-- The part behind an accepted KEY_CHANGE, before its entry waits. -/
def keyChanged (s : State) (w : Work) (p : Block) : State :=
  recordToken (endedDecode s w p) (installKey (keyChangeOf (tokenPayload p)) (derivedKey (tokenKey s w).key p)
    (spendSerial (endedDecode s w p) s))

theorem keyChanged_decoder (s : State) (w : Work) (p : Block) : (keyChanged s w p).decoder =
    (acceptedDecoder s w p).setKey (keyChangeOf (tokenPayload p)).target
      (installedKey (keyChangeOf (tokenPayload p)) (derivedKey (tokenKey s w).key p)) := by
  simp only [keyChanged, recordToken, installKey, spendSerial, onDecoder_decoder, setKey_of_record, acceptedDecoder,
    endedDecode, plainOf_cls, plainOf_serial]
  rfl

/-- Settles O38: the permission, then the revision, then the target installed behind the spent serial. -/
theorem keyChangeTokensInstall : Obligations.KeyChangeTokensInstall := by
  intro s w p h
  have hexec (u : State) : exec .keyChange u = .next (arrival (tokenApply 7 3 applyKeyChange) u) := rfl
  have hfields := tokenPayload_fields p
  have hact : applyKeyChange (endedDecode s w p) s =
      let c := keyChangeOf (tokenPayload p)
      if !keyChangePermitted c (tokenKey s w).authority (s.decoder.key c.target) then
        refuseToken .keyTarget c.target (endedDecode s w p) s
      else if c.revision ≤ (s.decoder.key c.target).revision then refuseToken .keyRevision c.target (endedDecode s w p) s
      else awaitWrite ⟨.accepted, 0, tokenHead s w p ++ byte c.target ++ byte c.authority ++ byte c.revision ++ le 3 c.expiry⟩
        (keyChanged s w p) := by
    simp only [applyKeyChange, endedDecode_payload, endedDecode_body]
    rfl
  have hpermitted (c : KeyChange) (k old : KeySlot) : (!keyChangePermitted c k.authority old) = true ↔
      ¬(c.authority ≤ k.authority ∧ (old.present = true → old.authority ≤ k.authority)) := by
    simp only [keyChangePermitted, Bool.not_eq_true', ← Bool.not_eq_true, Bool.and_eq_true, Bool.or_eq_true,
      decide_eq_true_eq, not_iff_not]
    cases old.present <;> simp
  simp only [hpermitted, hfields] at hact
  refine ⟨fun hfit => refused_of_passes h hexec (by rw [hact, if_pos hfit]), fun hfit hrev => refused_of_passes h hexec
    (by rw [hact, if_neg (not_not_intro hfit), if_pos hrev]), fun hfit hrev => ?_⟩
  rw [if_neg (not_not_intro hfit), if_neg (not_le.mpr hrev)] at hact
  have hstep : exec .keyChange s = .next (awaitWrite ⟨.accepted, 0, tokenHead s w p ++ byte (tokenPayload p / 1073741824) ++
      byte (tokenPayload p / 268435456 % 4 + 1) ++ byte (tokenPayload p / 1048576 % 256) ++ le 3 (tokenPayload p % 1048576)⟩
        (keyChanged s w p)) := by
    rw [exec_passes h hexec, hact, advance_of_idle (by simp [awaitWrite, keyChanged, h.idle])]
  simp only [byte_eq, List.append_assoc] at hstep
  refine ⟨_, hstep, ⟨?_, ?_⟩, ?_⟩
  · simp only [List.append_assoc]
    exact awaitWrite_awaits h.work (by simp [keyChanged]) _
  · rw [sameExcept_iff]
    simp [awaitWrite, keyChanged]
  · have hsame (r : Result) : (awaitWrite r (keyChanged s w p)).decoder = (keyChanged s w p).decoder := by simp [awaitWrite]
    rw [hsame, keyChanged_decoder, hfields, installedKey, derivedKey_eq]

/-! ## REMOTE_OPEN and REMOTE_CLOSE (R109) -/

/-- The remote order as a token sets it, with its hand-off. -/
def ordered (on : Bool) (s : State) : State :=
  if s.decoder.remoteOrder = on then s else handReason .remote on (setOrder on s)

theorem ordered_keeps (on : Bool) (h : s.agenda = []) : Accepting s (ordered on s) := by
  unfold ordered
  split_ifs
  · exact ⟨rfl, rfl, rfl, h⟩
  · refine ⟨?_, ?_, ?_, ?_⟩ <;> simp [setOrder, h]

theorem setKey_of_order (d : Decoder) (on : Bool) (n : Nat) (k : KeySlot) :
    ({ d with remoteOrder := on } : Decoder).setKey n k = { d.setKey n k with remoteOrder := on } := by
  unfold Decoder.setKey
  split <;> rfl

theorem ordered_decoder (on : Bool) (s : State) : (ordered on s).decoder = { s.decoder with remoteOrder := on } := by
  unfold ordered
  split_ifs with horder
  · rw [← horder]
  · simp [setOrder]

/-- A change of the order hands the reason; its evaluation stands between `s` and every later state that keeps it. -/
theorem ordered_between (on : Bool) (s : State) (ht : AsBehind t (ordered on s))
    (hm : (ordered on s).attn.due.getLsbD 1 = true → Marks s t 1) :
    HandOff s (withReasons s { s.switch.reasons with remote := on }) t
      (s.decoder.remoteOrder ≠ on ∧ s.switch.reasons.remote ≠ on) := by
  by_cases horder : s.decoder.remoteOrder = on
  · rw [ordered, if_pos horder] at ht
    exact ⟨fun h => absurd horder h.1, fun _ => ⟨ht.switch, ht.tamper⟩⟩
  · rw [ordered, if_neg horder] at ht hm
    refine handReason_between (r := .remote) (u := setOrder on s) ⟨rfl, rfl, rfl, rfl⟩ ht rfl ?_ hm
    rw [put_remote_ne]
    exact and_iff_right horder

/-- A token that sets the order, at payload 0. -/
theorem ordered_accepted (on : Bool) (h : DecodeEnds s w p) (fields : List Byte) :
    let t := acceptToken (endedDecode s w p) fields (ordered on s)
    TokenAccepted s t w p fields [.switch, .tamper] ∧ t.decoder = { acceptedDecoder s w p with remoteOrder := on } ∧
      HandOff s (withReasons s { s.switch.reasons with remote := on }) t
        (s.decoder.remoteOrder ≠ on ∧ s.switch.reasons.remote ≠ on) ∧
      (s.decoder.remoteOrder ≠ on → s.switch.reasons.remote ≠ on →
        t.switch.contactor ≠ s.switch.seenContactor ∨ t.switch.governing ≠ s.switch.seenGoverning →
        t.attn.due.getLsbD 1 = true) := by
  dsimp only
  have hkeeps := ordered_keeps on h.idle
  refine ⟨⟨acceptToken_awaits h hkeeps fields, ?_⟩, ?_, ?_, ?_⟩
  · rw [sameExcept_iff]
    unfold ordered
    split_ifs <;> simp [setOrder]
  · have hsteps : (acceptToken (endedDecode s w p) fields (ordered on s)).decoder =
        (recordToken (endedDecode s w p) (spendSerial (endedDecode s w p) (ordered on s))).decoder := by
      simp [acceptToken, awaitWrite]
    rw [hsteps]
    simp only [recordToken, spendSerial, onDecoder_decoder, endedDecode, ordered_decoder, plainOf_cls, plainOf_serial,
      acceptedDecoder, setKey_of_order]
    rfl
  · refine ordered_between on s ⟨?_, ?_, ?_, ?_, ?_⟩ fun hdue => marks_of_due (by simpa using hdue)
    all_goals simp
  · intro horder hreason hmoved
    have hhand : ordered on s = evaluate (setReason .remote on (setOrder on s)) := by
      rw [ordered, if_neg horder]
      exact if_neg ((put_remote_ne _ _).mpr hreason)
    rw [hhand] at hmoved ⊢
    have hdue : (evaluate (setReason .remote on (setOrder on s))).attn.due.getLsbD 1 = true :=
      evaluate_due (by simpa [setReason, setOrder] using hmoved)
    simpa using hdue

/-- Settles O39: the payload, then the order with its hand-off, which is one argument for both classes. -/
theorem remoteTokensOrder : Obligations.RemoteTokensOrder := by
  intro on s w p h
  have hexec (u : State) : exec (if on then .remoteOpen else .remoteClose) u =
      .next (arrival (tokenApply (if on then 8 else 9) 3 (applyRemote on)) u) := by
    cases on <;> rfl
  refine ⟨fun hn => refused_of_passes h hexec (if_pos (by rwa [endedDecode_payload])), fun hn => ?_⟩
  have hact : applyRemote on (endedDecode s w p) s =
      acceptToken (endedDecode s w p) (flagByte s.decoder.remoteOrder ++ flagByte on) (ordered on s) :=
    if_neg (by rw [endedDecode_payload]; exact not_not_intro hn)
  simp only [flagByte_eq] at hact
  exact ⟨_, exec_accepted h hexec (ordered_keeps on h.idle) hact, ordered_accepted on h.toDecodeEnds _⟩

end Sys2Proof.Proofs
end

section
/-! SUPPORT. The commit of a window (R126, R127), step by step. -/

namespace Sys2Proof.Proofs
open Sys2Proof.Machine Sys2Proof.Safety

variable {s t u : State} {w : Work} {p : Settings}

/-! ## The steps of a commit -/

/-- The window committing under its record, before any block acts on it. -/
def underRecord (p : Settings) (s : State) : State :=
  onSettings (fun _ => p) (onWindow (fun x => { x with state := .committing }) (handed s))

/-- The credit engine has derived under the new record. -/
def creditDerived (p : Settings) (s : State) : State := deriveCredit (underRecord p s)

/-- The tamper monitor has taken the new record, before it derives. -/
def recommitted (p : Settings) (s : State) : State :=
  onTamper (Tamper.recommitted s.settings p) (onBattery (copyCommitted p) (creditDerived p s))

/-- The tamper monitor has derived. -/
def tamperDerived (p : Settings) (s : State) : State := deriveTamper (recommitted p s)

theorem beginCommit_eq (p : Settings) (s : State) : beginCommit p (handed s) = evaluate (tamperDerived p s) := by
  have hp : (deriveCredit (underRecord p s)).settings = p := by simp [underRecord]
  have hold : (onSettings (fun _ => p) (onWindow (fun x => { x with state := .committing }) (handed s))) =
    underRecord p s := rfl
  simp only [beginCommit, handSettings, commitToTamper, hold, hp, tamperDerived, recommitted, creditDerived]
  rfl

/-- The debounce of every input whose mode changes begins again. -/
def debounced (old new : Settings) (x : Tamper) : Tamper :=
  { x with
    caseIn := restartDebounce old new .caseIn x.caseIn
    coverIn := restartDebounce old new .coverIn x.coverIn
    magIn := restartDebounce old new .magIn x.magIn }

/-- The records as the statement has their actions. -/
def actioned (p : Settings) (rs : Vector TamperRecord 10) : Vector TamperRecord 10 :=
  Vector.ofFn fun k : Fin 10 => withAction (p.tamperActions.testBit k) rs[k]

theorem copyActions_eq (p : Settings) (rs : Vector TamperRecord 10) : copyActions p.tamperActions rs = actioned p rs := by
  refine Vector.ext fun k hk => ?_
  simp only [copyActions, actioned, Vector.getElem_mapFinIdx, Vector.getElem_ofFn, withAction, Fin.getElem_fin]

theorem recommitted_eq (old new : Settings) (x : Tamper) :
    Tamper.recommitted old new x = { debounced old new x with records := actioned new x.records } := by
  rw [Tamper.recommitted, copyActions_eq]
  rfl

/-! ## What the statement compares at each step -/

/-- An evaluation does not look at the input states nor at the account. -/
theorem evaluated_debounced (h : Evaluated s t) (c d : Credit) (old new : Settings) :
    Evaluated { s with credit := c, tamper := debounced old new s.tamper }
      { t with credit := d, tamper := debounced old new t.tamper } := by
  refine ⟨h.inputs, h.hold, h.acting, h.held, h.governing, h.contactor, h.pulse, h.deferred, h.still, h.kept, h.fault,
    h.cleanRun, h.timers, h.seen, h.told, ?_⟩
  have ht := h.tamper
  have hreleased : released { s with credit := c, tamper := debounced old new s.tamper }
    { t with credit := d, tamper := debounced old new t.tamper } = released s t := rfl
  rw [hreleased]
  dsimp only at ht ⊢
  by_cases hr : (released s t && s.switch.fault) = true
  · rw [if_pos hr] at ht ⊢
    rw [ht]
    rfl
  · rw [if_neg hr] at ht ⊢
    rw [ht]

theorem handOff_debounced {v : State} {moved : Prop} (h : HandOff s v t moved) (c d : Credit) (old new : Settings) :
    HandOff { s with credit := c, tamper := debounced old new s.tamper }
      { v with credit := c, tamper := debounced old new v.tamper }
      { t with credit := d, tamper := debounced old new t.tamper } moved := by
  refine ⟨fun hm => evaluated_debounced (h.evaluated hm) c d old new, fun hm => ?_⟩
  obtain ⟨hsw, htam⟩ := h.otherwise hm
  exact ⟨hsw, by rw [htam]⟩

/-- `s` with the active record replaced, and with what the derivation of the account has left. -/
def afterCredit (p : Settings) (s : State) : State :=
  { s with
    settings := p
    switch := (creditDerived p s).switch
    credit := (creditDerived p s).credit
    tamper := (creditDerived p s).tamper
    attn := (creditDerived p s).attn }

theorem creditDerived_handed (hp : handing s = true) (p : Settings) :
    CreditHanded { s with settings := p } (afterCredit p s) (creditDerived p s).credit.reason := by
  refine deriveCredit_between (u := underRecord p s) ⟨⟨rfl, rfl, rfl, rfl⟩, rfl, rfl, rfl, hp⟩ ⟨rfl, ?_, ⟨?_, ?_⟩, ?_, rfl⟩ rfl
    fun i hi => marks_of_due hi
  all_goals simp [afterCredit, underRecord, handed]

/-- The state of the statement between the credit engine's evaluation and the monitor's. -/
def beforeRecords (p : Settings) (s : State) : State :=
  { afterCredit p s with tamper := debounced s.settings p (creditDerived p s).tamper }

/-- The state of the statement between the monitor's evaluation and the commit's. -/
def afterRecords (p : Settings) (s : State) : State :=
  { beforeRecords p s with
    switch := (tamperDerived p s).switch
    tamper := (tamperDerived p s).tamper
    attn := (tamperDerived p s).attn }

theorem recommitted_tamper (p : Settings) (s : State) : (recommitted p s).tamper =
    { (beforeRecords p s).tamper with records := actioned p (beforeRecords p s).tamper.records } :=
  recommitted_eq s.settings p (creditDerived p s).tamper

theorem records_changed (p : Settings) (s : State) :
    RecordsChanged (beforeRecords p s) (afterRecords p s) (actioned p (beforeRecords p s).tamper.records) := by
  refine deriveTamper_between (u := recommitted p s) ⟨rfl, ?_, ⟨?_, ?_⟩, recommitted_tamper p s⟩ ⟨rfl, ?_, ⟨?_, ?_⟩, ?_, rfl⟩
    fun h => marks_of_due h
  all_goals simp [beforeRecords, afterRecords, afterCredit, recommitted, creditDerived, underRecord, handed]

/-- The part behind an accepted WINDOW_CLOSE with action 1. -/
def committed (r : Result) (p : Settings) (s : State) : State := awaitWrite r (evaluate (tamperDerived p s))

theorem commit_evaluated (r : Result) (p : Settings) (s : State) : Evaluated (afterRecords p s) (committed r p s) := by
  refine evaluated_between (u := tamperDerived p s) ⟨rfl, ?_, ?_, rfl⟩ ⟨?_, ?_, ⟨?_, ?_⟩, ?_, ?_⟩
    fun h => marks_of_due (by simpa [committed, awaitWrite] using h)
  all_goals simp [committed, awaitWrite, beforeRecords, afterRecords, afterCredit, tamperDerived, recommitted, creditDerived,
    underRecord, handed]

theorem committed_credit (r : Result) (p : Settings) (s : State) : (committed r p s).credit = (creditDerived p s).credit := by
  simp [committed, awaitWrite, tamperDerived, recommitted]

theorem creditDerived_due (p : Settings) (s : State) (r : Result) (h : derivedCredit (underRecord p s) ≠ s.credit) :
    (committed r p s).attn.due.getLsbD 2 = true := by
  have hderived : (creditDerived p s).attn.due.getLsbD 2 = true := deriveCredit_due h
  have hjudged : (tamperDerived p s).attn.due.getLsbD 2 = true := deriveTamper_stands _ 2 hderived
  exact requestWrite_stands _ 2 (evaluate_stands _ 2 hjudged)

theorem committed_told (r : Result) (p : Settings) (s : State) : CreditTold s (committed r p s) := by
  intro hchange
  refine marks_of_due (creditDerived_due p s r fun heq => ?_)
  rw [committed_credit, creditDerived, deriveCredit_credit, heq] at hchange
  simp at hchange

/-- Settles O29: the credit engine's derivation, the monitor's, and the commit's own evaluation, one behind the other. -/
theorem commitActivatesTheStaged : Obligations.CommitActivatesTheStaged := by
  intro s w h hk ha hp
  have hd : dueOf w = .windowCloseCommit := by
    unfold dueOf
    rw [hk]
    simp [ha]
  by_cases hc : s.window.state = .closed
  · have hdecide : decideCommit w (handed s) = completeEntry (windowResult .windowNotOpen w s 0 s.window.cause) (handed s) :=
      if_pos hc
    obtain ⟨hexec, hcomp, hpub⟩ := taken_answered (c := .windowCloseCommit) h hd (fun _ => rfl) (fun _ => rfl) hdecide
      (taken_handed h) (windowResult_length _ _ _ _ _)
    exact ⟨_, hexec, fun _ => ⟨completes_congr hcomp (windowNotOpen_body hc 1 ha), hpub, handed_frame s _⟩,
      fun _ hn => absurd hc hn⟩
  · obtain ⟨r, hr⟩ : ∃ r, r = windowResult .accepted w s (stagedChanges s) .committed := ⟨_, rfl⟩
    have hdecide : decideCommit w (handed s) = committed r (s.window.staged.getD s.settings) s := by
      have hopen : decideCommit w (handed s) = _ := if_neg hc
      rw [hopen, hr]
      exact congrArg (fun u => requestWrite (setStage _ u)) (beginCommit_eq _ s)
    have hidle : (committed r (s.window.staged.getD s.settings) s).agenda = [] := by
      simp [committed, awaitWrite, tamperDerived, recommitted, creditDerived, underRecord, handed]
    have hexec : exec .windowCloseCommit s = .next (committed r (s.window.staged.getD s.settings) s) := by
      rw [← advance_of_idle hidle, ← hdecide]
      exact congrArg _ (taken_decides h hd fun _ => rfl)
    refine ⟨_, hexec, fun hx => absurd hx hc, fun p _ hq => ?_⟩
    have hpq : s.window.staged.getD s.settings = p := by rw [hq]; rfl
    rw [hpq] at hidle ⊢
    have hcredit := committed_credit r p s
    have hhanded := creditDerived_handed (handing_of_powered hp) p
    refine ⟨?_, hidle, ?_, ?_, ?_, ?_, committed_told r p s, ?_, beforeRecords p s, ?_, ?_, afterRecords p s, ?_,
      records_changed p s, commit_evaluated r p s⟩
    · rw [sameExcept_iff]
      simp [committed, awaitWrite, tamperDerived, recommitted, creditDerived, underRecord, handed]
    · simp [committed, awaitWrite, tamperDerived, recommitted, creditDerived, underRecord, handed]
    · simp [committed, awaitWrite, tamperDerived, recommitted, creditDerived, underRecord, handed]
    · have hresult : r = ⟨.accepted, 0, le 1 1 ++ le 1 s.window.state.code ++ le 1 s.window.rank ++
          le 2 s.window.remaining ++ le 3 (changedMask p s.settings) ++ [1]⟩ := by
        rw [hr, windowResult, ha, stagedChanges, hq]
        rfl
      rw [← hresult]
      refine awaitWrite_awaits h.work ?_ r
      simp [tamperDerived, recommitted, creditDerived, underRecord, handed]
    · rw [hcredit, creditDerived, deriveCredit_credit]
      rfl
    · simp [committed, awaitWrite, tamperDerived, recommitted, creditDerived, underRecord, handed, copyCommitted, copyModes]
    · rw [sameExcept_iff]
      simp [beforeRecords, afterCredit, hcredit]
    · rw [hcredit]
      exact handOff_debounced hhanded.toHandOff _ _ s.settings p
    · rw [sameExcept_iff]
      simp [afterRecords]

end Sys2Proof.Proofs
end

section
/-! SUPPORT. The checks of a submitted calendar (R52), each list as its statement writes it, and the fields of the image. -/

namespace Sys2Proof.Proofs
open Sys2Proof.Machine Sys2Proof.Safety

variable {s u : State} {w : Work}

/-! ## Fields of the image (R188, R189) -/

theorem ofLe_readBytes (m : Memory) (a n : Nat) : ofLe (m.readBytes a n) = number m a n := by
  induction n generalizing a with
  | zero => rfl
  | succ n ih =>
    have hshift (i : Nat) : (m.read (a + (i + 1))).toNat * 256 ^ (i + 1) = 256 * ((m.read (a + 1 + i)).toNat * 256 ^ i) := by
      rw [show a + (i + 1) = a + 1 + i by omega, pow_succ]
      ring
    simp only [Memory.readBytes, ofLe, ih, number, List.range_succ_eq_map, List.map_cons, List.map_map, List.sum_cons,
      Function.comp_def, Nat.succ_eq_add_one, hshift, List.sum_map_mul_left]
    simp

theorem imageField_eq (m : Memory) (o n : Nat) : imageField m o n = number m (2048 + o) n := ofLe_readBytes m _ n

theorem image_holds (m : Memory) : ImageHolds m (imageTariff m) := by
  constructor
  case points =>
    intro i p hp
    have hi : i < (imageCounts m).1 := by simpa [imageTariff] using (List.getElem?_eq_some_iff.mp hp).1
    simp only [imageTariff, List.getElem?_map, List.getElem?_range hi, Option.map_some, Option.some.injEq] at hp
    rw [← hp, imageField_eq, imageField_eq, ← Nat.add_assoc, ← Nat.add_assoc]
  case holidays =>
    intro i p hp
    have hi : i < (imageCounts m).2.1 := by simpa [imageTariff] using (List.getElem?_eq_some_iff.mp hp).1
    simp only [imageTariff, List.getElem?_map, List.getElem?_range hi, Option.map_some, Option.some.injEq] at hp
    rw [← hp, imageField_eq, imageField_eq, imageField_eq, ← Nat.add_assoc, ← Nat.add_assoc, ← Nat.add_assoc]
  case windows =>
    intro i p hp
    have hi : i < (imageCounts m).2.2 := by simpa [imageTariff] using (List.getElem?_eq_some_iff.mp hp).1
    simp only [imageTariff, List.getElem?_map, List.getElem?_range hi, Option.map_some, Option.some.injEq] at hp
    rw [← hp, imageField_eq, imageField_eq, ← Nat.add_assoc, ← Nat.add_assoc]
  all_goals simp [imageTariff, imageField_eq, imageCounts, signedOf]

/-! ## Checks in their order -/

theorem firstFailing_eq (l : List (Nat × Bool)) :
    firstFailing l = if l.all Prod.snd then none else some (firstItem l) := by
  induction l with
  | nil => rfl
  | cons x l ih =>
    obtain ⟨item, fine⟩ := x
    cases fine with
    | false => simp [firstFailing, firstItem]
    | true =>
      have hrest : firstFailing ((item, true) :: l) = firstFailing l := rfl
      rw [hrest, ih, List.all_cons, Bool.true_and]
      rfl

theorem fieldChecks_eq (t : Tariff) : fieldChecks t = fieldItems t := by
  simp [fieldChecks, fieldItems, itemsFrom, Bands.toList, List.mapIdx_cons, Bool.decide_and, Bool.decide_or,
    Nat.succ_le_iff, beq_eq_decide, Bool.and_assoc]

theorem dateChecks_eq (t : Tariff) : dateChecks t = dateItems t := by
  simp [dateChecks, dateItems, itemsFrom, monthLength_eq, Bool.decide_and, Bool.and_assoc]

theorem duplicateChecks_eq (t : Tariff) : duplicateChecks t = pointItems t := by
  refine congrArg (List.mapIdx · t.switchPoints) (funext₂ fun i p => congrArg (16 + i, ·) ?_)
  rw [Bool.eq_iff_iff]
  simp only [pointsClash, Bool.not_eq_true', List.any_eq_false, Bool.and_eq_true, beq_iff_eq, bne_iff_ne, ne_eq,
    not_and, not_not, decide_eq_true_eq]
  exact forall₂_congr fun q _ => by rw [eq_comm, BitVec.and_comm]

theorem mapIdx_all {α : Type} (l : List α) (n : Nat) (f : α → Bool) :
    (l.mapIdx fun i x => (n + i, f x)).all Prod.snd = true ↔ ∀ x ∈ l, f x = true := by
  rw [List.all_eq_true]
  refine ⟨itemsFrom_all n f l, fun h c hc => ?_⟩
  obtain ⟨i, hi, rfl⟩ := List.mem_mapIdx.mp hc
  exact h _ (List.getElem_mem hi)

/-- Step 3 of R52. -/
abbrev FieldsFine (c : Tariff) : Prop :=
  -720 ≤ c.offset ∧ c.offset ≤ 840 ∧ (∀ p ∈ c.prices.toList, p ≤ 999999) ∧ c.defaultBand ≤ 5 ∧
    c.standing ≤ 10000000 ∧ (∀ p ∈ c.switchPoints, p.minute ≤ 1439 ∧ p.band ≤ 5) ∧
    (∀ h ∈ c.holidays, h.year = 0 ∨ (2000 ≤ h.year ∧ h.year ≤ 2135)) ∧
    (∀ x ∈ c.windows, x.start < x.stop ∧ x.start ≤ 1439 ∧ x.stop ≤ 1440)

/-- Step 4 of R52. -/
abbrev DatesFine (c : Tariff) : Prop :=
  ∀ h ∈ c.holidays, 1 ≤ h.month ∧ h.month ≤ 12 ∧ 1 ≤ h.day ∧ h.day ≤ daysIn h.year h.month

/-- Step 5 of R52. -/
abbrev PointsApart (c : Tariff) : Prop :=
  c.switchPoints.Pairwise fun q p => ¬(p.minute = q.minute ∧ p.mask &&& q.mask ≠ 0)

theorem fieldItems_all (c : Tariff) : (fieldItems c).all Prod.snd = true ↔ FieldsFine c := by
  simp only [fieldItems, List.all_append, Bool.and_eq_true, mapIdx_all, decide_eq_true_eq, FieldsFine, Bands.toList,
    List.all_cons, List.all_nil, List.forall_mem_cons]
  have hwindow (x : FriendlyWindow) : (x.start ≤ 1439 ∧ x.start < x.stop ∧ x.stop ≤ 1440) ↔
      (x.start < x.stop ∧ x.start ≤ 1439 ∧ x.stop ≤ 1440) := and_left_comm
  simp [hwindow, and_assoc]

theorem dateItems_all (c : Tariff) : (dateItems c).all Prod.snd = true ↔ DatesFine c := by
  simp only [dateItems, mapIdx_all, decide_eq_true_eq, DatesFine]

theorem pointItems_all (c : Tariff) : (pointItems c).all Prod.snd = true ↔ PointsApart c := by
  rw [List.all_eq_true, PointsApart, List.pairwise_iff_getElem]
  constructor
  · intro h i j hi hj hij hclash
    have hfine := h _ (List.mem_mapIdx.mpr ⟨j, hj, rfl⟩)
    simp only [decide_eq_true_eq] at hfine
    exact hclash.2 (hfine _ (List.mem_take_iff_getElem.mpr ⟨i, by omega, rfl⟩) hclash.1)
  · intro h x hx
    obtain ⟨j, hj, rfl⟩ := List.mem_mapIdx.mp hx
    simp only [decide_eq_true_eq]
    intro q hq hminute
    obtain ⟨i, hi, rfl⟩ := List.mem_take_iff_getElem.mp hq
    by_contra hmask
    exact h i j _ hj (by omega) ⟨hminute, hmask⟩

theorem fieldItems_fail (c : Tariff) : (fieldItems c).all Prod.snd = false ↔ ¬FieldsFine c := by
  rw [← fieldItems_all, Bool.not_eq_true]

theorem dateItems_fail (c : Tariff) : (dateItems c).all Prod.snd = false ↔ ¬DatesFine c := by
  rw [← dateItems_all, Bool.not_eq_true]

theorem pointItems_fail (c : Tariff) : (pointItems c).all Prod.snd = false ↔ ¬PointsApart c := by
  rw [← pointItems_all, Bool.not_eq_true]

/-- The checks of R52 one behind the other: the first that fails gives the refusal. -/
theorem submitRefusal_eq (x : Window) (m : Memory) : submitRefusal x m =
    if x.state = .closed ∨ x.rank < 3 then some (.calRank, 0)
    else if 24 < number m 0x081D 1 then some (.calCount, 0x10)
    else if 16 < number m 0x081E 1 then some (.calCount, 0x40)
    else if 8 < number m 0x081F 1 then some (.calCount, 0x60)
    else if (fieldItems (imageTariff m)).all Prod.snd = false then some (.calField, firstItem (fieldItems (imageTariff m)))
    else if (dateItems (imageTariff m)).all Prod.snd = false then some (.calDate, firstItem (dateItems (imageTariff m)))
    else if (pointItems (imageTariff m)).all Prod.snd = false then
      some (.calDuplicate, firstItem (pointItems (imageTariff m)))
    else none := by
  have hcounts : firstFailing (countChecks (imageCounts m)) =
      if 24 < number m 0x081D 1 then some 0x10 else if 16 < number m 0x081E 1 then some 0x40
      else if 8 < number m 0x081F 1 then some 0x60 else none := by
    simp only [imageCounts, imageField_eq, countChecks, firstFailing]
    by_cases h1 : 24 < number m 0x081D 1
    · simp [h1, Nat.not_le.mpr h1]
    by_cases h2 : 16 < number m 0x081E 1
    · simp [h1, h2, Nat.not_lt.mp h1]
    by_cases h3 : 8 < number m 0x081F 1 <;> simp [h1, h2, h3, Nat.not_lt.mp h1, Nat.not_lt.mp h2]
  by_cases hrank : x.state = .closed ∨ x.rank < 3
  · simp [submitRefusal, hrank]
  simp only [submitRefusal, hcounts, fieldChecks_eq, dateChecks_eq, duplicateChecks_eq, firstFailing_eq, Bool.or_eq_true,
    decide_eq_true_eq, hrank, if_false]
  split_ifs <;> simp_all

/-! ## The two commands of a CALENDAR_SUBMIT (R51, R53) -/

theorem calendar_completing (hwork : s.intake.work = some w) (hidle : s.agenda = []) :
    Completing s s w := ⟨⟨w.stage, by rw [← hwork]⟩, rfl, rfl, rfl, rfl, hidle⟩

/-- An apply that names a failing check. -/
theorem submit_refused (h : OwnSlot s w) (hwork : s.intake.work = some w) (hstage : w.stage = .calendar)
    (hidle : s.agenda = []) {code : ResultCode} {item : Nat} (hr : submitRefusal s.window s.mem = some (code, item)) :
    ∃ t, exec .calendarSubmitApply s = .next t ∧ Completes s t w code item [] ∧ Publishes s t ∧
      SameExcept [.mem, .intake, .attn, .agenda] s t := by
  have hc := calendar_completing hwork hidle
  have happly : submitApplies s = completeEntry ⟨code, item, []⟩ s := by
    simp [submitApplies, hwork, hstage, applySubmit, hr]
  have hexec : exec .calendarSubmitApply s = .next (completeEntry ⟨code, item, []⟩ s) := by
    rw [← hc.ends, ← happly, ← arrival_of_idle hidle]
    rfl
  refine ⟨_, hexec, hc.completes h _, hc.publishes _, ?_⟩
  rw [sameExcept_iff]
  simp

/-- The part behind an image that passes. -/
def installed (s : State) : State :=
  awaitWrite ⟨.accepted, 0, le 2 (imageTariff s.mem).id ++ le 4 (imageTariff s.mem).activation⟩
    (onBook (fun x => { x with passive := some (imageTariff s.mem) }) s)

theorem submit_installs (hwork : s.intake.work = some w) (hstage : w.stage = .calendar)
    (hidle : s.agenda = []) (hr : submitRefusal s.window s.mem = none) :
    exec .calendarSubmitApply s = .next (installed s) := by
  have happly : submitApplies s = installed s := by
    simp [submitApplies, hwork, hstage, applySubmit, hr, installed, awaitWrite]
  have hend : (installed s).agenda = [] := by simp [installed, awaitWrite, hidle]
  rw [← advance_of_idle hend, ← happly, ← arrival_of_idle hidle]
  rfl

/-- Settles O30: the refusals in the order of R52, and the installed image behind them. -/
theorem calendarSubmissionsAreJudged : Obligations.CalendarSubmissionsAreJudged := by
  refine ⟨fun s w h hk => ?taken, fun s w h hwork hstage hidle => ?apply, image_holds⟩
  case taken =>
    have hd : dueOf w = .calendarSubmit := by
      unfold dueOf
      rw [hk]
      rfl
    have hsteps : exec .calendarSubmit s = .next (advance (setStage .calendar (handed s))) :=
      congrArg _ (taken_decides h hd (f := fun _ => setStage .calendar) fun _ => rfl)
    rw [hsteps, advance_of_idle (by simp [handed])]
    have hwork := h.work
    refine congrArg Host.Outcome.next ?_
    simp only [setStage, handed, onIntake, onAgenda, hwork, Option.map_some]
  case apply =>
    have hrefused {code : ResultCode} {item : Nat} := submit_refused (code := code) (item := item) h hwork hstage hidle
    have hjudged := submitRefusal_eq s.window s.mem
    dsimp only
    by_cases hrank : s.window.state = .closed ∨ s.window.rank < 3
    · rw [if_pos hrank] at hjudged ⊢
      exact hrefused hjudged
    rw [if_neg hrank] at hjudged ⊢
    by_cases hpoints : 24 < number s.mem 0x081D 1
    · rw [if_pos hpoints] at hjudged ⊢
      exact hrefused hjudged
    rw [if_neg hpoints] at hjudged ⊢
    by_cases hholidays : 16 < number s.mem 0x081E 1
    · rw [if_pos hholidays] at hjudged ⊢
      exact hrefused hjudged
    rw [if_neg hholidays] at hjudged ⊢
    by_cases hwindows : 8 < number s.mem 0x081F 1
    · rw [if_pos hwindows] at hjudged ⊢
      exact hrefused hjudged
    rw [if_neg hwindows] at hjudged ⊢
    by_cases hfields : ¬FieldsFine (imageTariff s.mem)
    · rw [if_pos ((fieldItems_fail _).mpr hfields)] at hjudged
      rw [if_pos hfields]
      exact hrefused hjudged
    rw [if_neg (mt (fieldItems_fail _).mp hfields)] at hjudged
    rw [if_neg hfields]
    by_cases hdates : ¬DatesFine (imageTariff s.mem)
    · rw [if_pos ((dateItems_fail _).mpr hdates)] at hjudged
      rw [if_pos hdates]
      exact hrefused hjudged
    rw [if_neg (mt (dateItems_fail _).mp hdates)] at hjudged
    rw [if_neg hdates]
    by_cases hclash : ¬PointsApart (imageTariff s.mem)
    · rw [if_pos ((pointItems_fail _).mpr hclash)] at hjudged
      rw [if_pos hclash]
      exact hrefused hjudged
    rw [if_neg (mt (pointItems_fail _).mp hclash)] at hjudged
    rw [if_neg hclash]
    refine ⟨_, submit_installs hwork hstage hidle hjudged, ?_, ?_, ?_⟩
    · rw [sameExcept_iff]
      simp [installed, awaitWrite]
    · simp [installed, awaitWrite]
    · exact awaitWrite_awaits hwork (by simp) _

end Sys2Proof.Proofs
end

section
/-! SUPPORT. The completion of a retention write (R180): the store, the entry that waited on it, and the next write. -/

namespace Sys2Proof.Proofs
open Sys2Proof.Machine Sys2Proof.Safety

variable {s t u v : State} {w : Write} {x : Work} {r : Result}

/-! ## The image (R179) -/

theorem withSet_slots (i : Image) (n : SetName) (c : CopySet) : (i.withSet n c).slot0 = i.slot0 ∧
    (i.withSet n c).slot1 = i.slot1 ∧ (i.withSet n c).lastSlot = i.lastSlot ∧ (i.withSet n c).get n = c := by
  cases n <;> exact ⟨rfl, rfl, rfl, rfl⟩

theorem recorded_get (i : Image) (m : WriteNumber) (n : SetName) : (i.recorded m).get n = i.get n := by
  obtain ⟨-, hA, hB, -⟩ := recorded_slots i m
  cases n
  · exact hA
  · exact hB

theorem nextSlot_iff (i : Image) : (i.nextSlot = .slot0 ↔ i.lastSlot ≠ some .slot0) ∧
    (i.nextSlot = .slot1 ↔ i.lastSlot = some .slot0) := by
  unfold Image.nextSlot
  rcases i.lastSlot with _ | _ | _ <;> simp

/-- The image takes a completed write whole, and nothing else. -/
theorem completed_took (a : Store) (w : Write) : ImageTook a.image (a.completed w).image w := by
  obtain ⟨h0, h1, hl, hget⟩ := withSet_slots a.image w.target (CopySet.ofWrite w)
  obtain ⟨hlast, hA, hB, hs0, hs1⟩ := recorded_slots (a.image.withSet w.target (CopySet.ofWrite w)) w.number
  obtain ⟨hn0, hn1⟩ := nextSlot_iff (a.image.withSet w.target (CopySet.ofWrite w))
  rw [hl] at hn0 hn1
  refine ⟨?_, fun hb => ?_, fun ha => ?_, fun h => ?_, fun h => ?_⟩
  · have hcopies : (a.completed w).image.get w.target = CopySet.ofWrite w := (recorded_get _ _ _).trans hget
    rw [hcopies]
    exact ⟨rfl, rfl, rfl, rfl, rfl, rfl, rfl, rfl⟩
  · refine hA.trans ?_
    rw [hb]
    rfl
  · refine hB.trans ?_
    rw [ha]
    rfl
  · have hnext := hn0.mpr h
    rw [h1] at hs0
    rw [hnext] at hlast
    exact ⟨(hs0 hnext).1, (hs0 hnext).2, hlast⟩
  · have hnext := hn1.mpr h
    rw [h0] at hs1
    rw [hnext] at hlast
    exact ⟨(hs1 hnext).1, (hs1 hnext).2, hlast⟩

/-! ## The steps behind the store's -/

theorem serveRequests_of_none (h : s.store.requested = false) : serveRequests s = s := by simp [serveRequests, h]

theorem serveRequests_of_some (h : s.store.requested = true) (hw : s.store.writing = none) :
    serveRequests s = beginWrite s := by simp [serveRequests, h, hw]

theorem dueReady_agenda (h : s.agenda.contains .startReady = false) :
    (dueReady s).agenda = s.agenda ++ (if s.supply.power = .start then [.startReady] else []) := by
  unfold dueReady
  split_ifs <;> simp_all

theorem dueReady_of_powered (h : s.supply.power ≠ .start) : dueReady s = s := by simp [dueReady, h]

theorem dueReady_head (h : ∀ d ∈ s.agenda.head?, d.isRow = true) : ∀ d ∈ (dueReady s).agenda.head?, d.isRow = true := by
  unfold dueReady
  split_ifs
  · simp only [dueLast, onAgenda_agenda]
    cases hs : s.agenda with
    | nil => simp [Due.isRow]
    | cons d l => simpa [hs] using h
  · exact h

/-- The sections of the image are not changed by what begins a write and makes START_READY due. -/
theorem served_sections (s : State) : sectionsOf (dueReady (serveRequests s)) = sectionsOf s := by simp [sectionsOf]

/-- No entry waits on the write in progress. -/
def NoneWaits (s : State) : Prop := ∀ x, s.intake.work = some x → ∀ r, x.stage ≠ .waiting .current r

theorem tellWork_of_none (h : NoneWaits s) : tellWork s = s := by
  unfold tellWork
  split
  · rfl
  · next x hx =>
    split
    · next r hr => exact absurd hr (h x hx r)
    · rfl

/-- The part as the entry that waited completes: a window commit has ended its window. -/
def toldWork (x : Work) (s : State) : State := if x.kind = 6 then finishCommit s else s

theorem tellWork_of_waiting (hx : s.intake.work = some x) (hr : x.stage = .waiting .current r) :
    tellWork s = completeEntry r (toldWork x s) := by
  simp only [tellWork, hx, hr]
  rfl

theorem toldWork_completing (hidle : s.agenda = []) (hx : s.intake.work = some x) (w : Write) :
    Completing s (toldWork x (storeWrite w s)) x := by
  have hsame : s.intake = { s.intake with work := some { x with stage := x.stage } } := by rw [← hx]
  unfold toldWork
  split_ifs
  · exact ⟨⟨x.stage, by simpa [finishCommit] using hsame⟩, by simp [finishCommit], by simp [finishCommit],
      by simp [finishCommit], by simp [finishCommit], by simpa [finishCommit] using hidle⟩
  · exact ⟨⟨x.stage, by simpa using hsame⟩, rfl, rfl, rfl, rfl, hidle⟩

theorem waits_or (s : State) : NoneWaits s ∨ ∃ x r, s.intake.work = some x ∧ x.stage = .waiting .current r := by
  by_cases h : NoneWaits s
  · exact .inl h
  · simp only [NoneWaits, not_forall, not_not] at h
    obtain ⟨x, hx, r, hr⟩ := h
    exact .inr ⟨x, r, hx, hr⟩

/-- The part between the store's step and the next write. -/
def toldOf (w : Write) (s : State) : State := tellWork (storeWrite w s)

theorem toldOf_head (hidle : s.agenda = []) (w : Write) : ∀ d ∈ (toldOf w s).agenda.head?, d.isRow = true := by
  rcases waits_or s with h | ⟨x, r, hx, hr⟩
  · rw [toldOf, tellWork_of_none (s := storeWrite w s) (by simpa [NoneWaits] using h)]
    simp [hidle]
  · rw [toldOf, tellWork_of_waiting (by simpa using hx) hr]
    exact (toldWork_completing hidle hx w).head_isRow r

theorem completeWrite_eq (hw : s.store.writing = some w) :
    completeWrite s = dueReady (serveRequests (toldOf w s)) := by
  simp only [completeWrite, hw]
  rfl

theorem exec_retentionWriteComplete (hidle : s.agenda = []) (hw : s.store.writing = some w) :
    exec .retentionWriteComplete s = .next (dueReady (serveRequests (toldOf w s))) := by
  have hhead : ∀ d ∈ (dueReady (serveRequests (toldOf w s))).agenda.head?, d.isRow = true :=
    dueReady_head (by simpa using toldOf_head hidle w)
  rw [← advance_of_row hhead, ← completeWrite_eq hw, ← arrival_of_idle hidle]
  rfl

/-! ## What the statement says of the store and of the entry -/

theorem toldOf_store (w : Write) (s : State) : (toldOf w s).store = s.store.completed w := by simp [toldOf]

theorem toldOf_supply (w : Write) (s : State) :
    (toldOf w s).supply = { s.supply with resetWrite := s.supply.resetWrite.ended } := by
  simp [toldOf]
  rfl

theorem completed_requested (a : Store) (w : Write) : (a.completed w).requested = a.requested ∧
    (a.completed w).writing = none ∧ (a.completed w).lastNumber = w.number := ⟨rfl, rfl, rfl⟩

theorem completed_target (a : Store) (w : Write) : (a.completed w).lastSet.target =
    (match w.target with | .a => .b | .b => .a) := by
  unfold Store.completed
  cases w.target <;> rfl

theorem served_of_none (h : s.store.requested = false) (w : Write) :
    serveRequests (toldOf w s) = toldOf w s := serveRequests_of_none (by rw [toldOf_store]; exact h)

theorem served_of_some (h : s.store.requested = true) (w : Write) :
    serveRequests (toldOf w s) = beginWrite (toldOf w s) :=
  serveRequests_of_some (by rw [toldOf_store]; exact h) (by rw [toldOf_store]; rfl)

/-- The completed entry's slot, the taken entry and the publication stand through the write that begins behind them. -/
theorem completes_between {code : ResultCode} {item : Nat} {b : List Byte} (h : Completes s v x code item b)
    (hm : t.mem = v.mem) (ha : t.attn = v.attn) (hi : t.intake = v.intake) (hg : t.agenda = v.agenda) :
    Completes s t x code item b := by
  obtain ⟨⟨hbits, hmask, hbusy, hnow, hlater⟩, ⟨hhead, hnone⟩, ⟨howner, hcode, hitem⟩, hbody, htag, hkind, hothers⟩ := h
  rw [← ha] at hbits hmask hbusy hnow hlater
  rw [← hm] at hlater howner hcode hitem hbody htag hkind hothers
  rw [← hm, ← hi, ← hg] at hhead
  rw [← hi, ← hg] at hnone
  exact ⟨⟨hbits, hmask, hbusy, hnow, hlater⟩, ⟨hhead, hnone⟩, ⟨howner, hcode, hitem⟩, hbody, htag, hkind, hothers⟩

/-- The entry taken at a completion has asked for no write. -/
theorem completes_work {code : ResultCode} {item : Nat} {b : List Byte} (h : Completes s v x code item b) :
    (beginWrite v).intake = v.intake := by
  have hbegun : v.intake.work.map (fun y => { y with stage := y.stage.writeBegun }) = v.intake.work := by
    cases hl : s.intake.list with
    | nil => rw [(h.none (.inl hl)).1]; rfl
    | cons n rest =>
      cases hr : s.intake.ready with
      | false => rw [(h.none (.inr hr)).1]; rfl
      | true => rw [(h.head n rest hl hr).1]; rfl
  have hwhole : (beginWrite v).intake =
      { v.intake with work := v.intake.work.map fun y => { y with stage := y.stage.writeBegun } } := rfl
  rw [hwhole, hbegun]

theorem completes_served {code : ResultCode} {item : Nat} {b : List Byte} (h : Completes s v x code item b) :
    (serveRequests v).intake = v.intake := by
  unfold serveRequests
  split_ifs
  · exact completes_work h
  · rfl

/-- A window commit ends its window with one evaluation (R126, R122). -/
theorem committed_evaluated (hidle : s.agenda = []) (hx : s.intake.work = some x) (hk : x.kind = 6)
    (w : Write) (r : Result) (ht : AsBehind t (completeEntry r (toldWork x (storeWrite w s))))
    (ha : t.attn = (completeEntry r (toldWork x (storeWrite w s))).attn) :
    Evaluated { s with switch := { s.switch with windowHold := 0 } } t := by
  have hc := toldWork_completing hidle hx w
  have htold : toldWork x (storeWrite w s) = evaluate (unheld .committed (storeWrite w s)) := if_pos hk
  rw [htold] at ht ha hc
  obtain ⟨tsw, tset, ⟨tup, tlow⟩, ttime, ttam⟩ := ht
  refine evaluated_between (u := unheld .committed (storeWrite w s)) ⟨rfl, rfl, rfl, rfl⟩
    ⟨?_, ?_, ⟨?_, ?_⟩, ?_, ?_⟩ fun hdue => ?_
  · simpa using tsw
  · simpa using tset
  · simpa using tup
  · simpa using tlow
  · simpa using ttime
  · simpa using ttam
  · have hmarks := hc.marks r hdue
    simp only [Marks, ← ha] at hmarks
    exact hmarks

/-- Settles O42: the store's step, then the entry that waited, then the further write, then START_READY. -/
theorem retentionWritesComplete : Obligations.RetentionWritesComplete := by
  intro s w hidle hw
  refine ⟨_, exec_retentionWriteComplete hidle hw, ?_, ?_, ?_, ?_, ?_, ?_, ?_, ?_, ?_⟩
  case refine_1 =>
    have himage : (dueReady (serveRequests (toldOf w s))).store.image = (s.store.completed w).image := by
      simp [toldOf_store]
    rw [himage]
    exact completed_took s.store w
  case refine_2 => simp [toldOf_store, completed_requested]
  case refine_3 | refine_4 =>
    intro htarget
    simp [toldOf_store, Store.completed, htarget]
  case refine_5 =>
    intro hreset
    have hended : (toldOf w s).supply.resetWrite = .done := by simp [toldOf_supply, hreset, ResetWrite.ended]
    cases hreq : s.store.requested
    · simp [served_of_none hreq, hended]
    · simp [served_of_some hreq, beginWrite, hended, ResetWrite.begun]
  case refine_6 =>
    intro hreq
    rw [served_of_none hreq]
    simp only [dueReady_keeps, toldOf_store, toldOf_supply]
    have hended (h : s.supply.resetWrite ≠ .waiting .current) : s.supply.resetWrite.ended = s.supply.resetWrite := by
      unfold ResetWrite.ended
      split
      · next heq => exact absurd heq h
      · rfl
    exact ⟨rfl, trivial, hended⟩
  case refine_7 =>
    intro hreq
    have hsections := served_sections (toldOf w s)
    rw [served_of_some hreq] at hsections ⊢
    rw [hsections]
    simp only [dueReady_keeps]
    refine ⟨?_, fun hreset => ?_⟩
    · have hbegun : (beginWrite (toldOf w s)).store = { (toldOf w s).store with
          writing := some ⟨(toldOf w s).store.lastNumber + 1, (toldOf w s).store.lastSet.target, sectionsOf (toldOf w s)⟩
          requested := false
          periodic := 0 } := rfl
      rw [hbegun, toldOf_store, completed_target]
      rfl
    · simp [beginWrite, toldOf_supply, hreset, ResetWrite.ended, ResetWrite.begun]
  case refine_8 =>
    intro hnone
    have htold : toldOf w s = storeWrite w s := tellWork_of_none (s := storeWrite w s) (by simpa [NoneWaits] using hnone)
    have hagenda : (serveRequests (storeWrite w s)).agenda = [] := by simpa using hidle
    rw [htold]
    refine ⟨?_, ?_, ?_, ?_, ?_⟩
    · rw [sameExcept_iff]
      simp
    · rw [dueReady_agenda (by rw [hagenda]; rfl), hagenda]
      simp [storeWrite]
    · simp
    · simp
    · simp only [dueReady_keeps]
      cases hreq : s.store.requested
      · simp [serveRequests_of_none (s := storeWrite w s) (by exact hreq)]
      · rw [serveRequests_of_some (s := storeWrite w s) (by exact hreq) rfl]
        rfl
  case refine_9 =>
    intro x r hown hx hr hpower
    have hc := toldWork_completing hidle hx w
    have htold : toldOf w s = completeEntry r (toldWork x (storeWrite w s)) :=
      tellWork_of_waiting (by simpa using hx) hr
    have hcomp := hc.completes hown r
    have hserved := completes_served hcomp
    rw [← htold] at hcomp hserved
    rw [dueReady_of_powered (by simpa [toldOf_supply] using hpower)]
    refine ⟨completes_between hcomp (by simp) (by simp) hserved (by simp), fun hreq => ?_, fun hk => ?_, fun hk => ?_⟩
    · rw [served_of_none hreq, htold]
      exact hc.publishes r
    · have hsame : toldWork x (storeWrite w s) = storeWrite w s := if_neg hk
      rw [sameExcept_iff]
      simp [htold, hsame]
    · have hends : toldWork x (storeWrite w s) = finishCommit (storeWrite w s) := if_pos hk
      refine ⟨?_, ?_, committed_evaluated hidle hx hk w r ⟨?_, ?_, ⟨?_, ?_⟩, ?_, ?_⟩ ?_⟩
      · rw [sameExcept_iff]
        simp [htold, hends, finishCommit]
      · simp [htold, hends, finishCommit, endWindow, handWindowHold, endedWindow]
      all_goals simp [htold]

end Sys2Proof.Proofs
end

section
/-! SUPPORT. The counters of an interval's close (R31), the conditions they count, and the steps that they make due. -/

namespace Sys2Proof.Proofs
open Sys2Proof.Machine Sys2Proof.Safety

variable {s t u : State}

/-! ## Counters (R34, R38, R113, R120, R145, R149, R151, R152, R181) -/

theorem any_iff (p : Phases Bool) : p.any = true ↔ p.l1 = true ∨ p.l2 = true ∨ p.l3 = true := by
  simp [Phases.any, or_assoc]

theorem stuckTimer_counts (s : State) : runDue .stuckTimer s =
    if s.switch.contactor = .stuck ∧ s.switch.attempt = .idle ∧ 0 < s.switch.stuckTimer then
      { s with
        switch := { s.switch with stuckTimer := s.switch.stuckTimer - 1 }
        agenda := if s.switch.stuckTimer = 1 then .stuckRetry :: s.agenda else s.agenda }
    else s := by
  simp only [runDue, stepStuckTimer, Bool.and_eq_true, decide_eq_true_eq, and_assoc]
  split_ifs <;> rfl

theorem retryTimer_counts (s : State) : runDue .retryTimer s =
    if s.switch.reasons.load = true ∧ s.switch.kept.loadLatch = false ∧ 0 < s.switch.retryTimer then
      { s with
        switch := { s.switch with retryTimer := s.switch.retryTimer - 1 }
        agenda := if s.switch.retryTimer = 1 then .loadRetryExpiry :: s.agenda else s.agenda }
    else s := by
  simp only [runDue, stepRetryTimer, Bool.and_eq_true, Bool.not_eq_true', decide_eq_true_eq, and_assoc]
  split_ifs <;> rfl

/-- The measured power exceeds a limit that is counted (R149). -/
abbrev Exceeds (s : State) : Prop :=
  s.switch.contactor = .closed ∧ 0 < s.settings.loadLimit ∧ s.switch.reasons.load = false ∧
    s.settings.loadLimit < s.meter.measured

theorem overCount_counts (s : State) : runDue .overCount s =
    { s with
      switch := { s.switch with overCount := if Exceeds s then s.switch.overCount + 1 else 0 }
      agenda := if Exceeds s ∧ s.settings.loadTripDelay ≤ (if Exceeds s then s.switch.overCount + 1 else 0)
        then .loadTrip :: s.agenda else s.agenda } := by
  have hexceeds : (limiterCounts s && decide (s.settings.loadLimit < s.meter.measured)) = true ↔ Exceeds s := by
    simp [limiterCounts, Exceeds, and_assoc]
  simp only [runDue, stepOverCount, hexceeds]
  by_cases h : Exceeds s
  · simp only [if_pos h]
    by_cases hd : s.settings.loadTripDelay ≤ s.switch.overCount + 1
    · rw [if_pos (by simp [hd]), if_pos ⟨h, hd⟩]
      rfl
    · rw [if_neg (by simp [hd]), if_neg (mt And.right hd)]
      rfl
  · simp only [if_neg h]
    rw [if_neg (by simp), if_neg (mt And.left h)]
    rfl

theorem cleanRun_counts (s : State) : runDue .cleanRun s =
    if s.switch.contactor = .closed then
      { s with
        switch := { s.switch with cleanRun := s.switch.cleanRun + 1 }
        agenda := if 1800 ≤ s.switch.cleanRun + 1 then .cleanRunComplete :: s.agenda else s.agenda }
    else { s with switch := { s.switch with cleanRun := 0 } } := by
  simp only [runDue, stepCleanRun]
  split_ifs <;> rfl

theorem condition_counts (c : Condition) (s : State) : runDue (.condition c) s =
    (let q := qualification c s.meter
     let n := if conditionHolds c s.meter = q.reported then 0 else q.run + 1
     { s with
        meter := setQualification c ⟨q.reported, n⟩ s.meter
        agenda := if 10 ≤ n then .conditionQualified c :: s.agenda else s.agenda }) := by
  simp only [runDue, countCondition]
  split_ifs <;> rfl

/-- There is evidence beyond the contactor (R38). -/
abbrev Evidence (s : State) : Prop :=
  s.meter.loadSide.l1 = true ∨ s.meter.loadSide.l2 = true ∨ s.meter.loadSide.l3 = true ∨
    100 < s.meter.current.l1 ∨ 100 < s.meter.current.l2 ∨ 100 < s.meter.current.l3

theorem weld_counts (s : State) : runDue .weld s =
    { s with
      meter := { s.meter with weld := if s.switch.contactor = .opened ∧ Evidence s then s.meter.weld + 1 else 0 }
      agenda := if 3 ≤ (if s.switch.contactor = .opened ∧ Evidence s then s.meter.weld + 1 else 0)
        then .weldObservation :: s.agenda else s.agenda } := by
  have hevidence : weldEvidence s.meter = true ↔ Evidence s := by
    simp [weldEvidence, any_iff, Phases.map, or_assoc]
  simp only [runDue, countWeld, Bool.and_eq_true, decide_eq_true_eq, hevidence]
  split_ifs <;> rfl

theorem lockoutCount_counts (s : State) : runDue .lockoutCount s =
    { s with
      decoder := { s.decoder with lockout := s.decoder.lockout - 1 }
      agenda := if s.decoder.lockout = 1 then .keypadLockoutEnd :: s.agenda else s.agenda } := by
  simp only [runDue, countLockout]
  by_cases h0 : s.decoder.lockout = 0
  · have h1 : ¬s.decoder.lockout = 1 := by omega
    rw [if_pos h0, if_neg h1]
    have hsame : s.decoder.lockout - 1 = s.decoder.lockout := by omega
    rw [hsame]
  · rw [if_neg h0]
    split_ifs <;> rfl

theorem windowCount_counts (s : State) : runDue .windowCount s =
    if s.window.state = .closed then s
    else
      { s with
        window := { s.window with remaining := s.window.remaining - 1 }
        agenda := if s.window.remaining = 1 then .windowExpiry :: s.agenda else s.agenda } := by
  simp only [runDue, countWindow, Bool.or_eq_true, decide_eq_true_eq]
  by_cases hc : s.window.state = .closed
  · rw [if_pos (.inl hc), if_pos hc]
  by_cases h0 : s.window.remaining = 0
  · have h1 : ¬s.window.remaining = 1 := by omega
    have hsame : s.window.remaining - 1 = s.window.remaining := by omega
    rw [if_pos (.inr h0), if_neg hc, if_neg h1, hsame]
  · rw [if_neg (by simp [hc, h0]), if_neg hc]
    split_ifs <;> rfl

theorem periodicCount_counts (s : State) : runDue .periodicCount s =
    { s with
      store := { s.store with periodic := s.store.periodic + 1 }
      agenda := if s.store.periodic + 1 = 3600 then .periodicWriteDue :: s.agenda else s.agenda } := by
  simp only [runDue, countPeriodic]
  split_ifs <;> rfl

/-! ## STUCK turns to CLOSED of itself (R146) -/

theorem dropFault_eq (s : State) : dropFault s = { s with
    switch := { s.switch with fault := false }
    tamper := if s.switch.fault then
      { s.tamper with records := s.tamper.records.set kindSwitch (goneRecord s kindSwitch) } else s.tamper } := by
  unfold dropFault
  by_cases hf : s.switch.fault = true
  · rw [if_pos hf, if_pos hf, reportGone_eq]
    rfl
  · have hsame : s.switch = { s.switch with fault := false } := by
      rw [Bool.not_eq_true] at hf
      rw [← hf]
    rw [if_neg hf, if_neg hf, ← hsame]

theorem stuckTest_tests (s : State) : runDue .stuckTest s =
    if s.switch.contactor = .stuck ∧ s.switch.acting = Reasons.empty ∧ s.switch.attempt = .idle ∧ closeCondition s = true then
      markSwitch { s with
        switch := { s.switch with
          contactor := .closed
          cleanRun := 0
          fault := false
          kept := { s.switch.kept with commandedClosed := true, openedBy := Reasons.empty, manualClose := false } }
        tamper := if s.switch.fault then
          { s.tamper with records := s.tamper.records.set kindSwitch (goneRecord s kindSwitch) } else s.tamper }
    else s := by
  simp only [runDue, testStuck, stuckReleases, stuckToClosed, dropFault_eq, Bool.and_eq_true, decide_eq_true_eq, isEmpty_iff,
    and_assoc]
  rfl

/-! ## What a close latches, and the conditions (R21, R35 to R37) -/

theorem publish_publishes (s : State) : Publishes s (runDue .publish s) :=
  requestPublication_publishes (u := beginInterval s) rfl rfl

theorem publish_meter (s : State) : (runDue .publish s).meter =
    { s.meter with law := s.settings.summationLaw, magnetPower := s.settings.magnetPower } := by
  simp [runDue, beginInterval]

theorem reverse_iff (m : Meter) : conditionHolds .reverse m = true ↔ (m.law = 0 ∨ m.law = 1) ∧
    (m.energies.l1 ≤ -13889 ∨ m.energies.l2 ≤ -13889 ∨ m.energies.l3 ≤ -13889) ∧
    (13889 ≤ m.energies.l1 ∨ 13889 ≤ m.energies.l2 ∨ 13889 ≤ m.energies.l3) := by
  simp [conditionHolds, reverseHolds, any_iff, Phases.map, and_assoc]

theorem voltage_iff (m : Meter) : conditionHolds .voltage m = true ↔ (m.voltage.l1 < 400 ∧ 500 < m.current.l1) ∨
    (m.voltage.l2 < 400 ∧ 500 < m.current.l2) ∨ (m.voltage.l3 < 400 ∧ 500 < m.current.l3) := by
  simp [conditionHolds, voltageHolds, any_iff, Phases.zipWith]

theorem bypass_iff (m : Meter) : conditionHolds .bypass m = true ↔
    (if 4000 < m.neutral then m.neutral else 4000) <
      8 * (if m.residual ≤ m.neutral then m.neutral - m.residual else m.residual - m.neutral) := by
  have hmax : max 4000 m.neutral = if 4000 < m.neutral then m.neutral else 4000 := by
    split_ifs <;> omega
  have hdiff : ((m.neutral : Int) - m.residual).natAbs =
      if m.residual ≤ m.neutral then m.neutral - m.residual else m.residual - m.neutral := by
    split_ifs <;> omega
  simp only [conditionHolds, bypassHolds, decide_eq_true_eq, hmax, hdiff]

/-- Settles O44: each counter as its lemma has it, and the three conditions. -/
theorem intervalCountersCount : Obligations.IntervalCountersCount := by
  refine ⟨fun s r hr => ?_, fun m => ⟨reverse_iff m, voltage_iff m, bypass_iff m⟩⟩
  subst hr
  refine ⟨stuckTimer_counts s, retryTimer_counts s, overCount_counts s, cleanRun_counts s, fun c => condition_counts c s,
    weld_counts s, lockoutCount_counts s, windowCount_counts s, periodicCount_counts s, stuckTest_tests s, ?_,
    publish_publishes s, fun hb => ?_, publish_meter s⟩
  · rw [sameExcept_iff]
    simp [runDue, beginInterval]
  · obtain ⟨hm, ha⟩ := (requestPublication_tells (beginInterval s)).2 hb
    exact ⟨hm, by rw [runDue, ha]⟩

end Sys2Proof.Proofs
end

section
/-! SUPPORT. The steps that an interval's close makes due: conditions, the load limiter, and the ends of countdowns. -/

namespace Sys2Proof.Proofs
open Sys2Proof.Machine Sys2Proof.Safety

variable {s t u v : State} {rest : List Due}

/-! ## Due steps in their commands -/

/-- The state with the front step taken off the agenda. -/
def behindStep (rest : List Due) (s : State) : State := onAgenda (fun _ => rest) s

theorem behindStep_eq (rest : List Due) (s : State) : behindStep rest s = { s with agenda := rest } := rfl

/-- A present report tells what it tells, also where the states compared differ in what it does not read. -/
theorem entered_between {k : Fin 10} (h : ToReport s u) (hstore : s.store = u.store ∧ s.supply = u.supply)
    (hi : s.intake = u.intake) (hx : sectionsOf s = sectionsOf u) (hk : u.tamper.records[k].state ≠ .active) :
    Entered s (reportPresent k u) k := by
  obtain ⟨hasked, htold⟩ := reportPresent_asked hk
  refine ⟨?_, ?_, reportPresent_due hk, reportPresent_between h hk (.refl _) marks_of_due⟩
  · rw [hx, h.presentRecords k]
    exact asked_between hasked hstore ⟨rfl, rfl⟩
  · rw [hi]
    exact told_between htold hstore rfl

/-! ## Conditions (R34) -/

/-- Settles O45: a gone report changes one record, a present report enters its record or finds it ACTIVE. -/
theorem conditionsQualify : Obligations.ConditionsQualify := by
  intro c s rest hrest
  have hstep : exec (.conditionQualified c) s = .next (advance (qualifyCondition c (behindStep rest s))) :=
    congrArg _ (atOnce_of_next hrest)
  dsimp only
  refine ⟨fun hq => ?_, fun hq hk => ?_, fun hq hk => ?_⟩
  · have hgone : qualifyCondition c (behindStep rest s) = reportGone (conditionKind c)
        (onMeter (setQualification c ⟨!(qualification c s.meter).reported, 0⟩) (behindStep rest s)) := by
      simp [qualifyCondition, report, behindStep, hq]
    rw [hstep, hgone, reportGone_eq]
    rfl
  all_goals
    have hpresent : qualifyCondition c (behindStep rest s) = reportPresent (conditionKind c)
        (onMeter (setQualification c ⟨!(qualification c s.meter).reported, 0⟩) (behindStep rest s)) := by
      simp [qualifyCondition, report, behindStep, hq]
  · rw [hstep, hpresent, reportPresent_of_active (by simpa [behindStep] using hk)]
    rfl
  · refine ⟨_, hstep, ?_, ?_, ?_, ?_⟩
    · rw [hpresent]
      simp [behindStep]
    · rw [hpresent]
      simp [behindStep]
    · rw [hpresent]
      exact entered_between ⟨⟨rfl, rfl, rfl, rfl⟩, rfl, rfl, rfl, rfl⟩ ⟨rfl, rfl⟩ rfl rfl (by simpa [behindStep] using hk)
    · rw [sameExcept_iff, hpresent]
      simp [behindStep]

/-! ## The load limiter (R150 to R152) -/

theorem put_load_ne (a : Reasons) (on : Bool) : a.put .load on ≠ a ↔ a.load ≠ on := by
  cases a
  simp [Reasons.put, eq_comm]

/-- Settles O46: each step is its counters and one hand-off or evaluation behind them. -/
theorem loadLimiterTripsAndRecovers : Obligations.LoadLimiterTripsAndRecovers := by
  refine ⟨fun s rest hrest => ?trip, fun s rest hrest => ?expiry, fun s rest hrest => ?clean⟩
  case trip =>
    refine ⟨tripLimiter (behindStep rest s), congrArg _ (atOnce_of_next hrest), by simp [behindStep], ?_, ?_⟩
    · rw [sameExcept_iff]
      simp [behindStep]
    · refine handReason_between (r := .load) (u := countTrip s.settings.loadRetryDelay (behindStep rest s))
        ⟨?_, rfl, rfl, rfl⟩ (.refl _) ?_ ?_ marks_of_due
      · simp [countTrip, setReason, behindStep, Reasons.put, capped]
      · simp [countTrip, behindStep, capped]
      · rw [put_load_ne]
        simp [countTrip, behindStep]
  case expiry =>
    refine ⟨retryExpires (behindStep rest s), congrArg _ (atOnce_of_next hrest), by simp [behindStep], ?_, fun hn => ?_,
      fun hn => ?_⟩
    · rw [sameExcept_iff]
      simp [behindStep]
    · have hclears : retryExpires (behindStep rest s) = handReason .load false (behindStep rest s) := if_pos hn
      rw [hclears]
      refine handReason_between (r := .load) (u := behindStep rest s) ⟨rfl, rfl, rfl, rfl⟩ (.refl _) rfl ?_ marks_of_due
      rw [put_load_ne]
      simp [behindStep]
    · have hlatches : retryExpires (behindStep rest s) = evaluate (setLatch (behindStep rest s)) := if_neg (not_lt.mpr hn)
      rw [hlatches]
      exact evaluated_between (u := setLatch (behindStep rest s)) ⟨rfl, rfl, rfl, rfl⟩ (.refl _) marks_of_due
  case clean => exact congrArg _ (atOnce_of_next hrest)

/-! ## The ends of countdowns -/

/-- Settles O50: an expiry is the end of an OPEN window, a periodic write one request. -/
theorem countdownsEnd : Obligations.CountdownsEnd := by
  refine ⟨fun s rest hrest => ⟨fun hn => ?_, fun ho => ?_⟩, fun s rest hrest => ?_, fun s hidle hw => ?_⟩
  · have hnothing : windowExpires (behindStep rest s) = behindStep rest s := if_neg hn
    exact congrArg _ ((atOnce_of_next hrest).trans (congrArg _ hnothing))
  · have hends : windowExpires (behindStep rest s) = evaluate (unheld .expired (behindStep rest s)) := if_pos ho
    refine ⟨windowExpires (behindStep rest s), congrArg _ (atOnce_of_next hrest), ?_, ?_, ?_, ?_⟩ <;> rw [hends]
    · simp [unheld, behindStep]
    · rw [sameExcept_iff]
      simp [unheld, behindStep]
    · simp [unheld, behindStep, endedWindow]
    · exact evaluated_between (u := unheld .expired (behindStep rest s)) ⟨rfl, rfl, rfl, rfl⟩ (.refl _) marks_of_due
  · refine ⟨requestWrite (behindStep rest s), congrArg _ (atOnce_of_next hrest), by simp [behindStep], ?_, ?_, ?_⟩
    · exact asked_between (requestWrite_asked (behindStep rest s)) ⟨rfl, rfl⟩ ⟨rfl, rfl⟩
    · exact told_between (requestWrite_requesters (behindStep rest s)) ⟨rfl, rfl⟩ rfl
    · rw [sameExcept_iff]
      simp [behindStep]
  · have hnone : completeWrite s = s := by simp [completeWrite, hw]
    exact congrArg _ ((arrival_of_idle hidle completeWrite).trans (by rw [hnone, advance_of_idle hidle]))

end Sys2Proof.Proofs
end

section
/-! SUPPORT. How attempts end (R139 to R142, R145) and how a weld is observed (R144). -/

namespace Sys2Proof.Proofs
open Sys2Proof.Machine Sys2Proof.Safety

variable {s t u v : State} {w : Winding}

/-! ## The switch fault (R146) -/

theorem presentRecord_active {k : Fin 10} (h : s.tamper.records[k].state = .active) :
    presentRecord s k = s.tamper.records[k] := by
  unfold presentRecord presentAt
  rw [h]

theorem presentRecords_active {k : Fin 10} (h : s.tamper.records[k].state = .active) :
    presentRecords s k = s.tamper.records := by
  rw [presentRecords, presentRecord_active h]
  simp

/-- A present report that leaves the TAMPER reason as it is changes its record alone. -/
theorem reportPresent_quiet {k : Fin 10} (h : tamperReasonOf (presentRecords s k) = s.tamper.reason) :
    (reportPresent k s).switch = s.switch ∧ (reportPresent k s).tamper = { s.tamper with records := presentRecords s k } := by
  by_cases hk : s.tamper.records[k].state = .active
  · rw [reportPresent_of_active hk, presentRecords_active hk]
    exact ⟨rfl, rfl⟩
  · obtain ⟨-, hquiet⟩ := reportPresent_between (.refl s) hk (.refl _) marks_of_due
    obtain ⟨hsw, htam⟩ := hquiet fun hmoved => hmoved.2.1 h
    refine ⟨hsw, htam.trans ?_⟩
    simp [withRecords, h]

/-- Behind a present report the TAMPER reason is that of the records with it in place. -/
theorem reportPresent_reason {k : Fin 10} (hk : s.tamper.records[k].state ≠ .active) :
    (reportPresent k s).tamper.reason = tamperReasonOf (presentRecords s k) := by
  rw [reportPresent_of_entry hk, deriveTamper_reason]
  simp [withPresent]

theorem raiseFault_of_present (h : s.switch.fault = true) : raiseFault s = s := if_pos h

theorem raiseFault_of_absent (h : s.switch.fault = false) : raiseFault s = reportPresent kindSwitch (setFault true s) :=
  if_neg (by simp [h])

/-- An evaluation behind a told change: the change told before still counts as told. -/
theorem evaluated_of_marked (h : AsBefore v u) : Evaluated v (evaluate (markSwitch u)) := by
  obtain ⟨hsw, hset, hpow, htam⟩ := h
  have he := evaluate_evaluated (markSwitch u)
  have hmarked := markSwitch_switch u
  rw [← hsw] at hmarked
  have hafter : contactorAfter v (evaluate (markSwitch u)) = contactorAfter (markSwitch u) (evaluate (markSwitch u)) := by
    simp [contactorAfter, hmarked, autoClosePermitted, hset]
  have hbegins : begins v (evaluate (markSwitch u)) = begins (markSwitch u) (evaluate (markSwitch u)) := by
    simp [begins, hmarked]
  have hdriven : driven v = driven (markSwitch u) := by simp [driven, hpow]
  have hreleased : released v (evaluate (markSwitch u)) = released (markSwitch u) (evaluate (markSwitch u)) := by
    simp [released, hmarked]
  constructor
  case inputs => simp [hmarked]
  case hold => exact he.hold
  case acting => exact he.acting
  case held => exact he.held
  case governing => exact he.governing
  case contactor => rw [hafter]; exact he.contactor
  case pulse => rw [hbegins, hdriven]; simpa [hmarked] using he.pulse
  case deferred => rw [hbegins, hdriven]; simpa [hmarked] using he.deferred
  case still => rw [hbegins]; simpa [hmarked] using he.still
  case kept => rw [hreleased, hbegins, hdriven]; simpa [hmarked] using he.kept
  case fault => rw [hreleased]; simpa [hmarked] using he.fault
  case cleanRun => rw [hreleased]; simpa [hmarked] using he.cleanRun
  case timers => simpa [hmarked] using he.timers
  case seen => exact he.seen
  case told =>
    intro hchange
    by_cases hquiet : u.switch.contactor = u.switch.seenContactor ∧ u.switch.governing = u.switch.seenGoverning
    · have hsame : markSwitch u = u := by simp [markSwitch, hquiet]
      rw [hsame] at hchange ⊢
      rw [hsw] at hchange
      exact .inl (evaluate_due hchange)
    · exact .inl (evaluate_stands _ 1 (markSwitch_due (by tauto)))
  case tamper => rw [hreleased]; simpa [hmarked, htam] using he.tamper

/-! ## The end of an operation (R141, R142, R145) -/

/-- The attempt is over. -/
def doneSwitch (s : State) : Switch := { s.switch with attempt := .idle, attemptCount := 0 }

/-- The attempt is over and the fault is gone. -/
def soundSwitch (s : State) : Switch := { doneSwitch s with fault := false }

/-- The tamper monitor with the fault told as gone, where it was present. -/
def toldTamper (s : State) : Tamper :=
  if s.switch.fault then { s.tamper with
    records := s.tamper.records.set kindSwitch (goneRecord s kindSwitch) } else s.tamper

/-- The contactor closed by a confirmed operation. -/
def shutSwitch (s : State) : Switch :=
  { soundSwitch s with
    contactor := .closed
    cleanRun := 0
    kept := { s.switch.kept with commandedClosed := true, openedBy := Reasons.empty, manualClose := false } }

/-- The contactor on its way to open again, by a reason that acts. -/
def reopeningSwitch (s : State) : Switch :=
  { soundSwitch s with
    contactor := .opening
    attempt := .pulse .open
    attemptCount := 1
    kept := { s.switch.kept with commandedClosed := false } }

theorem quiet_iff (h : s.switch.acting = actingSet s) : s.switch.acting.isEmpty = true ↔ actingSet s = Reasons.empty := by
  rw [isEmpty_iff, h]

theorem openConfirmed_evaluated (h : s.switch.acting = actingSet s) :
    Evaluated { s with
      switch := { soundSwitch s with contactor := if actingSet s = Reasons.empty then .armed else .opened }
      tamper := toldTamper s } (openConfirmed s) := by
  refine evaluated_between (u := dropFault (openOrArmed (endAttempt s))) ?_ (.refl _) marks_of_due
  have hcontactor : (if (endAttempt s).switch.acting.isEmpty then Contactor.armed else .opened) =
      if actingSet s = Reasons.empty then .armed else .opened := by
    simp only [show (endAttempt s).switch.acting = s.switch.acting from rfl, quiet_iff h]
  rw [openOrArmed, hcontactor, dropFault_eq]
  exact ⟨rfl, rfl, rfl, rfl⟩

/-- The contactor as a confirmed close leaves it, before the change is told. -/
def closedOrReopening (s : State) : State :=
  { s with switch := if actingSet s = Reasons.empty then shutSwitch s else reopeningSwitch s, tamper := toldTamper s }

theorem closeConfirmed_eq (h : s.switch.acting = actingSet s) (hp : s.supply.power = .mains) :
    closeConfirmed s = markSwitch (closedOrReopening s) := by
  have hquiet : (commandPosition true (endAttempt s)).switch.acting.isEmpty = true ↔ actingSet s = Reasons.empty :=
    quiet_iff h
  simp only [closeConfirmed, hquiet, closedOrReopening]
  by_cases hq : actingSet s = Reasons.empty
  · rw [if_pos hq, if_pos hq, dropFault_eq]
    rfl
  · have hpulse : enterOpening (commandPosition true (endAttempt s)) =
        beginPulse .open (setContactor .opening (commandPosition true (endAttempt s))) := if_pos (by simp [hp])
    rw [if_neg hq, if_neg hq, hpulse, dropFault_eq]
    simp [beginPulse, setContactor, commandPosition, endAttempt, onSwitch, reopeningSwitch, soundSwitch, doneSwitch,
      toldTamper, goneRecord]

/-- The contactor STUCK with its fault present, before the fault is told. -/
def faulted (s : State) : State := setFault true (setStuckTimer 60 (setContactor .stuck (endAttempt s)))

theorem openFailed_quiet (h : (openFailed s).tamper.reason = s.tamper.reason) :
    (openFailed s).switch = { doneSwitch s with
      contactor := .stuck, stuckTimer := 60, fault := true, seenContactor := .stuck, seenGoverning := s.switch.governing } ∧
    (openFailed s).tamper.records = if s.switch.fault then s.tamper.records else presentRecords s kindSwitch := by
  have hswitch : (openFailed s).switch = _ := markSwitch_switch _
  have htamper : (openFailed s).tamper = (raiseFault (setStuckTimer 60 (setContactor .stuck (endAttempt s)))).tamper := by
    simp [openFailed]
  rw [htamper] at h
  rw [hswitch, htamper]
  by_cases hf : s.switch.fault = true
  · rw [raiseFault_of_present (by exact hf), if_pos hf]
    refine ⟨?_, rfl⟩
    simp [setStuckTimer, setContactor, endAttempt, doneSwitch, hf]
  · rw [Bool.not_eq_true] at hf
    have habsent : raiseFault (setStuckTimer 60 (setContactor .stuck (endAttempt s))) = reportPresent kindSwitch (faulted s) :=
      raiseFault_of_absent hf
    rw [habsent] at h ⊢
    rw [hf]
    by_cases hk : (faulted s).tamper.records[kindSwitch].state = .active
    · rw [reportPresent_of_active hk]
      exact ⟨rfl, (presentRecords_active (s := s) hk).symm⟩
    · rw [reportPresent_reason hk] at h
      obtain ⟨hsw, htam⟩ := reportPresent_quiet (s := faulted s) (k := kindSwitch) h
      rw [hsw, htam]
      exact ⟨rfl, rfl⟩

/-! ## A failed close (R142) -/

/-- A change handed on is one evaluation, or leaves the controller as it was. -/
theorem handOff_cases {moved : Prop} (h : HandOff s v t moved) :
    Evaluated v t ∨ (t.switch = s.switch ∧ t.tamper = v.tamper) := by
  by_cases hm : moved
  · exact .inl (h.evaluated hm)
  · exact .inr (h.otherwise hm)

/-- The contactor rests open behind a failed close, its close barred by the manual-close mark. -/
structure Barred (s : State) : Prop where
  contactor : s.switch.contactor = .opened ∨ s.switch.contactor = .armed
  manual : s.switch.kept.manualClose = true
  commanded : s.switch.kept.commandedClosed = false
  fault : s.switch.fault = true
  attempt : s.switch.attempt = .idle
  count : s.switch.attemptCount = 0

theorem Barred.congr (h : Barred s) (e : t.switch = s.switch) : Barred t := by
  obtain ⟨hc, hm, hcmd, hfault, ha, hn⟩ := h
  rw [← e] at hc hm hcmd hfault ha hn
  exact ⟨hc, hm, hcmd, hfault, ha, hn⟩

/-- An evaluation leaves a barred contactor open: OPEN while a reason acts, else ARMED. -/
theorem Barred.evaluated (h : Barred s) (he : Evaluated s t) : Barred t ∧ t.tamper = s.tamper ∧
    t.switch.contactor = if actingSet t = Reasons.empty then .armed else .opened := by
  obtain ⟨hcontactor, hmanual, hcommanded, hfault, hattempt, hcount⟩ := h
  have hbarred : autoClosePermitted s = false := by simp [autoClosePermitted, hmanual]
  have hnext : t.switch.contactor = if actingSet t = Reasons.empty then .armed else .opened := by
    rw [he.contactor, contactorAfter]
    rcases hcontactor with hc | hc <;> by_cases hq : actingSet t = Reasons.empty <;> simp [hc, hq, hbarred]
  have hrests : t.switch.contactor = .opened ∨ t.switch.contactor = .armed := by
    rw [hnext]
    split_ifs <;> simp
  have hreleased : released s t = false := by rcases hcontactor with hc | hc <;> simp [released, hc]
  have hbegins : begins s t = none := by
    unfold begins
    split_ifs
    · rfl
    · rcases hrests with hc | hc <;> rw [hc]
  obtain ⟨hstill, hcountstill⟩ := he.still hbegins
  refine ⟨⟨hrests, ?_, ?_, ?_, hstill.trans hattempt, hcountstill.trans hcount⟩, ?_, hnext⟩
  · rw [he.kept]
    simp [hmanual, hreleased]
  · rw [he.kept]
    simp [hcommanded, hreleased, hbegins]
  · rw [he.fault, hfault, hreleased]
    rfl
  · rw [he.tamper, hreleased]
    rfl

/-- The contactor as a failed close leaves it, before the fault is told. -/
def reopened (s : State) : State := markManualClose (commandPosition false (setContactor .opened (endAttempt s)))

theorem reopened_barred (s : State) : Barred (setFault true (reopened s)) := ⟨.inl rfl, rfl, rfl, rfl, rfl, rfl⟩

/-- The fault told: the contactor is barred, and the record entered where the fault was absent. -/
theorem reopened_told (s : State) : Barred (raiseFault (reopened s)) ∧ (raiseFault (reopened s)).tamper.records =
    if s.switch.fault then s.tamper.records else presentRecords s kindSwitch := by
  by_cases hf : s.switch.fault = true
  · have hpresent : raiseFault (reopened s) = reopened s := raiseFault_of_present hf
    rw [hpresent, if_pos hf]
    exact ⟨⟨.inl rfl, rfl, rfl, hf, rfl, rfl⟩, rfl⟩
  · rw [Bool.not_eq_true] at hf
    have habsent : raiseFault (reopened s) = reportPresent kindSwitch (setFault true (reopened s)) := raiseFault_of_absent hf
    rw [habsent, hf, if_neg Bool.false_ne_true]
    by_cases hk : (setFault true (reopened s)).tamper.records[kindSwitch].state = .active
    · rw [reportPresent_of_active hk]
      exact ⟨reopened_barred s, (presentRecords_active (s := s) hk).symm⟩
    · have hchanged := reportPresent_between (.refl (setFault true (reopened s))) hk (.refl _) marks_of_due
      have hrecorded : Barred (withRecords (setFault true (reopened s))
        (presentRecords (setFault true (reopened s)) kindSwitch) true) := ⟨.inl rfl, rfl, rfl, rfl, rfl, rfl⟩
      have hrecords : presentRecords (setFault true (reopened s)) kindSwitch = presentRecords s kindSwitch := by
        unfold presentRecords presentRecord
        rfl
      rcases handOff_cases hchanged with he | ⟨hsw, htam⟩
      · obtain ⟨hbarred, htam, -⟩ := hrecorded.evaluated he
        exact ⟨hbarred, (congrArg Tamper.records htam).trans hrecords⟩
      · exact ⟨(reopened_barred s).congr hsw, (congrArg Tamper.records htam).trans hrecords⟩

theorem closeFailed_eq (s : State) : closeFailed s = evaluate (raiseFault (reopened s)) := rfl

/-- Settles O48: the judgment's cases, each ended by its own operation end. -/
theorem attemptsAreJudged : Obligations.AttemptsAreJudged := by
  intro s w hattempt hpower hacting
  have hjudge : runDue .judge s = if attemptConfirmed w s then
      (match w with
      | .open => openConfirmed s
      | .close => if s.switch.contactor = .stuck then evaluate (closeConfirmed s) else closeConfirmed s)
    else if s.switch.contactor = .stuck then stuckAttemptFailed s
    else if s.switch.attemptCount < 3 then beginPulse w s
    else match w with
      | .open => openFailed s
      | .close => closeFailed s := by
    cases w <;> simp only [runDue, judgeAttempt, hattempt]
  dsimp only
  refine ⟨fun hc hw => ?_, fun hc hw hs => ?_, fun hc hw hs => ?_, fun hc hs => ?_, fun hc hs hn => ?_,
    fun hc hw hs hn hr => ?_, fun hc hw hs hn => ?_⟩
  · subst hw
    rw [if_pos hc] at hjudge
    rw [hjudge]
    exact openConfirmed_evaluated hacting
  · subst hw
    rw [if_pos hc] at hjudge
    simp only [if_neg hs] at hjudge
    rw [hjudge, closeConfirmed_eq hacting hpower]
    refine ⟨by simp [closedOrReopening, toldTamper], ?_⟩
    rw [markSwitch_switch]
    have hgoverning : (closedOrReopening s).switch.governing = s.switch.governing := by
      simp only [closedOrReopening]
      split_ifs <;> rfl
    rw [hgoverning]
    rfl
  · subst hw
    rw [if_pos hc] at hjudge
    simp only [if_pos hs] at hjudge
    rw [hjudge, closeConfirmed_eq hacting hpower]
    exact evaluated_of_marked ⟨rfl, rfl, rfl, rfl⟩
  · rw [if_neg hc, if_pos hs] at hjudge
    rw [hjudge]
    exact evaluated_between (u := setStuckTimer 60 (endAttempt s)) ⟨rfl, rfl, rfl, rfl⟩ (.refl _) marks_of_due
  · rw [if_neg hc, if_neg hs, if_pos hn] at hjudge
    rw [hjudge]
    simp [beginPulse, onSwitch, hs]
  · subst hw
    rw [if_neg hc, if_neg hs, if_neg (not_lt.mpr hn)] at hjudge
    simp only at hjudge
    rw [hjudge] at hr ⊢
    exact openFailed_quiet hr
  · subst hw
    rw [if_neg hc, if_neg hs, if_neg (not_lt.mpr hn)] at hjudge
    simp only at hjudge
    rw [hjudge, closeFailed_eq]
    obtain ⟨hbarred, hrecords⟩ := reopened_told s
    have he := evaluate_evaluated (raiseFault (reopened s))
    obtain ⟨⟨-, hm, hcmd, hfault, ha, hcount⟩, htam, hcontactor⟩ := hbarred.evaluated he
    refine ⟨hm, hcmd, hfault, ha, hcount, he.acting, fun hq => ?_, fun hq => ?_, ?_⟩
    · rw [hcontactor, if_pos hq]
    · rw [hcontactor, if_neg hq]
    · rw [htam, hrecords]

/-! ## Welds (R144) -/

/-- The part with a weld observed in OPEN, before it is told. -/
def welded (s : State) : State :=
  setStuckTimer 60 (setContactor .stuck (onMeter (fun x => { x with weld := 0 }) s))

/-- The same, where the fault was absent: it is present. -/
def weldFaulted (s : State) : State := setFault true (welded s)

theorem weldFaulted_records (s : State) : presentRecords (weldFaulted s) kindSwitch = presentRecords s kindSwitch := by
  unfold presentRecords presentRecord
  rfl

theorem weldArrives_of_present (hc : s.switch.contactor = .opened) (hf : s.switch.fault = true) :
    weldArrives s = markSwitch (welded s) := by
  have hraise : weldArrives s = markSwitch (raiseFault (welded s)) := if_pos hc
  rw [hraise, raiseFault_of_present (s := welded s) hf]

theorem weldArrives_of_absent (hc : s.switch.contactor = .opened) (hf : s.switch.fault = false) :
    weldArrives s = markSwitch (reportPresent kindSwitch (weldFaulted s)) := by
  have hraise : weldArrives s = markSwitch (raiseFault (welded s)) := if_pos hc
  rw [hraise, raiseFault_of_absent (s := welded s) hf]
  rfl

/-- TAMPER acts as it is raised below level 3, and then holds STUCK. -/
theorem raised_acts {rs : Vector TamperRecord 10} (he : Evaluated (withRecords u rs true) t) (hr : tamperReasonOf rs = true)
    (hhold : holdLevel t < 3) (hc : u.switch.contactor = .stuck) (hf : u.switch.fault = true) :
    t.tamper = { u.tamper with records := rs, reason := true } ∧ t.switch.contactor = .stuck ∧ t.switch.fault = true ∧
      t.switch.stuckTimer = u.switch.stuckTimer ∧ t.switch.reasons.tamper = true ∧ t.switch.acting.tamper = true := by
  have hreason : t.switch.reasons.tamper = true := by
    rw [he.inputs.1]
    simp [withRecords, hr]
  have hacts : (actingSet t).tamper = true := by simp [actingSet, hreason, hhold]
  have hloud : actingSet t ≠ Reasons.empty := by
    intro hq
    rw [hq] at hacts
    exact absurd hacts (by decide)
  have hstuck : t.switch.contactor = .stuck := by
    rw [he.contactor, contactorAfter, show (withRecords u rs true).switch.contactor = .stuck from hc]
    simp [hloud]
  have hreleased : released (withRecords u rs true) t = false := by simp [released, hstuck]
  refine ⟨?_, hstuck, ?_, he.timers.1, hreason, he.acting ▸ hacts⟩
  · rw [he.tamper, hreleased]
    simp [withRecords, hr]
  · rw [he.fault, hreleased]
    simp [withRecords, hf]

/-- Settles O49: in OPEN the fault is told where it was absent, and the change of the contactor behind it. -/
theorem weldsAreObserved : Obligations.WeldsAreObserved := by
  intro s rest hrest
  have hstep : exec .weldObservation s = .next (advance (weldArrives (behindStep rest s))) :=
    congrArg _ (atOnce_of_next hrest)
  dsimp only
  refine ⟨fun hc => ?_, fun hc hf => ?_, fun hc hf => ?_⟩
  · rw [hstep]
    exact congrArg _ (congrArg _ (if_neg hc))
  · rw [weldArrives_of_present (s := behindStep rest s) hc hf] at hstep
    refine ⟨_, hstep, ?_, ?_, ?_, ?_⟩
    · rw [sameExcept_iff]
      simp [welded, behindStep]
    · simp [welded, behindStep]
    · simp [welded, behindStep]
    · rw [markSwitch_switch]
      rfl
  · rw [weldArrives_of_absent (s := behindStep rest s) hc hf] at hstep
    have hrecords := weldFaulted_records (behindStep rest s)
    have hkept : presentRecords (behindStep rest s) kindSwitch = presentRecords s kindSwitch := rfl
    rw [hkept] at hrecords
    have htamper : (markSwitch (reportPresent kindSwitch (weldFaulted (behindStep rest s)))).tamper =
        (reportPresent kindSwitch (weldFaulted (behindStep rest s))).tamper := by simp
    refine ⟨_, hstep, ?_, ?_, ?_, fun hk => ?_, fun hr => ?_, fun hr hbefore hreasons hhand hhold hk => ?_⟩
    · simp [weldFaulted, welded, behindStep]
    · rw [sameExcept_iff]
      simp [weldFaulted, welded, behindStep]
    · simp [weldFaulted, welded, behindStep]
    · have hk' : (weldFaulted (behindStep rest s)).tamper.records[kindSwitch].state ≠ .active := hk
      obtain ⟨hasked, htold⟩ := reportPresent_asked hk'
      rw [hrecords] at hasked
      refine ⟨asked_between hasked ⟨rfl, rfl⟩ (by simp), told_between htold ⟨rfl, rfl⟩ (by simp),
        markSwitch_stands _ 3 (reportPresent_due hk')⟩
    · rw [← hrecords] at hr ⊢
      obtain ⟨hsw, htam⟩ := reportPresent_quiet (s := weldFaulted (behindStep rest s)) (k := kindSwitch) hr
      refine ⟨by rw [htamper, htam]; rfl, ?_⟩
      rw [markSwitch_switch, hsw]
      rfl
    · have hk' : (weldFaulted (behindStep rest s)).tamper.records[kindSwitch].state ≠ .active := hk
      have hchanged := reportPresent_between (.refl (weldFaulted (behindStep rest s))) hk' (.refl _) marks_of_due
      rw [hrecords] at hchanged
      have he := hchanged.evaluated ⟨hhand, by rw [hr]; simp [weldFaulted, welded, behindStep, hbefore],
        by rw [hr]; simp [weldFaulted, welded, behindStep, hreasons]⟩
      have hlevel : holdLevel (reportPresent kindSwitch (weldFaulted (behindStep rest s))) < 3 := by
        obtain ⟨-, hfriendly, hwindow⟩ := he.inputs
        unfold holdLevel at hhold ⊢
        rw [hfriendly, hwindow]
        simpa [withRecords, weldFaulted, welded, behindStep] using hhold
      obtain ⟨htam, hstuck, hfault, htimer, hreason, hacts⟩ := raised_acts he hr hlevel rfl rfl
      rw [htamper, markSwitch_switch]
      exact ⟨htam, hstuck, hfault, htimer, hreason, hacts⟩

end Sys2Proof.Proofs
end

section
/-! SUPPORT. The sense inputs (R162, R163) and the crystal (R42, R43). -/

namespace Sys2Proof.Proofs
open Sys2Proof.Machine Sys2Proof.Safety

variable {s t u v : State} {i : SenseInput} {h : Bool}

/-! ## A momentary condition (R158) -/

theorem reportGone_state (k : Fin 10) (s : State) : (reportGone k s).switch = s.switch ∧ (reportGone k s).tamper =
    { s.tamper with records := s.tamper.records.set k (goneRecord s k) } := by
  rw [reportGone_eq]
  exact ⟨rfl, rfl⟩

/-- An evaluation reaches no other record than the SWITCH record's. -/
theorem evaluated_gone {k : Fin 10} (hk : k ≠ kindSwitch) (htime : t.clock.time = s.clock.time) (h : Evaluated s t) :
    Evaluated (reportGone k s) (reportGone k t) := by
  rw [reportGone_eq, reportGone_eq]
  refine ⟨h.inputs, h.hold, h.acting, h.held, h.governing, h.contactor, h.pulse, h.deferred, h.still, h.kept, h.fault,
    h.cleanRun, h.timers, h.seen, h.told, ?_⟩
  have htam := h.tamper
  have hne : (k : Nat) ≠ (kindSwitch : Fin 10) := fun e => hk (Fin.ext e)
  simp only [released, goneRecord, htime] at htam ⊢
  by_cases hr : (decide (s.switch.contactor = .stuck) && decide (t.switch.contactor = .closed) && s.switch.fault) = true
  · rw [if_pos hr] at htam ⊢
    rw [htam]
    simp only [Fin.getElem_fin, Vector.getElem_set_ne _ _ hne, Vector.getElem_set_ne _ _ hne.symm]
    rw [Vector.set_comm _ _ hne]
  · rw [if_neg hr] at htam ⊢
    rw [htam]

theorem handOff_gone {k : Fin 10} {moved : Prop} (hk : k ≠ kindSwitch) (htime : t.clock.time = v.clock.time)
    (h : HandOff s v t moved) : HandOff s (reportGone k v) (reportGone k t) moved := by
  refine ⟨fun hm => evaluated_gone hk htime (h.evaluated hm), fun hm => ?_⟩
  obtain ⟨hsw, htam⟩ := h.otherwise hm
  refine ⟨(reportGone_state k t).1.trans hsw, ?_⟩
  rw [(reportGone_state k t).2, (reportGone_state k v).2]
  simp only [goneRecord, htam, htime]

/-- Records that change, and one that is told as gone at once. -/
theorem recordsChanged_gone {k : Fin 10} {rs : Vector TamperRecord 10} (hk : k ≠ kindSwitch)
    (htime : t.clock.time = s.clock.time) (h : RecordsChanged s t rs) :
    RecordsChanged s (reportGone k t) (rs.set k (goneAt s.clock.time rs[k])) := by
  have hcuts : tamperReasonOf (rs.set k (goneAt s.clock.time rs[k])) = tamperReasonOf rs :=
    tamperReasonOf_set (goneAt_cuts _ _)
  have hrecords : reportGone k (withRecords s rs true) = withRecords s (rs.set k (goneAt s.clock.time rs[k])) true := by
    rw [reportGone_eq]
    simp only [withRecords, hcuts, goneRecord]
  unfold RecordsChanged at h ⊢
  rw [hcuts, ← hrecords]
  exact handOff_gone hk htime h

theorem setInput_records (i : SenseInput) (x : InputState) (s : State) (k : Fin 10) :
    presentRecords (setInput i x s) k = presentRecords s k ∧ goneRecord (setInput i x s) k = goneRecord s k ∧
      sectionsOf (setInput i x s) = sectionsOf s := by
  simp [presentRecords, presentRecord, goneRecord, sectionsOf]

/-! ## One sample (R162, R163) -/

theorem modeEdge_eq (mode : Nat) : modeEdge mode = mode.testBit 8 := by
  simp [modeEdge, Nat.testBit_eq_decide_div_mod_eq, beq_eq_decide]

theorem sampleAll_agenda (i : SenseInput) (l : List Bool) (s : State) : (sampleAll i l s).agenda = s.agenda := by
  induction l generalizing s with
  | nil => rfl
  | cons h l ih =>
    rw [sampleAll, ih]
    split_ifs <;> simp

theorem exec_samples (hidle : s.agenda = []) (l : List Bool) : exec (.inputQualified i l) s = .next (sampleAll i l s) := by
  rw [← advance_of_idle ((sampleAll_agenda i l s).trans hidle), ← arrival_of_idle hidle]
  rfl

theorem exec_sample (hidle : s.agenda = []) (hs : inputsSampled s = true) :
    exec (.inputQualified i [h]) s = .next (sampleInput i h s) := by
  rw [exec_samples hidle, sampleAll, if_pos hs]
  rfl

/-- A sample at the qualified level. -/
theorem sampleInput_same (hl : (h != (inputMode s.settings i).testBit 9) = (inputState s i).qualified) :
    sampleInput i h s = setInput i ⟨(inputState s i).qualified, 0, h⟩ s := by
  simp only [sampleInput, modeActive_eq, hl, if_true]

/-- A sample at the other level, below the debounce. -/
theorem sampleInput_counts (hl : (h != (inputMode s.settings i).testBit 9) ≠ (inputState s i).qualified)
    (hn : (inputState s i).debounce + 1 < inputMode s.settings i % 256) :
    sampleInput i h s = setInput i ⟨(inputState s i).qualified, (inputState s i).debounce + 1, h⟩ s := by
  simp only [sampleInput, modeActive_eq, if_neg hl, modeDebounce, if_neg (not_le.mpr hn)]

/-- A sample at the other level that reaches the debounce. -/
theorem sampleInput_qualifies (hl : (h != (inputMode s.settings i).testBit 9) ≠ (inputState s i).qualified)
    (hn : inputMode s.settings i % 256 ≤ (inputState s i).debounce + 1) :
    sampleInput i h s = qualifiedChange i (h != (inputMode s.settings i).testBit 9)
      (setInput i ⟨h != (inputMode s.settings i).testBit 9, 0, h⟩ s) := by
  simp only [sampleInput, modeActive_eq, if_neg hl, modeDebounce, if_pos hn]

theorem qualifiedChange_inactive (i : SenseInput) (s : State) : qualifiedChange i false s =
    if (inputMode s.settings i).testBit 8 then s else reportGone (inputKind i) s := by
  simp only [qualifiedChange, modeEdge_eq, report, Bool.false_eq_true, if_false]

theorem qualifiedChange_active (i : SenseInput) (s : State) : qualifiedChange i true s =
    if (inputMode s.settings i).testBit 8 then reportBoth (inputKind i) s else reportPresent (inputKind i) s := by
  simp only [qualifiedChange, modeEdge_eq, report, if_true]

theorem inputKind_ne (i : SenseInput) : inputKind i ≠ kindSwitch := by cases i <;> decide

/-- A qualified active level that finds its record not ACTIVE. -/
theorem qualified_entered (i : SenseInput) (x : InputState) (s : State)
    (hk : s.tamper.records[inputKind i].state ≠ .active) :
    let u := setInput i x s
    let t := qualifiedChange i true u
    StoreAsked s t { sectionsOf s with records := presentRecords s (inputKind i) } ∧ RequestersTold s t s.intake ∧
      t.attn.due.getLsbD 3 = true ∧
      RecordsChanged u t (if (inputMode s.settings i).testBit 8
        then (presentRecords s (inputKind i)).set (inputKind i) (goneAt s.clock.time (presentRecord s (inputKind i)))
        else presentRecords s (inputKind i)) := by
  dsimp only
  obtain ⟨hrecords, -, hsections⟩ := setInput_records i x s (inputKind i)
  have hset : (setInput i x s).settings = s.settings := by simp
  have hk' : (setInput i x s).tamper.records[inputKind i].state ≠ .active := by simpa using hk
  have hkeeps : s.store = (setInput i x s).store ∧ s.supply = (setInput i x s).supply := by simp
  have hintake : (setInput i x s).intake = s.intake := by simp
  obtain ⟨hasked, htold⟩ := reportPresent_asked hk'
  have hdue := reportPresent_due hk'
  have hchanged := reportPresent_between (.refl (setInput i x s)) hk' (.refl _) marks_of_due
  rw [hrecords] at hasked hchanged
  rw [hsections] at hasked
  rw [hintake] at htold
  rw [qualifiedChange_active, hset]
  by_cases hedge : (inputMode s.settings i).testBit 8 = true
  · rw [if_pos hedge, if_pos hedge]
    refine ⟨asked_between hasked hkeeps (by simp [reportBoth]), told_between htold hkeeps (by simp [reportBoth]),
      reportGone_stands _ _ 3 hdue, ?_⟩
    have hgone := recordsChanged_gone (inputKind_ne i) (by simp) hchanged
    have hrecord : (presentRecords s (inputKind i))[inputKind i] = presentRecord s (inputKind i) := by
      simp [presentRecords]
    rw [hrecord] at hgone
    simpa [reportBoth] using hgone
  · rw [if_neg hedge, if_neg hedge]
    exact ⟨asked_between hasked hkeeps ⟨rfl, rfl⟩, told_between htold hkeeps rfl, hdue, hchanged⟩

/-- Settles O54: the samples one behind the other, and the three outcomes of one sample. -/
theorem inputsQualify : Obligations.InputsQualify := by
  refine ⟨fun i s hidle => exec_samples hidle [], fun i h rest s t hidle ht => ?_, fun i h s hidle hnone => ?_,
    fun i h s hidle hb hstart => ?_⟩
  · rw [exec_samples hidle] at ht
    obtain rfl := Host.Outcome.next.inj ht
    rw [exec_samples hidle, exec_samples ((sampleAll_agenda i [h] s).trans hidle)]
    rfl
  · have hoff : inputsSampled s = false := by
      rcases hnone with hp | ⟨hp, hn⟩ <;> simp [inputsSampled, hp]
      omega
    rw [exec_samples hidle, sampleAll, hoff]
    rfl
  · have hon : inputsSampled s = true := by
      unfold inputsSampled
      split <;> simp_all
    have hexec := exec_sample (i := i) (h := h) hidle hon
    intro mode k x level u r
    have hmode : mode = inputMode s.settings i := by cases i <;> rfl
    clear_value mode
    subst hmode
    rw [hexec]
    have hgone : reportGone (inputKind i) u = { u with
        tamper := { u.tamper with records := u.tamper.records.set (inputKind i) (goneRecord s (inputKind i)) } } := by
      rw [reportGone_eq, (setInput_records i ⟨level, 0, h⟩ s (inputKind i)).2.1]
    have hset : u.settings = s.settings := by simp [u]
    have hinactive := qualifiedChange_inactive i u
    have hactive := qualifiedChange_active i u
    rw [hset] at hinactive hactive
    have hqualifies (b : Bool) (hb : level = b) (hl : level ≠ x.qualified)
        (hn : inputMode s.settings i % 256 ≤ x.debounce + 1) : sampleInput i h s = qualifiedChange i b u := by
      rw [← hb]
      exact sampleInput_qualifies hl hn
    refine ⟨fun hl => congrArg _ (sampleInput_same hl), fun hl hn => congrArg _ (sampleInput_counts hl hn),
      fun hl hn => ⟨fun hb hedge => ?_, fun hb hedge => ?_, fun hb hr => ?_, fun hb hr => ?_⟩⟩
    · rw [hqualifies _ hb hl hn, hinactive, if_pos hedge]
    · rw [hqualifies _ hb hl hn, hinactive, hedge]
      exact congrArg _ hgone
    · have hr' : u.tamper.records[inputKind i].state = .active := by
        have hsame : u.tamper.records = s.tamper.records := by simp [u]
        rw [hsame]
        exact hr
      rw [hqualifies _ hb hl hn, hactive, reportBoth, reportPresent_of_active hr', hgone]
      rfl
    · refine ⟨_, rfl, ?_, ?_⟩
      · rw [sameExcept_iff]
        simp
      · rw [hqualifies _ hb hl hn]
        exact qualified_entered i _ s hr

/-! ## The crystal (R42, R43) -/

/-- The time base stands, and a report of it reaches the tamper monitor. -/
theorem monitorReady_iff (s : State) : monitorReady s = true ↔
    ¬(s.supply.power = .battery ∨ (s.supply.power = .start ∧ s.supply.startStep = 0)) := by
  unfold monitorReady
  cases hp : s.supply.power <;> simp [Nat.one_le_iff_ne_zero]

theorem handing_early (h : s.supply.power = .battery ∨ (s.supply.power = .start ∧ s.supply.startStep = 0)) :
    handing s = false := by
  rcases h with hp | ⟨hp, hn⟩ <;> simp [handing, hp]
  omega

theorem friendlyState_of_uncertain (h : s.clock.certain = false) : friendlyState s = false := by simp [friendlyState, h]

/-- The friendly evaluation of an UNCERTAIN time. -/
theorem evaluateFriendly_of_uncertain (h : s.clock.certain = false) : evaluateFriendly s =
    if handing s = true ∧ s.switch.friendly = true then handFriendly false s else s := by
  simp [evaluateFriendly, friendlyState_of_uncertain h]

theorem crystalReturns_of_backup (h : s.clock.source = .backup) (hbase : s.supply.power = .battery → s.battery.intact = true) :
    crystalReturns s = if monitorReady s then reportGone kindClock (toCrystal s) else toCrystal s := by
  unfold crystalReturns
  rw [if_neg]
  simp only [Bool.or_eq_true, Bool.and_eq_true, decide_eq_true_eq, Bool.not_eq_true']
  rintro (hsource | ⟨hp, hlost⟩)
  · rw [h] at hsource
    exact absurd hsource (by decide)
  · rw [hbase hp] at hlost
    exact absurd hlost (by decide)

theorem deriveTamper_friendly (s : State) : (deriveTamper s).switch.friendly = s.switch.friendly := by
  unfold deriveTamper handReason
  dsimp only
  split_ifs <;> simp

theorem reportPresent_friendly (k : Fin 10) (s : State) : (reportPresent k s).switch.friendly = s.switch.friendly := by
  by_cases hk : s.tamper.records[k].state = .active
  · rw [reportPresent_of_active hk]
  · rw [reportPresent_of_entry hk, deriveTamper_friendly]
    simp [withPresent]

/-- The crystal's stop, told to the monitor and marked. -/
def stopped (s : State) : State :=
  let told := if monitorReady s then reportPresent kindClock (toBackup s) else toBackup s
  if s.clock.certain && s.supply.power ≠ .battery then markDue attnCalendar told else told

theorem crystalStops_of_crystal (h : s.clock.source = .crystal)
    (hbase : s.supply.power = .battery → s.battery.intact = true) : crystalStops s = evaluateFriendly (stopped s) := by
  unfold crystalStops
  rw [if_neg]
  · rfl
  simp only [Bool.or_eq_true, Bool.and_eq_true, decide_eq_true_eq, Bool.not_eq_true']
  rintro (hsource | ⟨hp, hlost⟩)
  · rw [h] at hsource
    exact absurd hsource (by decide)
  · rw [hbase hp] at hlost
    exact absurd hlost (by decide)

theorem stopped_keeps (s : State) : (stopped s).agenda = s.agenda ∧ (stopped s).clock = (toBackup s).clock ∧
    (stopped s).switch.friendly = s.switch.friendly ∧ (stopped s).supply.power = s.supply.power ∧
    (stopped s).supply.startStep = s.supply.startStep ∧ (stopped s).settings = s.settings ∧
    (stopped s).meter = s.meter := by
  unfold stopped
  dsimp only
  split_ifs <;> simp [reportPresent_friendly]

theorem exec_crystalStop (hidle : s.agenda = []) (h : s.clock.source = .crystal)
    (hbase : s.supply.power = .battery → s.battery.intact = true) :
    exec .crystalStop s = .next (evaluateFriendly (stopped s)) := by
  have hquiet : (evaluateFriendly (stopped s)).agenda = [] := by simp [(stopped_keeps s).1, hidle]
  rw [← advance_of_idle hquiet, ← crystalStops_of_crystal h hbase, ← arrival_of_idle hidle]
  rfl

/-- The friendly evaluation behind a stop: a friendly period ends. -/
theorem stopped_friendly (s : State) : evaluateFriendly (stopped s) =
    if handing s = true ∧ s.switch.friendly = true then handFriendly false (stopped s) else stopped s := by
  obtain ⟨-, hclock, hfriendly, hpower, hstep, -, -⟩ := stopped_keeps s
  have huncertain : (stopped s).clock.certain = false := by
    rw [hclock]
    rfl
  rw [evaluateFriendly_of_uncertain huncertain, handing_congr hpower hstep, hfriendly]

/-- The stop before the monitor takes reports. -/
theorem stopped_of_early (h : monitorReady s = false) : stopped s =
    if s.clock.certain && s.supply.power ≠ .battery then markDue attnCalendar (toBackup s) else toBackup s := by
  simp [stopped, h]

theorem stopped_marks (h : s.clock.certain = true) (hb : s.supply.power ≠ .battery) :
    (stopped s).attn.due.getLsbD 5 = true := by
  simp [stopped, h, hb, attnCalendar]

theorem evaluateFriendly_stands (s : State) : DueStands s (evaluateFriendly s) := by
  unfold evaluateFriendly
  split_ifs
  · exact evaluate_stands (onSwitch (fun x => { x with friendly := friendlyState s }) s)
  · exact .refl s

/-- What a stop leaves of the parts that neither its report nor its mark reaches. -/
theorem stopped_of_active (hm : monitorReady s = true) (hk : s.tamper.records[kindClock].state = .active) :
    (stopped s).switch = s.switch ∧ (stopped s).tamper = s.tamper ∧ (stopped s).store = s.store ∧
      (stopped s).intake = s.intake ∧ (stopped s).supply = s.supply := by
  have hnone : reportPresent kindClock (toBackup s) = toBackup s := reportPresent_of_active hk
  simp only [stopped, hm, if_true, hnone]
  split_ifs <;> exact ⟨rfl, rfl, rfl, rfl, rfl⟩

theorem stopped_of_entry (hm : monitorReady s = true) (hk : s.tamper.records[kindClock].state ≠ .active) :
    StoreAsked s (stopped s) { sectionsOf s with records := presentRecords s kindClock } ∧
      RequestersTold s (stopped s) s.intake ∧ (stopped s).attn.due.getLsbD 3 = true ∧
      RecordsChanged s (stopped s) (presentRecords s kindClock) := by
  have hk' : (toBackup s).tamper.records[kindClock].state ≠ .active := hk
  obtain ⟨hasked, htold⟩ := reportPresent_asked hk'
  have hdue := reportPresent_due hk'
  have hsame : (stopped s).store = (reportPresent kindClock (toBackup s)).store ∧
      (stopped s).supply = (reportPresent kindClock (toBackup s)).supply ∧
      (stopped s).intake = (reportPresent kindClock (toBackup s)).intake := by
    simp only [stopped, hm, if_true]
    split_ifs <;> exact ⟨rfl, rfl, rfl⟩
  have hstands : DueStands (reportPresent kindClock (toBackup s)) (stopped s) := by
    simp only [stopped, hm, if_true]
    split_ifs
    · exact markDue_stands _ _
    · exact .refl _
  obtain ⟨hstore, hsupply, hintake⟩ := hsame
  refine ⟨asked_between hasked ⟨rfl, rfl⟩ ⟨hstore, hsupply⟩, told_between htold ⟨rfl, rfl⟩ hintake, hstands 3 hdue, ?_⟩
  refine reportPresent_between (u := toBackup s) ⟨⟨rfl, rfl, rfl, rfl⟩, rfl, rfl, rfl, rfl⟩ hk' ⟨?_, ?_, ⟨?_, ?_⟩, ?_, ?_⟩
    fun hi => marks_of_due (hstands 1 hi)
  all_goals
    simp only [stopped, hm, if_true]
    split_ifs <;> rfl

/-- Settles O53: the report to the monitor, then the friendly evaluation of a time that is UNCERTAIN. -/
theorem crystalsStopAndReturn : Obligations.CrystalsStopAndReturn := by
  intro s hidle
  have hstops : crystalStops s = s → exec .crystalStop s = .next s := fun e =>
    congrArg _ ((arrival_of_idle hidle crystalStops).trans (by rw [e, advance_of_idle hidle]))
  have hreturns : crystalReturns s = s → exec .crystalReturn s = .next s := fun e =>
    congrArg _ ((arrival_of_idle hidle crystalReturns).trans (by rw [e, advance_of_idle hidle]))
  refine ⟨fun hp hlost => ⟨hstops (if_pos (by simp [hp, hlost])), hreturns (if_pos (by simp [hp, hlost]))⟩, fun hbase => ?_⟩
  refine ⟨fun hsource => hstops (if_pos (by simp [hsource])), fun hsource => hreturns (if_pos (by simp [hsource])),
    fun hsource => ?_, fun hsource hp => ?_, fun hsource hp hn => ?_, fun hsource hearly => ?_⟩
  · have hquiet : (crystalReturns s).agenda = [] := by simp [hidle]
    have hexec : exec .crystalReturn s = .next (crystalReturns s) := by
      rw [← advance_of_idle hquiet, ← arrival_of_idle hidle]
      rfl
    rw [hexec, crystalReturns_of_backup hsource hbase]
    by_cases hm : monitorReady s = true
    · rw [if_pos hm, if_neg ((monitorReady_iff s).mp hm), reportGone_eq]
      rfl
    · rw [if_neg hm, if_pos (not_not.mp (mt (monitorReady_iff s).mpr hm))]
      rfl
  · have hearly : s.supply.power = .battery ∨ (s.supply.power = .start ∧ s.supply.startStep = 0) := .inl hp
    have hm : monitorReady s = false := by
      rw [← Bool.not_eq_true, monitorReady_iff, not_not]
      exact hearly
    rw [exec_crystalStop hidle hsource hbase, stopped_friendly, handing_early hearly, stopped_of_early hm]
    simp [hp, toBackup, onClock]
  · have hearly : s.supply.power = .battery ∨ (s.supply.power = .start ∧ s.supply.startStep = 0) := .inr ⟨hp, hn⟩
    have hm : monitorReady s = false := by
      rw [← Bool.not_eq_true, monitorReady_iff, not_not]
      exact hearly
    rw [exec_crystalStop hidle hsource hbase, stopped_friendly, handing_early hearly, stopped_of_early hm]
    cases hcertain : s.clock.certain <;> simp [hp, toBackup, onClock, markDue, onAttn, attnCalendar]
  · have hm := (monitorReady_iff s).mpr hearly
    have hb : s.supply.power ≠ .battery := fun hp => hearly (.inl hp)
    obtain ⟨-, hclock, hfriendly, -, -, hsettings, -⟩ := stopped_keeps s
    refine ⟨_, exec_crystalStop hidle hsource hbase, ?_, ?_, fun hcertain => ?_, ?_, fun hk => ?_, fun hk => ?_⟩
    · rw [sameExcept_iff]
      simp only [stopped, hm, if_true]
      split_ifs <;> simp
    · have hbackup : (toBackup s).clock = { s.clock with source := .backup, certain := false } := by
        simp [toBackup, hb]
      rw [← hbackup, ← hclock]
      simp
    · exact evaluateFriendly_stands _ 5 (stopped_marks hcertain hb)
    · rw [stopped_friendly]
      by_cases hh : handing s = true ∧ s.switch.friendly = true
      · rw [if_pos hh, if_pos hh.1]
        simp [handFriendly]
      · rw [if_neg hh, hfriendly]
        cases hon : handing s <;> simp_all
    · obtain ⟨hsw, htam, hstore, hintake, hsupply⟩ := stopped_of_active hm hk
      refine ⟨by simp [hstore], by simp [hintake], by simp [hsupply], fun hh => ?_, fun hh => ?_⟩
      · rw [stopped_friendly, if_pos hh]
        refine evaluated_between (u := onSwitch (fun x => { x with friendly := false }) (stopped s)) ⟨?_, ?_, ?_, ?_⟩ (.refl _)
          marks_of_due
        · simp [hsw]
        · simp [hsettings]
        · simp [hsupply]
        · simp [htam]
      · rw [stopped_friendly, if_neg hh]
        exact ⟨hsw, htam⟩
    · obtain ⟨hasked, htold, hdue, hchanged⟩ := stopped_of_entry hm hk
      refine ⟨asked_between hasked ⟨rfl, rfl⟩ (by simp), told_between htold ⟨rfl, rfl⟩ (by simp),
        evaluateFriendly_stands _ 3 hdue, fun hh => ?_⟩
      rw [stopped_friendly, if_neg]
      · exact hchanged
      · rintro ⟨hon, hf⟩
        rcases hh with hh | hh
        · rw [hf] at hh
          exact absurd hh (by decide)
        · rw [hon] at hh
          exact absurd hh (by decide)

end Sys2Proof.Proofs
end

section
/-! SUPPORT. Memory frames byte by byte (R1 to R3): what a read shifts out, and where a written byte goes. -/

namespace Sys2Proof.Proofs
open Sys2Proof.Machine Sys2Proof.Safety

variable {s t u : State} {write : Bool} {out : Option (List Byte)} {a : Nat}

/-! ## A frame in progress -/

/-- The state with a frame of this kind in progress, at this place. -/
def standing (write : Bool) (out : Option (List Byte)) (place : FramePlace) (s : State) : State :=
  onLink (fun _ => ⟨out, some ⟨write, place⟩⟩) s

theorem standing_standing (place place' : FramePlace) (o : Option (List Byte)) (s : State) :
    standing write out place (standing write o place' s) = standing write out place s := rfl

theorem standing_of_inFrame (h : InFrame write a s) : standing write s.link.out (.data a) s = s := by
  obtain ⟨hframe, -, -⟩ := h
  simp [standing, onLink, ← hframe]

theorem openFrame_standing (hb : s.supply.power ≠ .battery) (place : FramePlace) :
    openFrame write (standing write out place s) = some ⟨write, place⟩ := by
  simp [openFrame, standing, hb]

theorem beginFrame_standing (hb : s.supply.power ≠ .battery) (place : FramePlace) :
    beginFrame write (standing write out place s) = standing write out place s := by
  simp only [beginFrame, openFrame_standing hb]

theorem frameByte_standing (hb : s.supply.power ≠ .battery) (v : Byte) :
    frameByte write v (standing write out (.data a) s) =
      if write then hostByte a v (standing write (out.map (· ++ [0])) (.data ((a + 1) % 65536)) s)
      else standing write (out.map (· ++ [readByte s a])) (.data ((a + 1) % 65536)) s := by
  have hspace : Config.addressSpace = 65536 := rfl
  have hread : readByte (standing write out (.data a) s) a = readByte s a := rfl
  simp only [frameByte, openFrame_standing hb, FramePlace.next, hspace, shiftedOut, hread]
  cases write <;> simp only [standing, onLink, Bool.false_eq_true, if_true, if_false]

/-- Where nothing is due behind the first byte, the others follow it at once. -/
theorem frameBytes_cons {v : Byte} {vs : List Byte} (h : (frameByte write v s).agenda = []) :
    frameBytes write (v :: vs) s = frameBytes write vs (frameByte write v s) := by
  cases vs with
  | nil => rfl
  | cons w vs => rw [frameBytes, settle_of_idle h]

/-- The state behind a frame's two address bytes. -/
theorem beginFrame_addressed (ha : s.agenda = []) (hf : NoFrame write s) (hb : s.supply.power ≠ .battery) (hi lo : Byte)
    (rest : List Byte) : frameBytes write (hi :: lo :: rest) (beginFrame write s) =
      frameBytes write rest (standing write (some [0, 0, 0]) (.data (frameAddress hi lo)) s) := by
  rw [beginFrame_of_noFrame hf hb, frameBytes_cons (by rw [frameByte_high hb]; exact ha), frameByte_high hb,
    frameBytes_cons (by rw [frameByte_low hb]; exact ha), frameByte_low hb]
  rfl

/-- A frame from its address on is the frame of its other bytes, at that address. -/
theorem memoryFrame_addressed (ha : s.agenda = []) (hf : NoFrame write s) (hb : s.supply.power ≠ .battery) (hi lo : Byte)
    (rest : List Byte) (more : Bool) : memoryFrame write ⟨hi :: lo :: rest, more⟩ s =
      memoryFrame write ⟨rest, more⟩ (standing write (some [0, 0, 0]) (.data (frameAddress hi lo)) s) := by
  simp only [memoryFrame, beginFrame_addressed ha hf hb, beginFrame_standing hb]

theorem beginFrame_battery (hb : s.supply.power = .battery) :
    beginFrame write s = onLink (fun _ => ⟨none, none⟩) s := by
  have hnone : openFrame write s = none := by
    unfold openFrame
    split <;> simp [hb]
  simp only [beginFrame, hnone, hb]
  rfl

/-- In BATTERY the link takes no byte. -/
theorem frameBytes_battery (ha : s.agenda = []) (hb : s.supply.power = .battery) (vs : List Byte) :
    frameBytes write vs s = s := by
  induction vs with
  | nil => rfl
  | cons v vs ih =>
    have hsame : frameByte write v s = s := by
      have hnone : openFrame write s = none := by
        unfold openFrame
        split <;> simp [hb]
      simp only [frameByte, hnone]
    rw [frameBytes_cons (by rw [hsame]; exact ha), hsame, ih]

theorem memoryFrame_battery (ha : s.agenda = []) (hb : s.supply.power = .battery) (vs : List Byte)
    (bytes : List Byte) : memoryFrame write ⟨vs, false⟩ s = answerFrame bytes s := by
  rw [memoryFrame, beginFrame_battery hb, frameBytes_battery (s := onLink (fun _ => ⟨none, none⟩) s) ha hb]
  simp [endFrame, answerFrame, hb]
  rfl

/-! ## READ_MEMORY (R2) -/

/-- What a READ_MEMORY frame finds at `k` places behind an address. -/
def foundAt (s : State) (a k : Nat) : Byte := readByte s ((a + k) % 65536)

theorem foundAt_next (s : State) (a k : Nat) : foundAt s ((a + 1) % 65536) k = foundAt s a (k + 1) := by
  unfold foundAt
  congr 1
  omega

theorem frameBytes_read (ha : s.agenda = []) (hb : s.supply.power ≠ .battery) (hlt : a < 65536) (vs : List Byte) :
    frameBytes false vs (standing false out (.data a) s) =
      standing false (out.map (· ++ (List.range vs.length).map (foundAt s a))) (.data ((a + vs.length) % 65536)) s := by
  induction vs generalizing a out with
  | nil => simp [frameBytes, Nat.mod_eq_of_lt hlt]
  | cons v vs ih =>
    have hstep := frameByte_standing (write := false) (out := out) (a := a) hb v
    simp only [Bool.false_eq_true, if_false] at hstep
    rw [frameBytes_cons (by rw [hstep]; exact ha), hstep, ih (Nat.mod_lt _ (by omega))]
    have hfirst : foundAt s a 0 = readByte s a := by simp [foundAt, Nat.mod_eq_of_lt hlt]
    have hplace : ((a + 1) % 65536 + vs.length) % 65536 = (a + (vs.length + 1)) % 65536 := by omega
    have hfound : foundAt s ((a + 1) % 65536) = foundAt s a ∘ Nat.succ := funext fun k => foundAt_next s a k
    simp only [hplace, hfound, List.length_cons, List.range_succ_eq_map, List.map_cons, List.map_map, hfirst, Option.map_map]
    congr 1
    congr 1
    funext l
    simp

theorem foundAt_eq (s : State) : foundAt s = fun a k =>
    let b := (a + k) % 65536
    if s.supply.power = .start ∧ s.supply.startStep < 5 then 0 else if b < 0x1400 then s.mem.read b else 0 := by
  funext a k
  simp [foundAt, readByte]

theorem exec_readMemory (ha : s.agenda = []) (piece : FramePiece) (h : (memoryFrame false piece s).agenda = []) :
    exec (.readMemory piece) s = .next (memoryFrame false piece s) := by
  rw [← advance_of_idle h, ← arrival_of_idle ha]
  rfl

theorem frameAddress_lt (hi lo : Byte) : frameAddress hi lo < 65536 := by
  have h1 := hi.isLt
  have h2 := lo.isLt
  unfold frameAddress
  omega

/-- Settles O15: the bytes one behind the other, and the frame as a whole and in pieces. -/
theorem readMemoryReturnsTheMemory : Obligations.ReadMemoryReturnsTheMemory := by
  have hfound (s : State) (a : Nat) : foundAt s a = _ := congrFun (foundAt_eq s) a
  refine ⟨fun hi lo rest s ha hf => ?whole, fun bytes s ha hf hn => ?short, fun hi lo rest more s ha hf hb => ?address,
    fun rest more a s ha hin => ?piece⟩
  case whole =>
    by_cases hb : s.supply.power = .battery
    · have hframe := memoryFrame_battery (write := false) ha hb (hi :: lo :: rest)
        (([0, 0, 0] : List Byte) ++ (List.range rest.length).map (foundAt s (256 * hi.toNat + lo.toNat)))
      rw [hfound] at hframe
      rw [exec_readMemory ha _ (by rw [hframe]; exact ha), hframe]
    · have hframe : memoryFrame false ⟨hi :: lo :: rest, false⟩ s = answerFrame
          (([0, 0, 0] : List Byte) ++ (List.range rest.length).map (foundAt s (256 * hi.toNat + lo.toNat))) s := by
        rw [memoryFrame_addressed ha hf hb, memoryFrame, beginFrame_standing hb,
          frameBytes_read ha hb (frameAddress_lt hi lo)]
        simp [endFrame, answerFrame, standing, onLink, hb, frameAddress]
      rw [hfound] at hframe
      rw [exec_readMemory ha _ (by rw [hframe]; exact ha), hframe]
  case short =>
    have hframe : memoryFrame false ⟨bytes, false⟩ s = answerFrame (List.replicate (1 + bytes.length) 0) s := by
      by_cases hb : s.supply.power = .battery
      · exact memoryFrame_battery ha hb _ _
      · rw [memoryFrame, beginFrame_of_noFrame hf hb]
        match bytes, hn with
        | [], _ => simp [frameBytes, endFrame, answerFrame, onLink, inProgress, hb]
        | [v], _ =>
          rw [frameBytes, frameByte_high hb]
          simp [endFrame, answerFrame, onLink, inProgress, hb]
    rw [exec_readMemory ha _ (by rw [hframe]; exact ha), hframe]
  case address =>
    have hframe := memoryFrame_addressed (write := false) ha hf hb hi lo rest more
    have hstanding : (standing false (some [0, 0, 0]) (.data (frameAddress hi lo)) s).agenda = [] := ha
    have hsides : arrival (memoryFrame false ⟨hi :: lo :: rest, more⟩) s =
        arrival (memoryFrame false ⟨rest, more⟩) (standing false (some [0, 0, 0]) (.data (frameAddress hi lo)) s) := by
      rw [arrival_of_idle ha, arrival_of_idle hstanding, hframe]
    exact congrArg _ hsides
  case piece =>
    have hstands := standing_of_inFrame hin
    obtain ⟨-, hlt, hb⟩ := hin
    have hframe : memoryFrame false ⟨rest, more⟩ s = { s with link :=
        ⟨s.link.out.map (· ++ (List.range rest.length).map (foundAt s a)),
          if more then some ⟨false, .data ((a + rest.length) % 65536)⟩ else none⟩ } := by
      rw [memoryFrame, ← hstands, beginFrame_standing hb, frameBytes_read ha hb hlt]
      cases more <;> rfl
    rw [hfound] at hframe
    rw [exec_readMemory ha _ (by rw [hframe]; exact ha), hframe]

end Sys2Proof.Proofs
end

section
/-! SUPPORT. Written bytes (R3, R5, R7): those that are stored, those that are ignored, and the byte that posts an entry. -/

namespace Sys2Proof.Proofs
open Sys2Proof.Machine Sys2Proof.Safety

variable {s t u : State} {out : Option (List Byte)} {a n : Nat}

/-! ## What due steps leave of the link -/

theorem withWork_link {f : Work → State → State} (hf : ∀ w s, (f w s).link = s.link) (s : State) :
    (withWork f s).link = s.link := by
  unfold withWork
  split
  · rfl
  · split_ifs
    · exact hf _ s
    · rfl

theorem runDue_link (h : s.supply.power ≠ .start) (d : Due) : (runDue d s).link = s.link := by
  cases d with
  | startReady => simp only [runDue, enterMains, if_neg h]
  | catchUp => rfl
  | token | reconnect | emergency | timeSet | calendarSubmit | windowCloseDiscard | windowCloseCommit
  | windowClosePayloadRange | flagClear | kindUnknown => exact withWork_link (fun w s => by simp) s
  | _ => simp [runDue]

theorem runUntil_link (stop : Due → Bool) (fuel : Nat) (h : s.supply.power ≠ .start) :
    (runUntil stop fuel s).link = s.link := by
  induction fuel generalizing s with
  | zero => rfl
  | succ fuel ih =>
    unfold runUntil
    split
    · rfl
    · next d rest _ =>
      split_ifs
      · rfl
      · have hpower : (onAgenda (fun _ => rest) s).supply.power ≠ .start := h
        have hnext : (runDue d (onAgenda (fun _ => rest) s)).supply.power ≠ .start := by
          rw [(runDue_keepsAttention hpower d).power]
          exact h
        rw [ih hnext, runDue_link hpower]
        rfl

theorem settle_link (h : s.supply.power ≠ .start) : (settle s).link = s.link := runUntil_link _ _ h

/-! ## One written byte -/

theorem exec_writeMemory (ha : s.agenda = []) (piece : FramePiece) :
    exec (.writeMemory piece) s = .next (advance (memoryFrame true piece s)) :=
  congrArg _ (arrival_of_idle ha _)

/-- A host byte leaves a row of the table next, or nothing due. -/
theorem hostByte_head_isRow (a : Nat) (v : Byte) (h : ∀ d ∈ s.agenda.head?, d.isRow = true) :
    ∀ d ∈ (hostByte a v s).agenda.head?, d.isRow = true := by
  unfold hostByte
  dsimp only
  split_ifs
  · exact h
  · exact hostOwnerByte_head_isRow _ v h
  all_goals exact h

/-- In START no host byte has an effect (R6). -/
theorem hostByte_of_unwritable (h : memoryWritable s = false) (a : Nat) (v : Byte) : hostByte a v s = s := by
  simp [hostByte, h]

/-- The state behind a frame's next data byte. -/
def written (a : Nat) (v : Byte) (s : State) : State :=
  hostByte a v (standing true (s.link.out.map (· ++ [0])) (.data ((a + 1) % 65536)) s)

theorem frameByte_written_of_inFrame (hin : InFrame true a s) (v : Byte) : frameByte true v s = written a v s := by
  have hstands := standing_of_inFrame hin
  obtain ⟨-, -, hb⟩ := hin
  have hbyte := frameByte_standing (write := true) (out := s.link.out) (a := a) hb v
  rwa [hstands, if_pos rfl] at hbyte

theorem beginFrame_of_inFrame (hin : InFrame true a s) : beginFrame true s = s := by
  have hstands := standing_of_inFrame hin
  obtain ⟨-, -, hb⟩ := hin
  rw [← hstands, beginFrame_standing hb]

/-- What is due behind the byte leaves the frame where it stands. -/
theorem settle_written (ha : s.agenda = []) (hin : InFrame true a s) (v : Byte) :
    InFrame true ((a + 1) % 65536) (settle (written a v s)) := by
  obtain ⟨-, -, hb⟩ := hin
  have hlink : (written a v s).link = ⟨s.link.out.map (· ++ [0]), some ⟨true, .data ((a + 1) % 65536)⟩⟩ := by
    simp [written, standing, onLink]
  have hpower : (written a v s).supply.power = s.supply.power := by simp [written, standing]
  have hkeeps : (settle (written a v s)).link = (written a v s).link ∧
      (settle (written a v s)).supply.power = s.supply.power := by
    by_cases hs : s.supply.power = .start
    · have hidle : (written a v s).agenda = [] := by
        rw [written, hostByte_of_unwritable (by simp [memoryWritable, standing, hs])]
        exact ha
      rw [settle_of_idle hidle]
      exact ⟨rfl, hpower⟩
    · have hs' : (written a v s).supply.power ≠ .start := by rwa [hpower]
      exact ⟨settle_link hs', (settle_keepsAttention hs').power.trans hpower⟩
  obtain ⟨hsame, hon⟩ := hkeeps
  exact ⟨by rw [hsame, hlink], Nat.mod_lt _ (by omega), by rwa [hon]⟩

/-- A frame splits behind its first data byte: that byte is an arrival of its own. -/
theorem frame_splits (ha : s.agenda = []) (hin : InFrame true a s) (v : Byte) :
    exec (.writeMemory ⟨[v], true⟩) s = .next (written a v s) ∧
      (written a v s).link = ⟨s.link.out.map (· ++ [0]), some ⟨true, .data ((a + 1) % 65536)⟩⟩ ∧
      ∀ rest more, rest ≠ [] →
        exec (.writeMemory ⟨v :: rest, more⟩) s = exec (.writeMemory ⟨rest, more⟩) (written a v s) := by
  have hbyte := frameByte_written_of_inFrame hin v
  have hbegin := beginFrame_of_inFrame hin
  refine ⟨?_, by simp [written, standing, onLink], fun rest more hne => ?_⟩
  · have hframe : memoryFrame true ⟨[v], true⟩ s = written a v s := by
      rw [memoryFrame, hbegin]
      exact hbyte
    rw [exec_writeMemory ha, hframe, advance_of_row]
    exact hostByte_head_isRow _ _ (by simp [standing, ha])
  · obtain ⟨w, ws, rfl⟩ := List.exists_cons_of_ne_nil hne
    have hframe : memoryFrame true ⟨v :: w :: ws, more⟩ s =
        memoryFrame true ⟨w :: ws, more⟩ (settle (written a v s)) := by
      rw [memoryFrame, memoryFrame, hbegin, beginFrame_of_inFrame (settle_written ha hin v), frameBytes, hbyte]
    rw [exec_writeMemory ha, hframe]
    rfl

/-! ## Bytes that are stored (R5, R7) -/

/-- Written bytes from `a` on are stored: they lie in the body of a slot that reads EMPTY, or in the calendar image while no
CALENDAR_SUBMIT entry is in work. -/
def StoresAt (s : State) (a len : Nat) : Prop :=
  (∃ n, n < 16 ∧ slotBase n < a ∧ a + len ≤ slotBase n + 64 ∧ ownerOf s.mem n = ownerEmpty) ∨
    (0x800 ≤ a ∧ a + len ≤ 0xC00 ∧ ∀ w, s.intake.work = some w → w.kind ≠ 5)

/-- The slot of an address in its body. -/
theorem slot_of_address (h1 : slotBase n < a) (h2 : a < slotBase n + 64) :
    (a - 0x0200) / 64 = n ∧ (a - 0x0200) % 64 ≠ 0 := by
  unfold slotBase at h1 h2
  omega

theorem hostByte_body (hn : n < 16) (h1 : slotBase n < a) (h2 : a < slotBase n + 64) (v : Byte) : hostByte a v s =
    if memoryWritable s = true ∧ ownerOf s.mem n = ownerEmpty then onMem (fun m => m.write a v) s else s := by
  obtain ⟨hindex, hbody⟩ := slot_of_address h1 h2
  have hslots : inSlots a = true := by
    unfold slotBase at h1 h2
    simp only [inSlots, Bool.and_eq_true, decide_eq_true_eq]
    omega
  simp only [hostByte, hslots, hindex, hbody, if_true, if_false]
  cases memoryWritable s <;> simp

theorem imageLocked_iff (s : State) : imageLocked s = true ↔ ∃ w, s.intake.work = some w ∧ w.kind = 5 := by
  unfold imageLocked
  cases s.intake.work <;> simp

theorem hostByte_image (h1 : 0x800 ≤ a) (h2 : a < 0xC00) (v : Byte) : hostByte a v s =
    if memoryWritable s = true ∧ imageLocked s = false then onMem (fun m => m.write a v) s else s := by
  have hslots : inSlots a = false := by
    simp only [inSlots, Bool.and_eq_false_iff, decide_eq_false_iff_not]
    omega
  have himage : inImage a = true := by simp [inImage, h1, h2]
  simp only [hostByte, hslots, himage, if_true, Bool.false_eq_true, if_false]
  cases memoryWritable s <;> cases imageLocked s <;> simp

theorem StoresAt.hostByte {k : Nat} (h : StoresAt s a (k + 1)) (hw : memoryWritable s = true) (v : Byte) :
    Machine.hostByte a v s = onMem (fun m => m.write a v) s := by
  rcases h with ⟨n, hn, h1, h2, ho⟩ | ⟨h1, h2, hk⟩
  · rw [hostByte_body hn h1 (by omega), if_pos ⟨hw, ho⟩]
  · have hunlocked : imageLocked s = false := by
      rw [← Bool.not_eq_true, imageLocked_iff]
      rintro ⟨w, hwork, h5⟩
      exact hk w hwork h5
    rw [hostByte_image h1 (by omega), if_pos ⟨hw, hunlocked⟩]

theorem StoresAt.next {k : Nat} (h : StoresAt s a (k + 1)) (v : Byte) :
    StoresAt (onMem (fun m => m.write a v) s) (a + 1) k := by
  rcases h with ⟨n, hn, h1, h2, ho⟩ | ⟨h1, h2, hk⟩
  · refine .inl ⟨n, hn, by omega, by omega, ?_⟩
    rw [← ho]
    exact Memory.read_write_other _ _ (by omega)
  · exact .inr ⟨by omega, by omega, hk⟩

/-- Bytes stored one after another from an address on. -/
def storeBytes : Memory → Nat → List Byte → Memory
  | m, _, [] => m
  | m, a, v :: vs => storeBytes (m.write a v) (a + 1) vs

theorem read_storeBytes (m : Memory) (hm : m.wf = true) (a : Nat) (vs : List Byte) (b : Nat) :
    (storeBytes m a vs).read b = if a ≤ b ∧ b < a + vs.length then vs.getD (b - a) 0 else m.read b := by
  induction vs generalizing m a with
  | nil =>
    rw [storeBytes, if_neg]
    simp only [List.length_nil]
    omega
  | cons v vs ih =>
    rw [storeBytes, ih _ (Memory.wf_write hm a v), List.length_cons]
    by_cases hbelow : a + 1 ≤ b ∧ b < a + 1 + vs.length
    · obtain ⟨hb1, hb2⟩ := hbelow
      have hback : b - a = b - (a + 1) + 1 := by omega
      rw [if_pos ⟨hb1, hb2⟩, if_pos (by omega), hback, List.getD_cons_succ]
    · rw [if_neg hbelow]
      by_cases hat : b = a
      · rw [hat, if_pos (by omega), Nat.sub_self, List.getD_cons_zero, Memory.read_write_same hm]
      · rw [if_neg (by omega), Memory.read_write_other _ _ hat]

theorem StoresAt.frameBytes (vs : List Byte) (h : StoresAt s a vs.length) (ha : s.agenda = []) (hw : memoryWritable s = true)
    (o : List Byte) : ∃ p, Machine.frameBytes true vs (standing true (some o) (.data a) s) =
      standing true (some (o ++ List.replicate vs.length 0)) p (onMem (fun m => storeBytes m a vs) s) := by
  induction vs generalizing s a o with
  | nil => exact ⟨.data a, by simp [Machine.frameBytes, storeBytes, standing, onMem]⟩
  | cons v vs ih =>
    have hb := ne_battery_of_writable hw
    have hbyte := frameByte_standing (write := true) (out := some o) (a := a) hb v
    have hlt : a + 1 < 65536 := by
      rcases h with ⟨n, hn, h1, h2, ho⟩ | ⟨h1, h2, hk⟩
      · unfold slotBase at h2
        simp only [List.length_cons] at h2
        omega
      · simp only [List.length_cons] at h2
        omega
    have hstores : StoresAt (standing true (some (o ++ [0])) (.data (a + 1)) s) a (vs.length + 1) := h
    rw [if_pos rfl, Nat.mod_eq_of_lt hlt, Option.map_some, hstores.hostByte hw] at hbyte
    obtain ⟨p, hp⟩ := ih (StoresAt.next h v) ha hw (o ++ [0])
    refine ⟨p, ?_⟩
    rw [frameBytes_cons (by rw [hbyte]; exact ha), hbyte]
    refine hp.trans ?_
    rw [List.length_cons, List.replicate_succ, List.append_assoc]
    rfl

/-- Settles O16: the address, the split behind the first data byte, and the stored bytes one after another. -/
theorem writtenBytesAreStored : Obligations.WrittenBytesAreStored := by
  refine ⟨fun hi lo data more s ha hf hb => ?_, fun v rest more a s ha hin => ?_, fun hi lo data s ha hf hwf hp => ?_⟩
  · have hstanding : (standing true (some [0, 0, 0]) (.data (frameAddress hi lo)) s).agenda = [] := ha
    rw [exec_writeMemory ha, memoryFrame_addressed ha hf hb, ← exec_writeMemory hstanding]
    rfl
  · obtain ⟨hexec, hlink, hrest⟩ := frame_splits ha hin v
    exact ⟨_, hexec, hlink, hrest rest more⟩
  · intro a hplace
    have hw := (memoryWritable_iff s).mpr hp
    have hb := ne_battery_of_writable hw
    have hstores : StoresAt s a data.length := hplace
    obtain ⟨p, hbytes⟩ := hstores.frameBytes data ha hw [0, 0, 0]
    have hframe : memoryFrame true ⟨hi :: lo :: data, false⟩ s =
        onLink (fun _ => ⟨some (List.replicate (3 + data.length) 0), none⟩) (onMem (fun m => storeBytes m a data) s) := by
      rw [memoryFrame_addressed ha hf hb, memoryFrame, beginFrame_standing hb]
      refine (congrArg (endFrame false) hbytes).trans ?_
      have hzeros : [0, 0, 0] ++ List.replicate data.length (0 : Byte) = List.replicate (3 + data.length) 0 := by
        rw [List.replicate_add]
        rfl
      rw [hzeros]
      rfl
    refine ⟨_, exec_writeMemory ha _, ?_⟩
    rw [hframe, advance_of_idle (by exact ha)]
    exact ⟨sameExcept_trans (onMem_sameExcept (by simp) _ _) (onLink_sameExcept (by simp) _ _), rfl,
      read_storeBytes s.mem hwf a data⟩

/-! ## Bytes that are ignored (R4 to R7) -/

/-- A written byte for this address changes nothing. -/
def IgnoresAt (s : State) (a : Nat) : Prop := ∀ v f, hostByte a v (onLink f s) = onLink f s

/-- A part-owned place, and one above the memory map. -/
theorem hostByte_apart (h : inPages a = true ∨ 0x1400 ≤ a) (v : Byte) : hostByte a v s = s := by
  have hplace : inSlots a = false ∧ inImage a = false := by
    simp only [inPages, inSlots, inImage, Bool.or_eq_true, Bool.and_eq_true, decide_eq_true_eq, Bool.and_eq_false_iff,
      decide_eq_false_iff_not] at h ⊢
    omega
  simp [hostByte, hplace.1, hplace.2]

theorem ignoresAt_of_place (h : inPages a = true ∨ 0x1400 ≤ a ∨
    (∃ n, n < 16 ∧ slotBase n < a ∧ a < slotBase n + 64 ∧ ownerOf s.mem n ≠ ownerEmpty) ∨
    (0x800 ≤ a ∧ a < 0xC00 ∧ ∃ w, s.intake.work = some w ∧ w.kind = 5)) : IgnoresAt s a := by
  intro v f
  rcases h with h | h | ⟨n, hn, h1, h2, ho⟩ | ⟨h1, h2, hk⟩
  · exact hostByte_apart (.inl h) v
  · exact hostByte_apart (.inr h) v
  · rw [hostByte_body hn h1 h2, if_neg]
    exact fun hc => ho hc.2
  · rw [hostByte_image h1 h2, if_neg]
    rintro ⟨-, hunlocked⟩
    have hlocked := (imageLocked_iff (onLink f s)).mpr hk
    rw [hunlocked] at hlocked
    exact absurd hlocked (by decide)

theorem ignoresAt_of_start (h : s.supply.power = .start) (a : Nat) : IgnoresAt s a := fun v f =>
  hostByte_of_unwritable (by simp [memoryWritable, h]) a v

theorem frameBytes_ignored (vs : List Byte) (ha : s.agenda = []) (hb : s.supply.power ≠ .battery) (hlt : a < 65536)
    (h : ∀ k, k < vs.length → IgnoresAt s ((a + k) % 65536)) (o : List Byte) :
    ∃ p, frameBytes true vs (standing true (some o) (.data a) s) =
      standing true (some (o ++ List.replicate vs.length 0)) p s := by
  induction vs generalizing a o with
  | nil => exact ⟨.data a, by simp [frameBytes]⟩
  | cons v vs ih =>
    have hbyte := frameByte_standing (write := true) (out := some o) (a := a) hb v
    have hfirst : IgnoresAt s a := by
      have h0 := h 0 (by simp)
      rwa [Nat.add_zero, Nat.mod_eq_of_lt hlt] at h0
    have hignored : hostByte a v (standing true (some (o ++ [0])) (.data ((a + 1) % 65536)) s)
        = standing true (some (o ++ [0])) (.data ((a + 1) % 65536)) s := hfirst v _
    rw [if_pos rfl, Option.map_some, hignored] at hbyte
    obtain ⟨p, hp⟩ := ih (a := (a + 1) % 65536) (Nat.mod_lt _ (by omega)) (fun k hk => by
      have hnext := h (k + 1) (by simpa using hk)
      have hplace : ((a + 1) % 65536 + k) % 65536 = (a + (k + 1)) % 65536 := by omega
      rwa [hplace]) (o ++ [0])
    refine ⟨p, ?_⟩
    rw [frameBytes_cons (by rw [hbyte]; exact ha), hbyte]
    refine hp.trans ?_
    rw [List.length_cons, List.replicate_succ, List.append_assoc]
    rfl

theorem exec_answered (ha : s.agenda = []) {c : Instr} {f : State → State} {bytes : List Byte}
    (hexec : ∀ u, exec c u = .next (arrival f u)) (hf : f s = answerFrame bytes s) :
    exec c s = .next (answerFrame bytes s) := by
  rw [hexec, arrival_of_idle ha, hf, advance_of_idle (by exact ha)]

/-- Settles O17: every byte of the frame is ignored where it goes, and the register frames find nothing to write. -/
theorem writtenBytesAreIgnored : Obligations.WrittenBytesAreIgnored := by
  refine ⟨fun hi lo data s ha hf h => ?ignored, fun bytes s ha hf hn => ?short, fun data s ha h => ?registers,
    fun bytes s ha => ⟨exec_answered ha (fun _ => rfl) rfl, exec_answered ha (fun _ => rfl) rfl⟩⟩
  case ignored =>
    refine exec_answered (c := .writeMemory _) ha (fun _ => rfl) ?_
    by_cases hb : s.supply.power = .battery
    · exact memoryFrame_battery ha hb _ _
    have hplaces : ∀ k, k < data.length → IgnoresAt s ((frameAddress hi lo + k) % 65536) := by
      rcases h with h | h | h
      · exact fun k _ => ignoresAt_of_start h _
      · exact absurd h hb
      · exact fun k hk => ignoresAt_of_place (h k hk)
    obtain ⟨p, hp⟩ := frameBytes_ignored data ha hb (frameAddress_lt hi lo) hplaces [0, 0, 0]
    rw [memoryFrame_addressed ha hf hb, memoryFrame, beginFrame_standing hb]
    refine (congrArg (endFrame false) hp).trans ?_
    have hzeros : [0, 0, 0] ++ List.replicate data.length (0 : Byte) = List.replicate (3 + data.length) 0 := by
      rw [List.replicate_add]
      rfl
    rw [hzeros]
    simp [endFrame, answerFrame, standing, onLink, hb]
  case short =>
    refine exec_answered (c := .writeMemory _) ha (fun _ => rfl) ?_
    by_cases hb : s.supply.power = .battery
    · exact memoryFrame_battery ha hb _ _
    · rw [memoryFrame, beginFrame_of_noFrame hf hb]
      match bytes, hn with
      | [], _ => simp [frameBytes, endFrame, answerFrame, onLink, inProgress, hb]
      | [v], _ =>
        rw [frameBytes, frameByte_high hb]
        simp [endFrame, answerFrame, onLink, inProgress, hb]
  case registers =>
    have hnone : clearAttention data s = s ∧ replaceMask data s = s := by
      cases data with
      | nil => exact ⟨rfl, rfl⟩
      | cons v vs =>
        have hoff : registerWritable s = false := by
          rcases h with h | h | h
          · simp [registerWritable, memoryWritable, h]
          · simp [registerWritable, memoryWritable, h]
          · simp at h
        simp [clearAttention, replaceMask, hoff]
    exact ⟨exec_answered (c := .writeAttention data) ha (fun _ => rfl) (by rw [hnone.1]; rfl),
      exec_answered (c := .writeAttentionMask data) ha (fun _ => rfl) (by rw [hnone.2]; rfl)⟩

/-! ## Posting (R8, R10) -/

/-- The state with a slot posted at the tail of the list, before the intake looks at it. -/
def posted (n : Nat) (s : State) : State :=
  onMem (fun m => m.write (slotBase n) ownerPosted) (onIntake (fun i => { i with list := i.list ++ [n] }) s)

/-- Settles O18: the byte appends its slot, and the intake takes the head of its list where it may. -/
theorem postingAnEntry : Obligations.PostingAnEntry := by
  intro hi lo n s ha hf hwf hp hn haddr ho
  have hw : memoryWritable s = true := (memoryWritable_iff s).mpr (.inl hp)
  have hexec := exec_writeOwnerByte ha hf (ne_battery_of_writable hw) hn haddr ownerPosted
  rw [if_pos hw, hostOwnerByte_post ho hp] at hexec
  have hquiet (h : s.intake.work ≠ none ∨ s.intake.ready = false) : takeNext (posted n s) = posted n s := by
    rcases takeNext_cases (posted n s) with ⟨m, rest, -, hwork, hready, -⟩ | ht
    · rcases h with h | h
      · exact absurd hwork h
      · have hclosed : (posted n s).intake.ready = false := h
        rw [hready] at hclosed
        exact absurd hclosed (by decide)
    · exact ht
  have htakes (hwork : s.intake.work = none) (hready : s.intake.ready = true) (hlist : s.intake.list = []) :=
    takeNext_of_head (s := posted n s) (n := n) (rest := []) hwork hready (by simp [posted, hlist])
  have hbody : takenWork (posted n s).mem n = ⟨n, s.mem.readBytes (slotBase n + 1) 63, .handed⟩ := by
    simp only [takenWork, posted]
    exact congrArg (Work.mk n · .handed) (readBytes_write_other _ _ (by omega))
  refine ⟨onLink wroteOne (takeNext (posted n s)), hexec, ?_, fun h => ?_, fun h => ?_, fun hwork hready hlist => ?_⟩
  · rw [sameExcept_iff]
    simp [posted]
  · intro b hne
    have hother : (takeNext (posted n s)).mem.read b = (posted n s).mem.read b := by
      rcases h with h | h | h
      · rw [hquiet (.inl h)]
      · rw [hquiet (.inr h)]
      · refine read_takeNext_other fun m hm => ?_
        have hone : m = n := by simpa [posted, h] using hm
        rw [hone]
        exact hne.symm
    exact hother.trans (Memory.read_write_other _ _ hne)
  · rw [hquiet h]
    exact ⟨ownerOf_write_same hwf n _, ha, rfl⟩
  · rw [htakes hwork hready hlist, hbody]
    refine ⟨ownerOf_write_same (Memory.wf_write hwf _ _) n _, ?_, ?_⟩
    · simp [posted, dueFirst, hready]
    · simp [posted, dueFirst, ha]

end Sys2Proof.Proofs
end

section
/-! SUPPORT. Day ends: what the derivations that follow one another have told, what `n` day ends leave, and how far a catch-up
comes (R55, R56, R64 to R66). -/

namespace Sys2Proof.Proofs
open Sys2Proof.Machine Sys2Proof.Safety

variable {s t u v : State} {j k n : Nat}

/-! ## Derivations that follow one another -/

/-- The derived state of the credit engine differs (R88). -/
def Derivedly (s t : State) : Prop :=
  t.credit.ecState ≠ s.credit.ecState ∨ t.credit.lowCredit ≠ s.credit.lowCredit ∨ t.credit.reason ≠ s.credit.reason

/-- What any number of derivations and evaluations between `s` and `t` have told the switch controller and the host. -/
structure CreditFed (s t : State) : Prop where
  due : Derivedly s t → t.attn.due.getLsbD 2 = true
  stands : DueStands s t
  reasons : t.switch.reasons = { s.switch.reasons with credit := t.switch.reasons.credit }
  handed : handing s = true → s.switch.reasons.credit = s.credit.reason → t.switch.reasons.credit = t.credit.reason
  acting : s.switch.acting = actingSet s → t.switch.acting = actingSet t
  handing : handing t = handing s

theorem CreditFed.told (h : CreditFed s t) : CreditTold s t := fun hchange => marks_of_due (h.due hchange)

theorem CreditFed.trans (h : CreditFed s t) (k : CreditFed t u) : CreditFed s u where
  due hchange := by
    by_cases hlater : Derivedly t u
    · exact k.due hlater
    · simp only [Derivedly, not_or, not_not] at hlater
      obtain ⟨hec, hlow, hreason⟩ := hlater
      refine k.stands 2 (h.due ?_)
      rwa [Derivedly, hec, hlow, hreason] at hchange
  stands := h.stands.trans k.stands
  reasons := by rw [k.reasons, h.reasons]
  handed hh hr := k.handed (h.handing.trans hh) (h.handed hh hr)
  acting hs := k.acting (h.acting hs)
  handing := k.handing.trans h.handing

/-- Nothing is told where the derived state, the switch controller and the settings stand. -/
theorem creditFed_of_same (hec : t.credit.ecState = s.credit.ecState) (hlow : t.credit.lowCredit = s.credit.lowCredit)
    (hreason : t.credit.reason = s.credit.reason) (hswitch : t.switch = s.switch) (hsettings : t.settings = s.settings)
    (hdue : DueStands s t) (hhanding : Machine.handing t = Machine.handing s) : CreditFed s t where
  due hchange := by
    rcases hchange with h | h | h
    · exact absurd hec h
    · exact absurd hlow h
    · exact absurd hreason h
  stands := hdue
  reasons := by rw [hswitch]
  handed _ hr := by rw [hswitch, hreason, hr]
  acting hs := by
    have hsame := sets_congr (s := s) (t := t) (by rw [hswitch]) (by rw [hswitch]) (by rw [hswitch]) hsettings
    rw [hswitch, hsame.2.1, hs]
  handing := hhanding

theorem CreditFed.refl (s : State) : CreditFed s s := creditFed_of_same rfl rfl rfl rfl rfl (.refl s) rfl

theorem evaluate_acting (s : State) : (evaluate s).switch.acting = actingSet (evaluate s) := (evaluate_evaluated s).acting

theorem handReason_acting (r : Governing) (on : Bool) (h : s.switch.acting = actingSet s) :
    (handReason r on s).switch.acting = actingSet (handReason r on s) := by
  unfold handReason
  split_ifs
  · exact h
  · exact evaluate_acting _

theorem deriveCredit_friendly (s : State) : (deriveCredit s).switch.friendly = s.switch.friendly := by
  have hhand (r : Governing) (on : Bool) (u : State) : (handReason r on u).switch.friendly = u.switch.friendly := by
    unfold handReason
    split_ifs
    · rfl
    · exact (evaluate_evaluated (setReason r on u)).inputs.2.1
  unfold deriveCredit
  dsimp only
  split_ifs
  · exact hhand _ _ _
  · exact hhand _ _ _
  · rfl
  · rfl

theorem deriveCredit_fed (s : State) : CreditFed s (deriveCredit s) where
  due hchange := by
    refine deriveCredit_due fun heq => ?_
    rw [Derivedly, deriveCredit_credit, heq] at hchange
    rcases hchange with h | h | h <;> exact h rfl
  stands := deriveCredit_stands s
  reasons := by
    rw [deriveCredit_reasons]
    split_ifs <;> rfl
  handed hh hr := by
    rw [deriveCredit_reasons, deriveCredit_credit, hh, Bool.and_true]
    by_cases hchange : (derivedCredit s).reason = s.credit.reason
    · simp [hchange, hr]
    · simp [hchange, Reasons.put]
  acting h := by
    have hsame (u : State) (hsw : u.switch = s.switch) (hset : u.settings = s.settings) :
        u.switch.acting = actingSet u := by
      have hsets := sets_congr (s := s) (t := u) (by rw [hsw]) (by rw [hsw]) (by rw [hsw]) hset
      rw [hsw, hsets.2.1, h]
    unfold deriveCredit
    dsimp only
    split_ifs
    · exact handReason_acting _ _ (hsame _ (by simp [deriveQuietly]) (by simp [deriveQuietly]))
    · exact handReason_acting _ _ (hsame _ (by simp [deriveQuietly]) (by simp [deriveQuietly]))
    · exact hsame _ (by simp [deriveQuietly]) (by simp [deriveQuietly])
    · exact hsame _ (by simp [deriveQuietly]) (by simp [deriveQuietly])
  handing := handing_congr (by simp) (by simp)

theorem evaluateFriendly_fed (s : State) : CreditFed s (evaluateFriendly s) := by
  unfold evaluateFriendly
  split_ifs
  case neg => exact .refl s
  case pos =>
    have hinputs := (evaluate_evaluated (onSwitch (fun x => { x with friendly := friendlyState s }) s)).inputs
    have hreasons : (handFriendly (friendlyState s) s).switch.reasons = s.switch.reasons := hinputs.1
    have hcredit : (handFriendly (friendlyState s) s).credit = s.credit := by simp
    exact
      { due := fun hchange => by simp [Derivedly] at hchange
        stands := .trans (dueStands_of_eq rfl) (evaluate_stands (onSwitch (fun x => { x with friendly := friendlyState s }) s))
        reasons := by rw [hreasons]
        handed := fun _ hr => by rw [hreasons, hcredit, hr]
        acting := fun _ => evaluate_acting _
        handing := handing_congr (by simp) (by simp) }

/-! ## Day ends (R56, R64, R65) -/

/-- One day end in the engine's own state is that of R64 and R65. -/
theorem dayEnd_eq (standing daily : Nat) (x : Credit) : x.dayEnd standing daily =
    { x with
      account := dayEnded x.account standing daily
      lastDayEnd := ⟨standing, (dayEnded x.account standing daily).recoveredDaily - x.account.recoveredDaily⟩ } := by
  have hfloor (b : Int) : max (-9999999999) b = if b < -9999999999 then -9999999999 else b := by omega
  simp [Credit.dayEnd, recoverAccount, standAccount, takeCharge, dailyRecovery, dayEnded, shortfall,
    Config.balanceLimit, hfloor]

/-- Day ends have come about one after another: beside what `DaysEnded` says, that the bits due stand, what a further day end
reads, and the friendly state. -/
structure DaysRun (s t : State) (n : Nat) : Prop extends CreditFed s t where
  decoder : t.decoder = { s.decoder with badCount := if 0 < n then 0 else s.decoder.badCount }
  none : n = 0 → t.credit = s.credit
  credit : 0 < n →
    let x := afterDays n s.book.active.standing s.settings.debtDaily s.credit.account s.credit.lastDayEnd
    t.credit = derivedOf s.settings s.credit x.1 x.2
  active : t.book.active = s.book.active
  settings : t.settings = s.settings
  friendly : t.switch.friendly = s.switch.friendly

theorem DaysRun.ended (h : DaysRun s t n) : DaysEnded s t n :=
  ⟨h.decoder, h.none, h.credit, h.told, h.reasons, h.handed, h.acting⟩

theorem afterDays_add (standing daily : Nat) (a : Account) (last : LastDayEnd) :
    afterDays (j + k) standing daily a last =
      afterDays k standing daily (afterDays j standing daily a last).1 (afterDays j standing daily a last).2 := by
  simp only [afterDays, Nat.add_comm j k, Function.iterate_add_apply]

/-- The account and the last day end that a catch-up leaves, whether it had a day end or not. -/
theorem DaysRun.account (h : DaysRun s t n) : (t.credit.account, t.credit.lastDayEnd) =
    afterDays n s.book.active.standing s.settings.debtDaily s.credit.account s.credit.lastDayEnd := by
  rcases Nat.eq_zero_or_pos n with hn | hn
  · rw [h.none hn, hn]
    rfl
  · rw [h.credit hn]
    rfl

theorem DaysRun.trans (h : DaysRun s t j) (i : DaysRun t u k) : DaysRun s u (j + k) where
  toCreditFed := h.toCreditFed.trans i.toCreditFed
  decoder := by
    rw [i.decoder, h.decoder]
    by_cases hj : 0 < j
    · simp [hj, Nat.add_pos_left hj]
    · rw [Nat.eq_zero_of_not_pos hj, Nat.zero_add]
      rfl
  none hn := by rw [i.none (by omega), h.none (by omega)]
  credit hn := by
    have haccount := h.account
    rcases Nat.eq_zero_or_pos k with hk | hk
    · rw [i.none hk, hk]
      exact h.credit (by omega)
    · have hlater := i.credit hk
      rw [hlater, h.active, h.settings, afterDays_add, ← haccount]
      rcases Nat.eq_zero_or_pos j with hj | hj
      · rw [h.none hj]
      · rw [h.credit hj]
        rfl
  active := i.active.trans h.active
  settings := i.settings.trans h.settings
  friendly := i.friendly.trans h.friendly

/-- A step that changes nothing that a day end reads or writes, but the last charged local date and the model's count. -/
theorem daysRun_none (hcredit : t.credit = s.credit) (hdecoder : t.decoder = s.decoder) (hswitch : t.switch = s.switch)
    (hsettings : t.settings = s.settings) (hactive : t.book.active = s.book.active) (hdue : DueStands s t)
    (hhanding : Machine.handing t = Machine.handing s) : DaysRun s t 0 where
  toCreditFed := creditFed_of_same (by rw [hcredit]) (by rw [hcredit]) (by rw [hcredit]) hswitch hsettings hdue hhanding
  decoder := by rw [hdecoder]; rfl
  none _ := hcredit
  credit hn := absurd hn (by omega)
  active := hactive
  settings := hsettings
  friendly := by rw [hswitch]

theorem DaysRun.refl (s : State) : DaysRun s s 0 := daysRun_none rfl rfl rfl rfl rfl (.refl s) rfl

theorem issueDayEnd_run (s : State) : DaysRun s (issueDayEnd s) 1 := by
  let u : State := onCredit (Credit.dayEnd s.book.active.standing s.settings.debtDaily)
    (onBook (fun x => { x with lastCharged := x.lastCharged.map (· + 1) }) s)
  have hissue : issueDayEnd s = onCatchUp (fun x => { x with issued := x.issued + 1 })
      (onDecoder (fun x => { x with badCount := 0 }) (deriveCredit u)) := rfl
  have hdays : CreditFed s u := creditFed_of_same rfl rfl rfl rfl rfl (dueStands_of_eq rfl) rfl
  have hbehind : CreditFed (deriveCredit u) (issueDayEnd s) := by
    rw [hissue]
    exact creditFed_of_same rfl rfl rfl rfl rfl (dueStands_of_eq rfl) rfl
  have hcredit : (issueDayEnd s).credit = derivedCredit u := deriveCredit_credit u
  refine ⟨(hdays.trans (deriveCredit_fed u)).trans hbehind, ?_, fun h => absurd h (by decide), fun _ => ?_, ?_, by simp, ?_⟩
  · simp [hissue, u]
  · rw [hcredit]
    simp only [u, derivedCredit, onCredit_credit, onBook_keeps, onCredit_keeps, dayEnd_eq, afterDays, derivedOf,
      Function.iterate_one, lowCreditOf, creditReasonOf]
  · simp [hissue, u]
  · exact deriveCredit_friendly u

theorem dayEnds_run (n : Nat) (s : State) : DaysRun s (dayEnds n s) n := by
  induction n generalizing s with
  | zero => exact .refl s
  | succ n ih =>
    have hrun : DaysRun s (dayEnds n (issueDayEnd s)) (1 + n) := (issueDayEnd_run s).trans (ih (issueDayEnd s))
    rwa [Nat.add_comm] at hrun

theorem issueDayEnd_book (s : State) :
    (issueDayEnd s).book = { s.book with lastCharged := s.book.lastCharged.map (· + 1) } := by
  simp [issueDayEnd]

theorem issueDayEnd_catchUp (s : State) : (issueDayEnd s).catchUp = { s.catchUp with issued := s.catchUp.issued + 1 } := by
  simp [issueDayEnd]

theorem dayEnds_book (n : Nat) (s : State) :
    (dayEnds n s).book = { s.book with lastCharged := s.book.lastCharged.map (· + n) } := by
  induction n generalizing s with
  | zero => cases h : s.book; simp [dayEnds, h]
  | succ n ih =>
    rw [dayEnds, ih, issueDayEnd_book]
    cases hd : s.book.lastCharged with
    | none => rfl
    | some d =>
      simp only [Option.map_some, CalendarBook.mk.injEq, true_and, Option.some.injEq]
      omega

theorem dayEnds_catchUp (n : Nat) (s : State) :
    (dayEnds n s).catchUp = { s.catchUp with issued := s.catchUp.issued + n } := by
  induction n generalizing s with
  | zero => rfl
  | succ n ih =>
    rw [dayEnds, ih, issueDayEnd_catchUp]
    simp only [CatchUp.mk.injEq, and_true]
    omega

/-! ## The day ends of a catch-up (R56) -/

theorem dayEnds_allowed (n : Nat) (s : State) : catchUpAllowed (dayEnds n s) = catchUpAllowed s := by simp [catchUpAllowed]

theorem daysLeft_pos (h : 0 < daysLeft s) : catchUpAllowed s = true ∧ ∃ d, s.book.lastCharged = some d ∧
    daysLeft s = min (366 - s.catchUp.issued) (today s - d) := by
  unfold daysLeft daysDue at *
  by_cases ha : catchUpAllowed s = true
  · rw [if_pos ha] at h
    refine ⟨ha, ?_⟩
    cases hd : s.book.lastCharged with
    | none => simp [hd] at h
    | some d => exact ⟨d, rfl, by simp [ha]⟩
  · rw [if_neg ha] at h
    exact absurd h (by omega)

/-- Each day end leaves one fewer, and the local date as it was. -/
theorem dayEnds_daysLeft (h : 0 < daysLeft s) (n : Nat) : daysLeft (dayEnds n s) = daysLeft s - n := by
  obtain ⟨ha, d, hd, hleft⟩ := daysLeft_pos h
  have htoday : today (dayEnds n s) = today s := by simp [today, dayEnds_book]
  rw [hleft]
  simp only [daysLeft, dayEnds_allowed, ha, if_true, daysDue, htoday, dayEnds_book, dayEnds_catchUp, hd, Option.map_some]
  omega

theorem dayEnds_daysDue {d : Nat} (hd : s.book.lastCharged = some d) (n : Nat) :
    daysDue (dayEnds n s) = today s - (d + n) := by
  have htoday : today (dayEnds n s) = today s := by simp [today, dayEnds_book]
  simp only [daysDue, htoday, dayEnds_book, hd, Option.map_some]

/-- At most `most` more day ends of a catch-up that has some left: where they were the last, the last charged local date is the
current one. -/
theorem issueDays_issued (h : 0 < daysLeft s) (most : Nat) :
    DaysRun s (issueDays most s) (min most (daysLeft s)) ∧
      (issueDays most s).book =
        { s.book with lastCharged := chargedDate s (min most (daysLeft s)) (daysLeft s) (today s) } ∧
      (issueDays most s).catchUp = { s.catchUp with issued := s.catchUp.issued + min most (daysLeft s) } ∧
      daysLeft (issueDays most s) = daysLeft s - min most (daysLeft s) := by
  obtain ⟨ha, d, hd, hleft⟩ := daysLeft_pos h
  generalize hk : min most (daysLeft s) = k
  have hrun := dayEnds_run k s
  have hbook := dayEnds_book k s
  have hcatch := dayEnds_catchUp k s
  have hstay := dayEnds_daysLeft h k
  have hdue := dayEnds_daysDue hd k
  have htoday : today (dayEnds k s) = today s := by simp [today, dayEnds_book]
  have hissue : issueDays most s =
      if daysLeft (dayEnds k s) = 0 ∧ 0 < daysDue (dayEnds k s) then chargedUpTo (today s) (dayEnds k s)
      else dayEnds k s := by
    simp [issueDays, hk, dayEnds_allowed, ha, htoday]
  by_cases hlast : daysLeft (dayEnds k s) = 0 ∧ 0 < daysDue (dayEnds k s)
  · have hkn : k = daysLeft s := by omega
    rw [hissue, if_pos hlast]
    refine ⟨?_, ?_, hcatch, ?_⟩
    · exact hrun.trans (k := 0) (daysRun_none rfl rfl rfl rfl rfl (.refl _) rfl)
    · rw [chargedUpTo, onBook_book, hbook]
      simp only [chargedDate, if_neg h.ne', hkn, if_true]
    · have hnone : daysDue (chargedUpTo (today s) (dayEnds k s)) = 0 := by
        simp [daysDue, chargedUpTo, today, hbook]
      rw [daysLeft, hnone]
      simp [hkn]
  · rw [hissue, if_neg hlast]
    refine ⟨hrun, ?_, hcatch, hstay⟩
    rw [hbook]
    simp only [CalendarBook.mk.injEq, true_and, chargedDate, hd, Option.map_some]
    by_cases hk0 : k = 0
    · simp [hk0]
    · by_cases hkn : k = daysLeft s
      · have hend : today s = d + k := by omega
        simp [hkn, hend]
      · simp [hk0, hkn]

/-! ## A catch-up that begins (R56, R66) -/

theorem newCatchUp_run (s : State) : DaysRun s (newCatchUp s) 0 :=
  daysRun_none rfl rfl rfl rfl rfl (dueStands_of_eq rfl) rfl

/-- `k` of the `n` day ends of a catch-up that began at `s` have come about. -/
structure CaughtUp (s t : State) (k n : Nat) : Prop extends DaysRun s t k where
  clock : t.clock = s.clock
  book : t.book = { s.book with lastCharged := chargedDate s k n (today s) }
  left : daysLeft t = n - k

theorem caughtUp_begins (s : State) : CaughtUp s (newCatchUp s) 0 (dayEndsToIssue s) :=
  ⟨newCatchUp_run s, rfl, rfl, rfl⟩

theorem chargedDate_of_zero (s : State) (n date : Nat) : chargedDate s 0 n date = s.book.lastCharged := rfl

/-- The day ends that follow on from `j` of `n` charge as those from the first on. -/
theorem chargedDate_add {date : Nat} (hj : j < n) (ht : t.book.lastCharged = chargedDate s j n date) :
    chargedDate t k (n - j) date = chargedDate s (j + k) n date := by
  have hlast : t.book.lastCharged = s.book.lastCharged.map (· + j) := by
    rw [ht]
    by_cases h0 : j = 0
    · cases h : s.book.lastCharged <;> simp [chargedDate, h0, h]
    · simp [chargedDate, h0, hj.ne]
  by_cases hk : k = 0
  · rw [hk, Nat.add_zero, chargedDate_of_zero, ht]
  · by_cases hkn : k = n - j
    · have hall : j + k = n := by omega
      simp only [chargedDate, if_neg hk, if_pos hkn, hall, if_neg (show n ≠ 0 by omega), if_true]
    · simp only [chargedDate, if_neg hk, if_neg hkn, if_neg (show j + k ≠ 0 by omega), if_neg (show j + k ≠ n by omega), hlast,
        Option.map_map]
      congr 1
      funext d
      simp only [Function.comp_apply]
      omega

/-- A catch-up that has day ends left goes on with some of them. -/
theorem CaughtUp.goesOn (h : CaughtUp s t j n) (hj : j < n) {most : Nat} (hu : DaysRun t u 0)
    (hbook : u.book = t.book) (hclock : u.clock = t.clock) (hleft : daysLeft u = daysLeft t) :
    CaughtUp s (issueDays most u) (j + min most (n - j)) n ∧
      (issueDays most u).catchUp = { u.catchUp with issued := u.catchUp.issued + min most (n - j) } := by
  have hleft' : daysLeft u = n - j := hleft.trans h.left
  obtain ⟨hrun, hdate, hcatch, hstay⟩ := issueDays_issued (s := u) (by omega) most
  rw [hleft'] at hrun hdate hcatch hstay
  have htoday : today u = today s := by simp [today, hbook, hclock, h.active, h.clock]
  refine ⟨⟨(h.toDaysRun.trans hu).trans hrun, by simp [hclock, h.clock], ?_, by omega⟩, hcatch⟩
  have hlast : u.book.lastCharged = chargedDate s j n (today s) := by rw [hbook, h.book]
  rw [hdate, htoday, chargedDate_add hj hlast, hbook, h.book]

theorem dayEndsToIssue_le (s : State) : dayEndsToIssue s ≤ 366 := by
  unfold dayEndsToIssue daysLeft
  split_ifs <;> omega

theorem dayEndsToIssue_of_new (s : State) :
    dayEndsToIssue s = if catchUpAllowed s then min 366 (daysDue s) else 0 := rfl

/-- A catch-up in progress has no more day ends left than one that begins. -/
theorem daysLeft_le (s : State) : daysLeft s ≤ dayEndsToIssue s := by
  rw [dayEndsToIssue_of_new, daysLeft]
  split_ifs <;> omega

theorem caughtUp_idle (h : dayEndsToIssue s = 0) : CaughtUp s s 0 0 :=
  ⟨.refl s, rfl, rfl, by have := daysLeft_le s; omega⟩

theorem newCatchUp_catchUp (s : State) : (newCatchUp s).catchUp = ⟨0, s.catchUp.choices⟩ := rfl

theorem catchUpWhole_caughtUp (s : State) : CaughtUp s (catchUpWhole s) (dayEndsToIssue s) (dayEndsToIssue s) ∧
    (catchUpWhole s).catchUp =
      if dayEndsToIssue s = 0 then s.catchUp else ⟨dayEndsToIssue s, s.catchUp.choices⟩ := by
  have hbegins := caughtUp_begins s
  by_cases hn : dayEndsToIssue s = 0
  · rw [catchUpWhole, if_pos hn, if_pos hn]
    rw [hn] at hbegins ⊢
    exact ⟨caughtUp_idle hn, rfl⟩
  · obtain ⟨hall, hcatch⟩ := hbegins.goesOn (most := 366) (Nat.pos_of_ne_zero hn) (.refl _) rfl rfl rfl
    have hmin : 0 + min 366 (dayEndsToIssue s - 0) = dayEndsToIssue s := by
      have := dayEndsToIssue_le s
      omega
    rw [hmin] at hall
    rw [catchUpWhole, if_neg hn, if_neg hn]
    refine ⟨hall, hcatch.trans ?_⟩
    rw [newCatchUp_catchUp]
    exact congrArg (CatchUp.mk · s.catchUp.choices) hmin

theorem catchUp_of_start (hc : catchingUp s = false) (hp : s.supply.power = .start) : catchUp s = catchUpWhole s := by
  by_cases hn : dayEndsToIssue s = 0 <;> simp [catchUp, catchUpWhole, hc, hp, hn]

theorem catchUpGoesOn_caughtUp (h : CaughtUp s t j n) (hj : j < n) :
    CaughtUp s (catchUpGoesOn t) (j + min (Config.dayEndsTogether t.catchUp.choices) (n - j)) n ∧
      (catchUpGoesOn t).catchUp = ⟨t.catchUp.issued + min (Config.dayEndsTogether t.catchUp.choices) (n - j),
        t.catchUp.choices + 1⟩ :=
  h.goesOn hj (daysRun_none rfl rfl rfl rfl rfl (dueStands_of_eq rfl) rfl) rfl rfl rfl

/-- The catch-up that begins where none is in progress, outside START (R56, R66). -/
theorem catchUp_caughtUp (hc : catchingUp s = false) (hp : s.supply.power ≠ .start) :
    CaughtUp s (catchUp s) (daysAtOnce s (dayEndsToIssue s)) (dayEndsToIssue s) ∧
      (catchUp s).catchUp = catchUpBegun s (daysAtOnce s (dayEndsToIssue s)) (dayEndsToIssue s) := by
  generalize hn : dayEndsToIssue s = n
  by_cases h0 : n = 0
  · have hidle : catchUp s = s := by simp [catchUp, hc, hn, h0]
    rw [hidle, h0]
    exact ⟨caughtUp_idle (hn.trans h0), rfl⟩
  · have hbegins := hn ▸ caughtUp_begins s
    obtain ⟨hfirst, hissued⟩ := hbegins.goesOn (most := 1) (Nat.pos_of_ne_zero h0) (.refl _) rfl rfl rfl
    have hone : 0 + min 1 (n - 0) = 1 := by omega
    have hcatch : catchUp s = if daysLeft (issueDays 1 (newCatchUp s)) = 0 then issueDays 1 (newCatchUp s)
        else catchUpGoesOn (issueDays 1 (newCatchUp s)) := by
      simp [catchUp, hc, hn, h0, hp]
    rw [newCatchUp_catchUp] at hissued
    dsimp only at hissued
    rw [hone] at hfirst hissued
    rw [hcatch, hfirst.left]
    by_cases h1 : n = 1
    · simp only [h1, Nat.sub_self, if_true, daysAtOnce, le_refl, catchUpBegun, hissued]
      exact ⟨h1 ▸ hfirst, rfl⟩
    · obtain ⟨hmore, hchoice⟩ := catchUpGoesOn_caughtUp hfirst (by omega)
      have hmany : 1 + min (Config.dayEndsTogether s.catchUp.choices) (n - 1) = daysAtOnce s n := by
        rw [daysAtOnce, if_neg (by omega)]
        omega
      rw [hissued] at hmore hchoice
      dsimp only at hmore hchoice
      rw [hmany] at hmore hchoice
      rw [if_neg (by omega)]
      refine ⟨hmore, hchoice.trans ?_⟩
      rw [catchUpBegun, if_neg h0, if_pos (by omega)]

/-- No catch-up is in progress where no step is due. -/
theorem catchingUp_of_idle (ha : s.agenda = []) : catchingUp s = false := by simp [catchingUp, ha]

/-- The day ends to issue are those of the statements. -/
theorem dayEndsToIssue_eq (s : State) : dayEndsToIssue s = dayEndsAt s (catchUpAllowed s) s.clock.time := by
  simp only [dayEndsToIssue_of_new, dayEndsAt, daysDue, today]
  cases s.book.lastCharged <;> simp

end Sys2Proof.Proofs
end

section
/-! SUPPORT. The time as a TIME_SET sets it (R45, R46). -/

namespace Sys2Proof.Proofs
open Sys2Proof.Machine Sys2Proof.Safety

variable {s t u v : State} {w : Work} {n : Nat}

/-! ## The friendly state handed on (R50) -/

theorem handFriendly_friendly (on : Bool) (s : State) : (handFriendly on s).switch.friendly = on :=
  (evaluate_evaluated (onSwitch (fun x => { x with friendly := on }) s)).inputs.2.1

theorem evaluateFriendly_friendly (s : State) : (evaluateFriendly s).switch.friendly =
    if handing s = true then friendlyState s else s.switch.friendly := by
  unfold evaluateFriendly
  by_cases hh : handing s = true <;> by_cases hf : friendlyState s = s.switch.friendly <;>
    simp [hh, hf, handFriendly_friendly]

/-- Day ends, then whatever else derives or evaluates behind them, then what reaches none of these parts. -/
theorem DaysRun.ended_behind (h : DaysRun s u n) (hv : CreditFed u v) (hcredit : t.credit = u.credit)
    (hdecoder : t.decoder = u.decoder) (ht : t.switch = v.switch ∧ t.settings = v.settings ∧ v.credit = u.credit)
    (hm : v.attn.due.getLsbD 2 = true → Marks s t 2) : DaysEnded s t n := by
  obtain ⟨hswitch, hsettings, hsame⟩ := ht
  have hfed := h.toCreditFed.trans hv
  have hsets := sets_congr (s := v) (t := t) (by rw [hswitch]) (by rw [hswitch]) (by rw [hswitch]) hsettings
  have htcredit : t.credit = v.credit := hcredit.trans hsame.symm
  refine ⟨hdecoder.trans h.decoder, fun hn => hcredit.trans (h.none hn), fun hn => hcredit.trans (h.credit hn), ?_, ?_, ?_, ?_⟩
  · intro hchange
    rw [htcredit] at hchange
    exact hm (hfed.due hchange)
  · rw [hswitch]
    exact hfed.reasons
  · rw [hswitch, htcredit]
    exact hfed.handed
  · intro hs
    rw [hswitch, hsets.2.1]
    exact hfed.acting hs

/-! ## TIME_SET (R45, R46, R55 to R57) -/

/-- The clock set while the entry's step is under way. -/
def timeSet (new : Nat) (s : State) : State := setTime new (handed s)

theorem timeSet_days (hp : s.supply.power = .mains ∨ s.supply.power = .holdup) (new : Nat) :
    dayEndsToIssue (timeSet new s) = match s.book.lastCharged with
      | none => 0
      | some d => if s.supply.power = .mains then min 366 (localDate new s.book.active - d) else 0 := by
  have hallowed : catchUpAllowed (timeSet new s) = decide (s.supply.power = .mains) := by
    rcases hp with h | h <;> simp [catchUpAllowed, timeSet, setTime, handed, h]
  rw [dayEndsToIssue_eq, hallowed]
  cases h : s.book.lastCharged <;> simp [dayEndsAt, timeSet, setTime, handed, h]

theorem timeAccepted_iff (new : Nat) (s : State) : timeAccepted new s = true ↔
    (new ≤ s.clock.time + 300 ∧ s.clock.time ≤ new + 300) ∨ s.window.state ≠ .closed ∨ s.clock.certain = false := by
  simp [timeAccepted, or_assoc]

/-- What the day ends of a TIME_SET leave. -/
structure TimeCaughtUp (s t : State) (new n : Nat) : Prop extends DaysRun s t n where
  clock : t.clock = { s.clock with time := new, certain := true }
  book : t.book = { s.book with
    lastCharged := match s.book.lastCharged with
      | .none => some (localDate new s.book.active)
      | .some _ => chargedDate s n n (localDate new s.book.active) }
  catchUp : t.catchUp = if n = 0 then s.catchUp else ⟨n, s.catchUp.choices⟩

theorem timeSet_run (new : Nat) (s : State) : DaysRun s (timeSet new s) 0 :=
  daysRun_none rfl rfl rfl rfl rfl (dueStands_of_eq rfl) rfl

theorem setOrCatchUp_caughtUp (new : Nat) (s : State) :
    TimeCaughtUp s (setOrCatchUp (timeSet new s)) new (dayEndsToIssue (timeSet new s)) := by
  have hset := timeSet_run new s
  have hbook : (timeSet new s).book = s.book := rfl
  unfold setOrCatchUp
  cases h : s.book.lastCharged with
  | none =>
    have hnone : dayEndsToIssue (timeSet new s) = 0 := by
      rw [dayEndsToIssue_eq, dayEndsAt, hbook, h]
    rw [hbook, h, hnone]
    exact ⟨daysRun_none rfl rfl rfl rfl rfl (dueStands_of_eq rfl) rfl, rfl, by rw [h]; rfl, rfl⟩
  | some d =>
    rw [hbook, h]
    obtain ⟨hcaught, hcatch⟩ := catchUpWhole_caughtUp (timeSet new s)
    generalize hn : dayEndsToIssue (timeSet new s) = n at *
    have hrun := hset.trans hcaught.toDaysRun
    rw [Nat.zero_add] at hrun
    refine ⟨hrun, hcaught.clock, ?_, hcatch⟩
    have htoday : today (timeSet new s) = localDate new s.book.active := rfl
    rw [hcaught.book, htoday, hbook, h]
    rfl

/-- The time set, the day ends behind it and the friendly state as they stand then. -/
def timeApplied (new : Nat) (s : State) : State := evaluateFriendly (setOrCatchUp (timeSet new s))

theorem timeApplied_completing (h : Taken s w) (new : Nat) : Completing s (timeApplied new s) w :=
  taken_completing h (by simp [timeApplied, timeSet, handed, setTime])

theorem decideTimeSet_eq (w : Work) (s : State) : decideTimeSet w (handed s) =
    if timeAccepted (w.field 4 4) s then
      completeEntry ⟨.accepted, 0, le 4 s.clock.time ++ le 4 (w.field 4 4) ++ flagByte (!s.clock.certain) ++
        le 2 (dayEndsToIssue (timeSet (w.field 4 4) s))⟩ (timeApplied (w.field 4 4) s)
    else completeEntry ⟨.timeTolerance, 0, le 4 s.clock.time ++ le 4 (w.field 4 4) ++ flagByte false ++ le 2 0⟩ (handed s) :=
  rfl

/-- Settles O27: the effects of the apply, in the order of R46, and the completion behind them. -/
theorem timeSetMovesTheClock : Obligations.TimeSetMovesTheClock := by
  intro s w h hk hp old new accepted date n
  have hd : dueOf w = .timeSet := by
    unfold dueOf
    rw [hk]
    rfl
  have hn : dayEndsToIssue (timeSet new s) = n := timeSet_days hp new
  have hiff : timeAccepted new s = true ↔ accepted := timeAccepted_iff new s
  have hdecide := decideTimeSet_eq w s
  by_cases ha : timeAccepted new s = true
  · rw [if_pos ha] at hdecide
    have hc := timeApplied_completing h new
    obtain ⟨hexec, hcomp, hpub⟩ := taken_answered (c := .timeSet) h hd (fun _ => rfl) (fun _ => rfl) hdecide hc
      (by simp [le_length, flagByte_eq])
    have hcaught := setOrCatchUp_caughtUp new s
    rw [hn] at hcaught
    refine ⟨_, hexec, hpub, fun _ => ⟨?_, ?_, ?_, ?_, ?_, ?_, ?_⟩, fun hno => absurd (hiff.mp ha) hno⟩
    · refine completes_congr hcomp ?_
      rw [flagByte_eq]
      cases s.clock.certain <;> rw [← hn] <;> rfl
    · rw [sameExcept_iff]
      simp [timeApplied, timeSet, handed, setTime]
    · simp only [completeEntry_keeps, timeApplied, evaluateFriendly_keeps]
      exact hcaught.clock
    · simp only [completeEntry_keeps, timeApplied, evaluateFriendly_keeps]
      exact hcaught.book
    · refine hcaught.toDaysRun.ended_behind (evaluateFriendly_fed _) ?_ ?_ ⟨?_, ?_, ?_⟩ (fun hi => hc.marks _ hi) <;>
        simp [timeApplied, new]
    · simp only [completeEntry_keeps, timeApplied, evaluateFriendly_keeps]
      exact hcaught.catchUp
    · have hhand : handing (setOrCatchUp (timeSet new s)) = true := by
        rw [hcaught.handing]
        exact handing_of_powered hp
      have hfriendly : (timeApplied new s).switch.friendly = friendlyPeriod s.book.active new := by
        rw [timeApplied, evaluateFriendly_friendly, if_pos hhand, friendlyState, hcaught.clock, hcaught.active]
        rfl
      simpa using hfriendly
  · rw [if_neg ha] at hdecide
    obtain ⟨hexec, hcomp, hpub⟩ := taken_answered (c := .timeSet) h hd (fun _ => rfl) (fun _ => rfl) hdecide
      (taken_handed h) (by simp [le_length, flagByte_eq])
    refine ⟨_, hexec, hpub, fun hyes => absurd (hiff.mpr hyes) ha, fun _ => ⟨?_, handed_frame s _⟩⟩
    exact completes_congr hcomp (by rw [flagByte_eq]; rfl)

end Sys2Proof.Proofs
end

section
/-! SUPPORT. Local dates as the days of the calendar, and what a tariff calendar says of a meter time (R41, R48 to R50). Dates
are counted in years that begin in March, so that a leap day is the last day of its year. -/

namespace Sys2Proof.Proofs
open Sys2Proof.Machine Sys2Proof.Safety

variable {y d e m : Nat}

/-! ## Years that begin in March -/

/-- The first day of year `y` behind 2000-03-01, counted from there, as far as 2136. -/
def yearStart (y : Nat) : Nat := 365 * y + y / 4 - y / 100

/-- The year of a day counted from 2000-03-01, as `civilDate` finds it. -/
def yearOf (e : Nat) : Nat := (e - e / 1460 + e / 36524 - e / 146096) / 365

theorem yearOf_eq (hy : y < 136) (h1 : yearStart y ≤ e) (h2 : e < yearStart (y + 1)) : yearOf e = y := by
  unfold yearOf yearStart at *
  have hera : e / 146096 = 0 := by omega
  have hcentury : e / 36524 = y / 100 := by
    by_cases h : y < 100
    · have : (y + 1) / 100 ≤ 1 := by omega
      omega
    · omega
  have hleap : e / 1460 = y / 4 ∨ e / 1460 = y / 4 + 1 := by omega
  obtain ⟨c, r, hr, rfl⟩ : ∃ c r, r < 4 ∧ y = 4 * c + r := ⟨y / 4, y % 4, by omega, by omega⟩
  have hc : (4 * c + r) / 4 = c := by omega
  rw [hera, hcentury]
  rw [hc] at hleap h1
  interval_cases r <;> rcases hleap with h | h <;> rw [h] <;> omega

theorem yearStart_reached {n : Nat} (h : e < yearStart n) : ∃ y < n, yearStart y ≤ e ∧ e < yearStart (y + 1) := by
  induction n with
  | zero => exact absurd h (by simp [yearStart])
  | succ n ih =>
    by_cases hn : e < yearStart n
    · obtain ⟨y, hy, hin⟩ := ih hn
      exact ⟨y, by omega, hin⟩
    · exact ⟨n, by omega, by omega, h⟩

/-- A year that ends with a leap day has 366 days. -/
theorem yearStart_succ (hy : y < 136) : yearStart (y + 1) =
    yearStart y + if (2000 + y + 1) % 4 = 0 ∧ ((2000 + y + 1) % 100 ≠ 0 ∨ (2000 + y + 1) % 400 = 0) then 366 else 365 := by
  unfold yearStart
  split_ifs <;> omega

/-! ## Months of such a year -/

/-- The first day of a month of such a year, March 0. -/
def monthStart (m : Nat) : Nat := (153 * m + 2) / 5

/-- The month of a day of such a year, as `civilDate` finds it. -/
def monthOf (d : Nat) : Nat := (5 * d + 2) / 153

/-- The number of such a month. -/
def monthNumber (m : Nat) : Nat := if m < 10 then m + 3 else m - 9

theorem monthOf_eq (h1 : monthStart m ≤ d) (h2 : d < monthStart (m + 1)) : monthOf d = m := by
  unfold monthOf monthStart at *
  omega

theorem monthOf_within (d : Nat) : monthStart (monthOf d) ≤ d ∧ d < monthStart (monthOf d + 1) := by
  unfold monthOf monthStart
  omega

/-- Every month but February is as long in every year. -/
theorem daysIn_monthNumber (h : m < 11) (year : Nat) :
    daysIn year (monthNumber m) = monthStart (m + 1) - monthStart m := by
  interval_cases m <;> rfl

/-- The date of day `d` of year `y`. -/
def dateIn (y d : Nat) : CivilDate :=
  ⟨2000 + y + (if monthNumber (monthOf d) ≤ 2 then 1 else 0), monthNumber (monthOf d), d - monthStart (monthOf d) + 1⟩

/-- Within a year the next day is the next date. -/
theorem dateIn_next (hy : y < 136) (h : yearStart y + d + 1 < yearStart (y + 1)) : dateIn y (d + 1) = nextDate (dateIn y d) := by
  have hlength := yearStart_succ hy
  obtain ⟨hfrom, hto⟩ := monthOf_within d
  generalize hm : monthOf d = m at hfrom hto
  by_cases hfeb : m < 11
  · have hdays := daysIn_monthNumber hfeb
    by_cases hsame : d + 1 < monthStart (m + 1)
    · have hstay : monthOf (d + 1) = m := monthOf_eq (by omega) hsame
      have hday : d - monthStart m + 1 < monthStart (m + 1) - monthStart m := by omega
      simp only [dateIn, nextDate, hm, hstay, hdays, if_pos hday, CivilDate.mk.injEq, true_and]
      omega
    · have hfirst : d + 1 = monthStart (m + 1) := by omega
      have hlast : ¬d - monthStart m + 1 < monthStart (m + 1) - monthStart m := by omega
      have hbehind : monthOf (monthStart (m + 1)) = m + 1 := monthOf_eq le_rfl (by unfold monthStart; omega)
      simp only [dateIn, nextDate, hm, hdays, if_neg hlast, hfirst, hbehind, Nat.sub_self]
      interval_cases m <;> simp [monthNumber]
  · have hd : d + 1 < 366 := by split_ifs at hlength <;> omega
    have hm11 : m = 11 := by unfold monthStart at *; omega
    subst hm11
    have hstay : monthOf (d + 1) = 11 := monthOf_eq (by omega) (by unfold monthStart; omega)
    have hday : d - monthStart 11 + 1 < daysIn (2000 + y + 1) 2 := by
      unfold daysIn monthStart at *
      split_ifs at * <;> omega
    have hsub : d + 1 - monthStart 11 = d - monthStart 11 + 1 := by omega
    simp only [dateIn, nextDate, hm, hstay, hsub]
    exact (if_pos hday).symm

/-- The first day of a year is the date behind the last one of the year before. -/
theorem dateIn_turn (hy : y < 136) (h : yearStart y + d + 1 = yearStart (y + 1)) : dateIn (y + 1) 0 = nextDate (dateIn y d) := by
  have hlength := yearStart_succ hy
  have hd : d = 364 ∨ d = 365 := by split_ifs at hlength <;> omega
  have hm : monthOf d = 11 := by rcases hd with rfl | rfl <;> rfl
  have hday : ¬d - monthStart 11 + 1 < daysIn (2000 + y + 1) 2 := by
    unfold daysIn monthStart
    split_ifs at * <;> omega
  have hnext : nextDate (dateIn y d) = ⟨2000 + y + 1, 3, 1⟩ := by
    simp only [dateIn, nextDate, hm]
    exact if_neg hday
  rw [hnext]
  rfl

/-- Behind 2000-02-29 a local date is that day of its year. -/
theorem civilDate_eq (hy : y < 136) (h : yearStart y + d < yearStart (y + 1)) :
    civilDate (60 + (yearStart y + d)) = dateIn y d := by
  have hsmall : yearStart y + d < 49711 := by
    unfold yearStart at *
    omega
  have hyear : yearOf (yearStart y + d) = y := yearOf_eq hy (by omega) h
  have hera : (60 + (yearStart y + d) + 146037) / 146097 = 1 := by omega
  have hday : (60 + (yearStart y + d) + 146037) % 146097 = yearStart y + d := by omega
  have hdoy : yearStart y + d - (365 * y + y / 4 - y / 100) = d := by
    unfold yearStart
    omega
  have hyear' : (yearStart y + d - (yearStart y + d) / 1460 + (yearStart y + d) / 36524 - (yearStart y + d) / 146096) / 365 = y :=
    hyear
  simp only [civilDate, hera, hday, hyear', hdoy]
  rfl

theorem civilDates : CivilDates := by
  refine ⟨rfl, fun d hd => ?_⟩
  by_cases hearly : d < 60
  · interval_cases d <;> rfl
  · obtain ⟨y, hy, hfrom, hto⟩ := yearStart_reached (e := d - 60) (n := 136) (by unfold yearStart; omega)
    obtain ⟨k, hk⟩ : ∃ k, d = 60 + (yearStart y + k) := ⟨d - 60 - yearStart y, by omega⟩
    rw [hk, civilDate_eq hy (by omega)]
    by_cases hlast : yearStart y + k + 1 < yearStart (y + 1)
    · rw [← dateIn_next hy hlast, ← civilDate_eq hy (by omega)]
      rfl
    · have hturn : yearStart y + k + 1 = yearStart (y + 1) := by omega
      have hy' : y + 1 < 136 := by
        unfold yearStart at *
        omega
      have hstart : yearStart (y + 1) + 0 < yearStart (y + 1 + 1) := by
        rw [yearStart_succ hy']
        split_ifs <;> omega
      rw [← dateIn_turn hy hturn, ← civilDate_eq hy' hstart, ← hturn]
      rfl

/-! ## What a tariff calendar says of a meter time -/

variable {c : Tariff} {now : Nat}

theorem holiday_matches (h : Holiday) (x : CivilDate) : h.matches x = true ↔
    h.month = x.month ∧ h.day = x.day ∧ (h.year = 0 ∨ h.year = x.year) := by
  simp [Holiday.matches, and_assoc]

/-- The switch points that can give the band in force: those of the day type, not behind the minute. -/
def candidates (c : Tariff) (now : Nat) : List SwitchPoint :=
  c.switchPoints.filter fun p => inMask p.mask (dayType c (localDate now c))

/-- The fold of R49 over no point up to the minute leaves what it began with. -/
theorem foldl_laterPoint_none {minute : Nat} (l : List SwitchPoint) (best : Option SwitchPoint)
    (h : ∀ p ∈ l, minute < p.minute) : l.foldl (laterPoint minute) best = best := by
  induction l generalizing best with
  | nil => rfl
  | cons p l ih =>
    have hp : ¬p.minute ≤ minute := by
      have := h p (by simp)
      omega
    have hskip : laterPoint minute best p = best := if_neg hp
    rw [List.foldl_cons, hskip]
    exact ih best fun q hq => h q (by simp [hq])

theorem mem_laterPoint {minute : Nat} {best : Option SwitchPoint} {q x : SwitchPoint}
    (h : x ∈ laterPoint minute best q) : (x = q ∧ q.minute ≤ minute) ∨ x ∈ best := by
  unfold laterPoint at h
  cases best with
  | none => split_ifs at h <;> simp_all
  | some b =>
    dsimp only at h
    split_ifs at h <;> simp_all

/-- The later one of `p` and a point that is `p` or before it is `p`. -/
theorem laterPoint_latest {minute : Nat} {p q : SwitchPoint} {best : Option SwitchPoint} (hp : p.minute ≤ minute)
    (hq : q.minute ≤ minute → q = p ∨ q.minute < p.minute) (hbest : ∀ b ∈ best, b = p ∨ b.minute < p.minute)
    (h : p = q ∨ best = some p) : laterPoint minute best q = some p := by
  unfold laterPoint
  rcases h with rfl | rfl
  · rw [if_pos hp]
    cases best with
    | none => rfl
    | some b =>
      rcases hbest b rfl with rfl | hlater
      · simp
      · simp [hlater]
  · by_cases hin : q.minute ≤ minute
    · rcases hq hin with rfl | hlater
      · simp [hin]
      · simp [hin, hlater.le]
    · simp [hin]

/-- A point that is later than every other one up to the minute is the fold's. -/
theorem foldl_laterPoint_some {minute : Nat} {p : SwitchPoint} (hp : p.minute ≤ minute) (l : List SwitchPoint)
    (best : Option SwitchPoint) (hl : ∀ q ∈ l, q.minute ≤ minute → q = p ∨ q.minute < p.minute)
    (hbest : ∀ q ∈ best, q = p ∨ q.minute < p.minute) (hmem : p ∈ l ∨ best = some p) :
    l.foldl (laterPoint minute) best = some p := by
  induction l generalizing best with
  | nil =>
    rcases hmem with h | h
    · simp at h
    · exact h
  | cons q l ih =>
    rw [List.foldl_cons]
    refine ih _ (fun x hx => hl x (by simp [hx])) ?_ ?_
    · intro x hx
      rcases mem_laterPoint hx with ⟨rfl, hq⟩ | hx
      · exact hl x (by simp) hq
      · exact hbest x hx
    · rcases hmem with hmem | hmem
      · rcases List.mem_cons.mp hmem with h | h
        · exact .inr (laterPoint_latest hp (hl q (by simp)) hbest (.inl h))
        · exact .inl h
      · exact .inr (laterPoint_latest hp (hl q (by simp)) hbest (.inr hmem))

theorem bandAt_eq (c : Tariff) (now : Nat) : bandAt c now =
    match (candidates c now).foldl (laterPoint (minuteOfDay now c)) none with
    | none => c.defaultBand
    | some p => p.band := rfl

theorem mem_candidates {p : SwitchPoint} : p ∈ candidates c now ↔
    p ∈ c.switchPoints ∧ p.mask.getLsbD (dayType c (localDate now c)) = true := by
  simp [candidates, inMask]

theorem calendarSays (c : Tariff) (now : Nat) : CalendarSays c now where
  date := rfl
  minute := rfl
  holiday d h := by
    obtain ⟨x, hx, hmatch⟩ := h
    exact if_pos (List.any_eq_true.mpr ⟨x, hx, (holiday_matches x _).mpr hmatch⟩)
  weekday d h := by
    refine if_neg fun hany => ?_
    obtain ⟨x, hx, hmatch⟩ := List.any_eq_true.mp hany
    exact h x hx ((holiday_matches x _).mp hmatch)
  point p hp hmask hin hlast := by
    have hfold : (candidates c now).foldl (laterPoint (minuteOfDay now c)) none = some p := by
      refine foldl_laterPoint_some hin _ none (fun q hq => ?_) (by simp) (.inl (mem_candidates.mpr ⟨hp, hmask⟩))
      obtain ⟨hpoint, hday⟩ := mem_candidates.mp hq
      exact hlast q hpoint hday
    rw [bandAt_eq, hfold]
  default h := by
    have hfold : (candidates c now).foldl (laterPoint (minuteOfDay now c)) none = none := by
      refine foldl_laterPoint_none _ none fun p hp => ?_
      obtain ⟨hpoint, hday⟩ := mem_candidates.mp hp
      exact h p hpoint hday
    rw [bandAt_eq, hfold]
  friendly := by
    simp only [friendlyPeriod, List.any_eq_true, Bool.and_eq_true, inMask, decide_eq_true_eq, and_assoc]

end Sys2Proof.Proofs
end

section
/-! SUPPORT. A token's apply with further steps due behind it (R66): its effect is the one that it has alone, since no block
reads what is due. -/

namespace Sys2Proof.Proofs
open Sys2Proof.Machine Sys2Proof.Safety

variable {s t : State} {a : List Due}

/-- The state with further steps due behind those that are. -/
def followed (a : List Due) (s : State) : State := onAgenda (· ++ a) s

@[simp] theorem followed_keeps (a : List Due) (s : State) :
    (followed a s).pending = s.pending ∧ (followed a s).link = s.link ∧ (followed a s).mem = s.mem ∧
    (followed a s).intake = s.intake ∧ (followed a s).attn = s.attn ∧ (followed a s).meter = s.meter ∧
    (followed a s).energy = s.energy ∧ (followed a s).clock = s.clock ∧ (followed a s).book = s.book ∧
    (followed a s).credit = s.credit ∧ (followed a s).decoder = s.decoder ∧ (followed a s).settings = s.settings ∧
    (followed a s).window = s.window ∧ (followed a s).switch = s.switch ∧ (followed a s).tamper = s.tamper ∧
    (followed a s).battery = s.battery ∧ (followed a s).store = s.store ∧ (followed a s).supply = s.supply ∧
    (followed a s).catchUp = s.catchUp ∧ (followed a s).pins = s.pins ∧ (followed a s).agenda = s.agenda ++ a := by
  simp [followed]

theorem followed_ite {c : Prop} [Decidable c] (a : List Due) (x y : State) :
    (if c then followed a x else followed a y) = followed a (if c then x else y) := (apply_ite (followed a) c x y).symm

/-! ## The state's operations -/

@[simp] theorem onMem_followed (f : Memory → Memory) : onMem f (followed a s) = followed a (onMem f s) := rfl

@[simp] theorem onIntake_followed (f : Intake → Intake) : onIntake f (followed a s) = followed a (onIntake f s) := rfl

@[simp] theorem onAttn_followed (f : Attn → Attn) : onAttn f (followed a s) = followed a (onAttn f s) := rfl

@[simp] theorem onCredit_followed (f : Credit → Credit) : onCredit f (followed a s) = followed a (onCredit f s) := rfl

@[simp] theorem onDecoder_followed (f : Decoder → Decoder) : onDecoder f (followed a s) = followed a (onDecoder f s) := rfl

@[simp] theorem onWindow_followed (f : Window → Window) : onWindow f (followed a s) = followed a (onWindow f s) := rfl

@[simp] theorem onSwitch_followed (f : Switch → Switch) : onSwitch f (followed a s) = followed a (onSwitch f s) := rfl

@[simp] theorem onTamper_followed (f : Tamper → Tamper) : onTamper f (followed a s) = followed a (onTamper f s) := rfl

@[simp] theorem onStore_followed (f : Store → Store) : onStore f (followed a s) = followed a (onStore f s) := rfl

@[simp] theorem onSupply_followed (f : Supply → Supply) : onSupply f (followed a s) = followed a (onSupply f s) := rfl

@[simp] theorem dueFirst_followed (d : Due) : dueFirst d (followed a s) = followed a (dueFirst d s) := rfl

@[simp] theorem markDue_followed (b : BitVec 6) : markDue b (followed a s) = followed a (markDue b s) := rfl

/-! ## The switch controller -/

theorem reportGone_followed (k : Fin 10) : reportGone k (followed a s) = followed a (reportGone k s) := by
  simp [reportGone, followed_ite]

theorem markSwitch_followed : markSwitch (followed a s) = followed a (markSwitch s) := by
  simp [markSwitch, followed_ite]

theorem beginAttempt_followed (w : Winding) : beginAttempt w (followed a s) = followed a (beginAttempt w s) := by
  simp [beginAttempt, beginPulse, followed_ite]

theorem formSets_followed : formSets (followed a s) = followed a (formSets s) := rfl

theorem dropFault_followed : dropFault (followed a s) = followed a (dropFault s) := by
  simp [dropFault, setFault, reportGone_followed, followed_ite]

theorem stuckToClosed_followed : stuckToClosed (followed a s) = followed a (stuckToClosed s) :=
  dropFault_followed (s := commandPosition true (enterClosed s))

theorem actArmed_followed : actArmed (followed a s) = followed a (actArmed s) := by
  have hauto : autoClosePermitted (followed a s) = autoClosePermitted s := rfl
  simp [actArmed, hauto, enterClosing, setContactor, beginAttempt_followed, followed_ite]

theorem actOnContactor_followed : actOnContactor (followed a s) = followed a (actOnContactor s) := by
  have hreleases : stuckReleases (followed a s) = stuckReleases s := rfl
  unfold actOnContactor
  cases h : s.switch.contactor <;>
    simp [h, hreleases, enterOpening, setContactor, beginAttempt_followed, actArmed_followed, stuckToClosed_followed,
      followed_ite]

@[simp] theorem evaluate_followed : evaluate (followed a s) = followed a (evaluate s) := by
  rw [evaluate, formSets_followed, actOnContactor_followed, markSwitch_followed, evaluate]

@[simp] theorem handReason_followed (r : Governing) (on : Bool) :
    handReason r on (followed a s) = followed a (handReason r on s) := by
  by_cases h : (setReason r on s).switch.reasons = s.switch.reasons
  · rw [handReason, handReason, if_pos h, if_pos (by exact h)]
  · rw [handReason, handReason, if_neg h, if_neg (by exact h)]
    exact evaluate_followed (s := setReason r on s)

/-! ## The credit engine, the monitor and the store -/

@[simp] theorem deriveCredit_followed : deriveCredit (followed a s) = followed a (deriveCredit s) := by
  have hhanding : handing (followed a s) = handing s := rfl
  have hderived : derivedCredit (followed a s) = derivedCredit s := rfl
  simp [deriveCredit, deriveQuietly, hhanding, hderived, followed_ite]

@[simp] theorem deriveTamper_followed : deriveTamper (followed a s) = followed a (deriveTamper s) := by
  have hhanding : handing (followed a s) = handing s := rfl
  simp [deriveTamper, hhanding, followed_ite]

@[simp] theorem requestWrite_followed : requestWrite (followed a s) = followed a (requestWrite s) := by
  have hwaits : storeWaits (followed a s) = storeWaits s := rfl
  have hsections : sectionsOf (followed a s) = sectionsOf s := rfl
  simp [requestWrite, beginWrite, hwaits, hsections, followed_ite]

/-! ## The intake and the pages -/

@[simp] theorem requestPublication_followed : requestPublication (followed a s) = followed a (requestPublication s) := by
  have hbegins : beginPublication (followed a s) = followed a (beginPublication s) := rfl
  simp [requestPublication, hbegins, followed_ite]

@[simp] theorem takeNext_followed : takeNext (followed a s) = followed a (takeNext s) := by
  unfold takeNext
  rw [(followed_keeps a s).2.2.2.1]
  split <;> simp

@[simp] theorem completeEntry_followed (r : Result) : completeEntry r (followed a s) = followed a (completeEntry r s) := by
  unfold completeEntry
  cases h : s.intake.work <;> simp [h]

/-! ## Tokens -/

variable {d : Decoded}

theorem acceptToken_followed (fields : List Byte) : acceptToken d fields (followed a s) = followed a (acceptToken d fields s) := by
  simp [acceptToken, awaitWrite, setStage, recordToken, spendSerial]

theorem refuseToken_followed (code : ResultCode) (item : Nat) :
    refuseToken code item d (followed a s) = followed a (refuseToken code item d s) := by
  simp [refuseToken]

/-- The effect of a class is the one that it has alone. -/
def Unaware (act : Decoded → State → State) : Prop := ∀ d a s, act d (followed a s) = followed a (act d s)

theorem applyTest_unaware : Unaware applyTest := fun d a s => by
  simp [applyTest, recordToken, refuseToken_followed, followed_ite]

theorem topup_followed (A : Nat) : topup A (followed a s) = (topup A s).map (followed a) := by
  unfold topup
  simp only [followed_keeps]
  split_ifs
  · rfl
  · simp [setAccount]

theorem applyCredit_unaware : Unaware applyCredit := fun d a s => by
  unfold applyCredit
  simp only [followed_keeps, topup_followed]
  split_ifs
  · exact refuseToken_followed _ _
  · cases topup (d.plain.payload * 100) s with
    | none => exact refuseToken_followed _ _
    | some t => exact acceptToken_followed _

theorem applyDebtAdd_unaware : Unaware applyDebtAdd := fun d a s => by
  simp [applyDebtAdd, setAccount, refuseToken_followed, acceptToken_followed, followed_ite]

theorem applyClear_unaware : Unaware applyClear := fun d a s => by
  simp [applyClear, setAccount, refuseToken_followed, acceptToken_followed, followed_ite]

theorem applySetting_unaware : Unaware applySetting := fun d a s => by
  unfold applySetting
  cases h : s.window.staged with
  | none => simp [h, refuseToken_followed]
  | some p => simp [h, stageSetting, refuseToken_followed, acceptToken_followed, followed_ite]

theorem applyWindowOpen_unaware : Unaware applyWindowOpen := fun d a s => by
  have hopen (rank seconds : Nat) : openWindow rank seconds (followed a s) = followed a (openWindow rank seconds s) := by
    simp [openWindow, handWindowHold]
  simp [applyWindowOpen, hopen, refuseToken_followed, acceptToken_followed, followed_ite]

theorem applyTamperClear_unaware : Unaware applyTamperClear := fun d a s => by
  simp [applyTamperClear, tamperClearArrives, refuseToken_followed, acceptToken_followed, followed_ite]

theorem applyKeyChange_unaware : Unaware applyKeyChange := fun d a s => by
  simp [applyKeyChange, awaitWrite, setStage, recordToken, installKey, spendSerial, refuseToken_followed, followed_ite]

theorem applyRemote_unaware (on : Bool) : Unaware (applyRemote on) := fun d a s => by
  simp [applyRemote, setOrder, refuseToken_followed, acceptToken_followed, followed_ite]

theorem tokenApply_followed {act : Decoded → State → State} (h : Unaware act) (cls min : Nat) :
    tokenApply cls min act (followed a s) = followed a (tokenApply cls min act s) := by
  have hdecoded : decoded (followed a s) = decoded s := rfl
  unfold tokenApply
  rw [hdecoded]
  cases decoded s with
  | none => rfl
  | some d =>
    cases hr : tokenRefusal min d with
    | none => simp [hr, h d a s, followed_ite]
    | some code => simp [hr, refuseToken_followed, followed_ite]

/-! ## The step ends with a token's apply -/

/-- The next step that is due, if any, is a row of the table. -/
def RowNext (s : State) : Prop := ∀ d ∈ s.agenda.head?, d.isRow = true

theorem RowNext.same (h : RowNext s) (ht : t.agenda = s.agenda) : RowNext t := by rwa [RowNext, ht]

theorem completeEntry_rowNext (h : RowNext s) (r : Result) : RowNext (completeEntry r s) := by
  unfold completeEntry
  split
  · exact h
  · next w _ =>
    let u : State := markDue attnSlotDone (onMem (fun m => writeResult m w r) (onIntake (fun i => { i with work := none }) s))
    have htaken : RowNext (takeNext u) := takeNext_head_isRow h
    exact htaken.same (by simp [u])

/-- Behind the effect of a class a row of the table is next, where one was. -/
def EndsAtRow (act : Decoded → State → State) : Prop := ∀ d s, RowNext s → RowNext (act d s)

theorem acceptToken_rowNext (h : RowNext s) (fields : List Byte) : RowNext (acceptToken d fields s) := h.same (by simp)

theorem refuseToken_rowNext (h : RowNext s) (code : ResultCode) (item : Nat) : RowNext (refuseToken code item d s) :=
  completeEntry_rowNext h _

theorem applyTest_endsAtRow : EndsAtRow applyTest := fun d s h => by
  have hrecorded : RowNext (recordToken d s) := h.same rfl
  unfold applyTest
  split_ifs
  · exact refuseToken_rowNext h _ _
  · exact completeEntry_rowNext hrecorded _

theorem applyCredit_endsAtRow : EndsAtRow applyCredit := fun d s h => by
  unfold applyCredit topup
  dsimp only
  split_ifs
  · exact refuseToken_rowNext h _ _
  · exact refuseToken_rowNext h _ _
  · exact acceptToken_rowNext (h.same (by simp)) _

theorem applyDebtAdd_endsAtRow : EndsAtRow applyDebtAdd := fun d s h => by
  unfold applyDebtAdd
  dsimp only
  split_ifs
  · exact refuseToken_rowNext h _ _
  · exact acceptToken_rowNext (h.same (by simp)) _

theorem applyClear_endsAtRow : EndsAtRow applyClear := fun d s h => by
  unfold applyClear
  split_ifs
  · exact refuseToken_rowNext h _ _
  · exact acceptToken_rowNext (h.same (by simp)) _

theorem applySetting_endsAtRow : EndsAtRow applySetting := fun d s h => by
  unfold applySetting
  dsimp only
  split
  · exact refuseToken_rowNext h _ _
  · next p _ =>
    split_ifs
    · exact refuseToken_rowNext h _ _
    · exact refuseToken_rowNext h _ _
    · exact refuseToken_rowNext h _ _
    · exact refuseToken_rowNext h _ _
    · exact acceptToken_rowNext (h.same (by simp [stageSetting])) _

theorem applyWindowOpen_endsAtRow : EndsAtRow applyWindowOpen := fun d s h => by
  have hopen (rank seconds : Nat) : RowNext (openWindow rank seconds s) := h.same (by simp)
  unfold applyWindowOpen
  split_ifs
  · exact refuseToken_rowNext h _ _
  · exact refuseToken_rowNext h _ _
  · exact acceptToken_rowNext (hopen _ _) _

theorem applyTamperClear_endsAtRow : EndsAtRow applyTamperClear := fun d s h => by
  unfold applyTamperClear
  split_ifs
  · exact refuseToken_rowNext h _ _
  · exact acceptToken_rowNext (h.same (by simp [tamperClearArrives])) _

theorem applyKeyChange_endsAtRow : EndsAtRow applyKeyChange := fun d s h => by
  unfold applyKeyChange
  dsimp only
  split_ifs
  · exact refuseToken_rowNext h _ _
  · exact refuseToken_rowNext h _ _
  · exact h.same (by simp [recordToken, installKey, spendSerial])

theorem applyRemote_endsAtRow (on : Bool) : EndsAtRow (applyRemote on) := fun d s h => by
  unfold applyRemote
  split_ifs
  · exact refuseToken_rowNext h _ _
  · exact acceptToken_rowNext h _
  · exact acceptToken_rowNext (h.same (by simp)) _

theorem tokenApply_rowNext {act : Decoded → State → State} (hact : EndsAtRow act) (h : RowNext s) (cls min : Nat) :
    RowNext (tokenApply cls min act s) := by
  unfold tokenApply
  split
  · exact h
  · split_ifs
    · split
      · exact refuseToken_rowNext h _ _
      · exact hact _ _ h
    · exact h

/-- Each of the ten rows is the arrival of an apply that no step behind it touches, and that ends at a row. -/
theorem tokenRows_apply {x : Instr × Nat × Nat} (hx : x ∈ tokenRows) : ∃ cls min act, Unaware act ∧ EndsAtRow act ∧
    ∀ s, exec x.1 s = .next (arrival (tokenApply cls min act) s) := by
  simp only [tokenRows, List.mem_cons, List.not_mem_nil, or_false] at hx
  rcases hx with rfl | rfl | rfl | rfl | rfl | rfl | rfl | rfl | rfl | rfl
  · exact ⟨_, _, _, applyTest_unaware, applyTest_endsAtRow, fun _ => rfl⟩
  · exact ⟨_, _, _, applyCredit_unaware, applyCredit_endsAtRow, fun _ => rfl⟩
  · exact ⟨_, _, _, applyDebtAdd_unaware, applyDebtAdd_endsAtRow, fun _ => rfl⟩
  · exact ⟨_, _, _, applyClear_unaware, applyClear_endsAtRow, fun _ => rfl⟩
  · exact ⟨_, _, _, applySetting_unaware, applySetting_endsAtRow, fun _ => rfl⟩
  · exact ⟨_, _, _, applyWindowOpen_unaware, applyWindowOpen_endsAtRow, fun _ => rfl⟩
  · exact ⟨_, _, _, applyTamperClear_unaware, applyTamperClear_endsAtRow, fun _ => rfl⟩
  · exact ⟨_, _, _, applyKeyChange_unaware, applyKeyChange_endsAtRow, fun _ => rfl⟩
  · exact ⟨_, _, _, applyRemote_unaware true, applyRemote_endsAtRow true, fun _ => rfl⟩
  · exact ⟨_, _, _, applyRemote_unaware false, applyRemote_endsAtRow false, fun _ => rfl⟩

end Sys2Proof.Proofs
end

section
/-! SUPPORT. A second of the time base, and a catch-up with other arrivals between its day ends (R40, R56, R66). -/

namespace Sys2Proof.Proofs
open Sys2Proof.Machine Sys2Proof.Safety

variable {s t u v : State} {d : Due} {rest : List Due} {n k fuel : Nat}

/-! ## The steps of a run -/

theorem runUntil_step {stop : Due → Bool} (h : s.agenda = d :: rest) (hs : stop d = false) (hw : waits d s = false) :
    runUntil stop (fuel + 1) s = runUntil stop fuel (runDue d (onAgenda (fun _ => rest) s)) := by
  cases s
  subst h
  simp [runUntil, hs, hw]

theorem runUntil_of_waits {stop : Due → Bool} (h : s.agenda = d :: rest) (hw : waits d s = true) :
    runUntil stop fuel s = s := by
  cases fuel with
  | zero => rfl
  | succ k =>
    cases s
    subst h
    simp [runUntil, hw]

/-- The same steps are due, or a row of the table before them. -/
def AtMostRow (s t : State) : Prop := t.agenda = s.agenda ∨ ∃ e, e.isRow = true ∧ t.agenda = e :: s.agenda

theorem takeNext_atMostRow (s : State) : AtMostRow s (takeNext s) := by
  rcases takeNext_cases s with ⟨n, rest, -, -, -, ht⟩ | ht <;> rw [ht]
  · exact .inr ⟨_, dueOf_isRow (takenWork s.mem n), rfl⟩
  · exact .inl rfl

theorem completeEntry_atMostRow (r : Result) (s : State) : AtMostRow s (completeEntry r s) := by
  cases h : s.intake.work with
  | none => exact .inl (by simp [completeEntry, h])
  | some w =>
    have htaken := takeNext_atMostRow (markDue attnSlotDone
      (onMem (fun m => writeResult m w r) (onIntake (fun i => { i with work := none }) s)))
    simpa [completeEntry, h, AtMostRow] using htaken

/-- A due step that is no row leaves the rest due, or puts a row before it. -/
theorem runDue_atMostRow (hd : d.isRow = false) (s : State) : AtMostRow s (runDue d s) := by
  cases d <;> simp only [Due.isRow, Bool.true_eq_false] at hd
  case complete r => exact completeEntry_atMostRow r s
  case judge => exact .inl (by simp [runDue])
  case stuckTimer =>
    simp only [runDue, stepStuckTimer]
    split_ifs <;> simp [AtMostRow, Due.isRow, setStuckTimer]
  case stuckTest => exact .inl (by simp [runDue])
  case retryTimer =>
    simp only [runDue, stepRetryTimer]
    split_ifs <;> simp [AtMostRow, Due.isRow]
  case overCount =>
    simp only [runDue, stepOverCount]
    split_ifs <;> simp [AtMostRow, Due.isRow]
  case cleanRun =>
    simp only [runDue, stepCleanRun]
    split_ifs <;> simp [AtMostRow, Due.isRow]
  case condition c =>
    simp only [runDue, countCondition]
    split_ifs <;> simp [AtMostRow, Due.isRow]
  case weld =>
    simp only [runDue, countWeld]
    split_ifs <;> simp [AtMostRow, Due.isRow]
  case lockoutCount =>
    simp only [runDue, countLockout]
    split_ifs <;> simp [AtMostRow, Due.isRow]
  case windowCount =>
    simp only [runDue, countWindow]
    split_ifs <;> simp [AtMostRow, Due.isRow]
  case periodicCount =>
    simp only [runDue, countPeriodic]
    split_ifs <;> simp [AtMostRow, Due.isRow]
  case publish => exact .inl (by simp [runDue, beginInterval])
  case catchUp => exact .inl rfl
  case friendly => exact .inl (by simp [runDue])

theorem daysLeft_congr (hclock : t.clock = s.clock) (hbook : t.book = s.book) (hcatch : t.catchUp = s.catchUp)
    (hpower : t.supply.power = s.supply.power) (hstep : t.supply.startStep = s.supply.startStep) :
    daysLeft t = daysLeft s := by
  have hallowed : catchUpAllowed t = catchUpAllowed s := by simp only [catchUpAllowed, hclock, hpower, hstep]
  have hdue : daysDue t = daysDue s := by simp only [daysDue, today, hbook, hclock]
  rw [daysLeft, daysLeft, hallowed, hdue, hcatch]

/-- A due step that is no row issues no day end and moves no date: those of a catch-up stand on the agenda. -/
theorem runDue_daysLeft (hd : d.isRow = false) (s : State) : daysLeft (runDue d s) = daysLeft s := by
  cases d <;> simp only [Due.isRow, Bool.true_eq_false] at hd
  all_goals exact daysLeft_congr (by simp [runDue]) (by simp [runDue]) (by simp [runDue]) (by simp [runDue]) (by simp [runDue])

/-- Where a run ends (R66): nothing is due, or a row of the table is next, or a catch-up waits. -/
def RunOver (s : State) : Prop := ∀ d ∈ s.agenda.head?, d.isRow = true ∨ waits d s = true

theorem runUntil_of_over (h : RunOver s) (fuel : Nat) : runUntil Due.isRow fuel s = s := by
  cases ha : s.agenda with
  | nil => exact runUntil_of_stop (by simp [ha]) fuel
  | cons d rest =>
    rcases h d (by simp [ha]) with hd | hd
    · exact runUntil_of_stop (by simp [ha, hd]) fuel
    · exact runUntil_of_waits ha hd

/-- A run takes no more steps than are due when it begins: each leaves fewer, or a row of the table, where it ends. -/
theorem runUntil_over (h : s.agenda.length ≤ fuel) :
    RunOver (runUntil Due.isRow fuel s) ∧ ∀ k, fuel ≤ k → runUntil Due.isRow k s = runUntil Due.isRow fuel s := by
  induction fuel generalizing s with
  | zero =>
    have ha : s.agenda = [] := List.eq_nil_of_length_eq_zero (by omega)
    have hover : RunOver s := by simp [RunOver, ha]
    exact ⟨hover, fun k _ => runUntil_of_over hover k⟩
  | succ n ih =>
    by_cases hover : RunOver s
    · rw [runUntil_of_over hover]
      exact ⟨hover, fun k _ => runUntil_of_over hover k⟩
    cases ha : s.agenda with
    | nil => exact absurd (by simp [RunOver, ha]) hover
    | cons d rest =>
      have hd : d.isRow = false ∧ waits d s = false := by simpa [RunOver, ha] using hover
      have hstep (m : Nat) := runUntil_step (fuel := m) ha hd.1 hd.2
      rw [hstep n]
      generalize hu : runDue d (onAgenda (fun _ => rest) s) = u at *
      have hrest : AtMostRow (onAgenda (fun _ => rest) s) u := hu ▸ runDue_atMostRow hd.1 _
      rcases hrest with hrest | ⟨e, he, hrest⟩
      · have hlength : u.agenda.length ≤ n := by
          rw [hrest]
          simpa [ha] using h
        obtain ⟨hends, hmore⟩ := ih hlength
        refine ⟨hends, fun k hk => ?_⟩
        obtain ⟨m, rfl⟩ : ∃ m, k = m + 1 := ⟨k - 1, by omega⟩
        rw [hstep m]
        exact hmore m (by omega)
      · have hends : RunOver u := by simp [RunOver, hrest, he]
        rw [runUntil_of_over hends]
        refine ⟨hends, fun k hk => ?_⟩
        obtain ⟨m, rfl⟩ : ∃ m, k = m + 1 := ⟨k - 1, by omega⟩
        rw [hstep m, runUntil_of_over hends]

theorem runUntil_daysLeft (fuel : Nat) (s : State) : daysLeft (runUntil Due.isRow fuel s) = daysLeft s := by
  induction fuel generalizing s with
  | zero => rfl
  | succ n ih =>
    by_cases hover : RunOver s
    · rw [runUntil_of_over hover]
    cases ha : s.agenda with
    | nil => exact absurd (by simp [RunOver, ha]) hover
    | cons d rest =>
      have hd : d.isRow = false ∧ waits d s = false := by simpa [RunOver, ha] using hover
      rw [runUntil_step ha hd.1 hd.2, ih, runDue_daysLeft hd.1]
      exact daysLeft_congr rfl rfl rfl rfl rfl

/-- With no day end left and fewer than 128 steps due, a step goes on to a row of the table or to its end. -/
theorem advance_of_noDays (hn : daysLeft s = 0) (hlength : s.agenda.length < 128) :
    advance s = restCatchUp (runUntil Due.isRow 127 s) := by
  obtain ⟨hover, hsame⟩ := runUntil_over (s := s) (fuel := 127) (by omega)
  have hrun : runUntil Due.isRow dueBound s = runUntil Due.isRow 127 s := hsame 128 (by omega)
  have hleft := runUntil_daysLeft 127 s
  have hhead : (runUntil Due.isRow 127 s).agenda.head? ≠ some (.catchUp false) := by
    intro hc
    rcases hover _ hc with h | h
    · simp [Due.isRow] at h
    · simp [waits, hleft, hn] at h
  simp only [advance, hrun, if_neg hhead]

/-! ## A catch-up in progress (R66) -/

theorem daysToCome_eq (h : 0 < daysToCome s) : daysLeft s = daysToCome s := by
  unfold daysToCome at *
  cases hd : s.book.lastCharged with
  | none => simp [hd] at h
  | some d =>
    simp only [hd] at h ⊢
    by_cases hp : s.supply.power = .mains ∧ s.clock.certain = true
    · simp [daysLeft, catchUpAllowed, daysDue, today, hd, hp.1, hp.2]
    · rw [if_neg hp] at h
      exact absurd h (by omega)

theorem between_waits (h : BetweenDays s rest) : waits (.catchUp false) s = true := by
  have hleft := h.left
  simp [waits, Due.isCatchUp, daysToCome_eq hleft, hleft]

theorem between_settled (h : BetweenDays s rest) : settle s = s := runUntil_of_waits h.waits (between_waits h)

/-- Behind an arrival that leaves it waiting, a catch-up goes on. -/
theorem between_advances (h : BetweenDays s rest) :
    advance s = restCatchUp (runUntil Due.isRow dueBound (catchUpGoesOn s)) := by
  have hrun : runUntil Due.isRow dueBound s = s := runUntil_of_waits h.waits (between_waits h)
  simp only [advance, hrun, h.waits, List.head?_cons, if_true]

/-- A token's apply between two day ends. -/
theorem tokens_between {x : Instr × Nat × Nat} (hx : x ∈ tokenRows) (h : BetweenDays s rest) :
    ∃ t, exec x.1 { s with agenda := [] } = .next t ∧
      exec x.1 s = .next (advance { t with agenda := t.agenda ++ s.agenda }) := by
  obtain ⟨cls, min, act, hunaware, hends, hexec⟩ := tokenRows_apply hx
  let s₀ : State := { s with agenda := [] }
  have hrow : RowNext (tokenApply cls min act s₀) := tokenApply_rowNext hends (by simp [RowNext, s₀]) cls min
  have hwhole : s = followed s.agenda s₀ := rfl
  refine ⟨tokenApply cls min act s₀, ?_, ?_⟩
  · rw [hexec, arrival_of_idle rfl, advance_of_row hrow]
  · rw [hexec, arrival, between_settled h]
    conv_lhs => rw [hwhole, tokenApply_followed hunaware]
    rfl

theorem between_goesOn (h : BetweenDays s rest) :
    let n := daysToCome s
    let k := min n (Config.dayEndsTogether s.catchUp.choices)
    CaughtUp s (catchUpGoesOn s) k n ∧ (catchUpGoesOn s).catchUp = ⟨s.catchUp.issued + k, s.catchUp.choices + 1⟩ := by
  have hwhole : CaughtUp s s 0 (daysToCome s) := ⟨.refl s, rfl, rfl, daysToCome_eq h.left⟩
  have hgoes := catchUpGoesOn_caughtUp hwhole h.left
  rwa [Nat.zero_add, Nat.sub_zero, Nat.min_comm] at hgoes

/-- The catch-up goes on behind an arrival, to the next one or to its last day end and what stands behind it. -/
theorem between_advance (h : BetweenDays s rest) (hlength : rest.length < 128) : advance s =
    if min (daysToCome s) (Config.dayEndsTogether s.catchUp.choices) < daysToCome s then catchUpGoesOn s
    else advance { catchUpGoesOn s with agenda := rest } := by
  have hleft := (between_goesOn h).1.left
  have hagenda : (catchUpGoesOn s).agenda = .catchUp false :: rest := by simp [h.waits]
  rw [between_advances h]
  split_ifs with hk
  · have hwaits : waits (.catchUp false) (catchUpGoesOn s) = true := by
      simp only [waits, Due.isCatchUp, Bool.true_and, decide_eq_true_eq]
      omega
    rw [runUntil_of_waits hagenda hwaits]
    exact onAgenda_of_same (by rw [hagenda])
  · have hdone : daysLeft (catchUpGoesOn s) = 0 := by omega
    have hwaits : waits (.catchUp false) (catchUpGoesOn s) = false := by simp [waits, hdone]
    rw [dueBound, runUntil_step hagenda rfl hwaits, advance_of_noDays (hdone ▸ daysLeft_congr rfl rfl rfl rfl rfl) hlength]
    rfl

/-! ## A second (R40, R50, R56) -/

theorem tick_run (s : State) : DaysRun s (tick s) 0 := daysRun_none rfl rfl rfl rfl rfl (dueStands_of_eq rfl) rfl

theorem advance_of_waiting (ha : s.agenda = .catchUp true :: rest) (hn : 0 < daysLeft s) :
    advance s = { s with agenda := .catchUp false :: rest } := by
  have hwaits : waits (.catchUp true) s = true := by simp [waits, Due.isCatchUp, hn]
  have hrun : runUntil Due.isRow dueBound s = s := runUntil_of_waits ha hwaits
  simp only [advance, hrun, ha, List.head?_cons, Option.some.injEq, Due.catchUp.injEq, Bool.true_eq_false, if_false,
    restCatchUp, onAgenda]

/-- How many of the `n` day ends of a catch-up that begins come about before another arrival: in START all of them. -/
def daysFirst (s : State) (n : Nat) : Nat := if s.supply.power = .start then n else daysAtOnce s n

theorem daysFirst_le (s : State) (n : Nat) : daysFirst s n ≤ n := by
  unfold daysFirst daysAtOnce
  split_ifs <;> omega

theorem catchUp_begins (hc : catchingUp s = false) :
    CaughtUp s (catchUp s) (daysFirst s (dayEndsToIssue s)) (dayEndsToIssue s) ∧
      (s.supply.power ≠ .start →
        (catchUp s).catchUp = catchUpBegun s (daysFirst s (dayEndsToIssue s)) (dayEndsToIssue s)) := by
  by_cases hp : s.supply.power = .start
  · simp only [daysFirst, hp, if_true, catchUp_of_start hc hp]
    exact ⟨(catchUpWhole_caughtUp s).1, fun h => absurd rfl h⟩
  · simp only [daysFirst, if_neg hp]
    obtain ⟨hcaught, hcatch⟩ := catchUp_caughtUp hc hp
    exact ⟨hcaught, fun _ => hcatch⟩

/-- What stands behind a catch-up waits for its day ends, where some are left. -/
theorem catchUpThen_begins (hc : catchingUp s = false) (later : List Due) (behind : State → State) :
    catchUpThen later behind s =
      if daysFirst s (dayEndsToIssue s) < dayEndsToIssue s then onAgenda (fun a => .catchUp true :: (later ++ a)) (catchUp s)
      else behind (catchUp s) := by
  have hleft := (catchUp_begins hc).1.left
  have hle := daysFirst_le s (dayEndsToIssue s)
  unfold catchUpThen
  simp only [hc, Bool.false_or, decide_eq_true_eq, hleft]
  by_cases hk : daysFirst s (dayEndsToIssue s) < dayEndsToIssue s
  · rw [if_neg (by omega), if_pos hk]
  · rw [if_pos (by omega), if_neg hk]

theorem evaluateFriendly_between (hs : s.switch = u.switch ∧ s.settings = u.settings ∧ s.supply = u.supply ∧ s.tamper = u.tamper) :
    HandOff s { s with switch := { s.switch with friendly := friendlyState u } } (evaluateFriendly u)
      (handing s = true ∧ friendlyState u ≠ s.switch.friendly) := by
  obtain ⟨hsw, hset, hsup, htam⟩ := hs
  have hhanding : handing u = handing s := handing_congr (by rw [hsup]) (by rw [hsup])
  unfold evaluateFriendly
  constructor
  · rintro ⟨hh, hne⟩
    rw [if_pos (by simp [hhanding, hh, ← hsw, hne])]
    exact evaluated_between (u := onSwitch (fun x => { x with friendly := friendlyState u }) u)
      ⟨by simp [hsw], hset, by simp [hsup], htam⟩ (.refl _) marks_of_due
  · intro hn
    rw [if_neg (by simpa [hhanding, hsw] using hn)]
    exact ⟨hsw.symm, htam.symm⟩

/-- A second in MAINS, HOLDUP and START. -/
theorem second_passes (pins : SensePins) (ha : s.agenda = []) (hp : s.supply.power ≠ .battery) :
    let n := dayEndsToIssue (tick s)
    let k := daysFirst s n
    exec (.meterSecond pins) s = .next (if k < n then { catchUp (tick s) with agenda := [.catchUp false, .friendly] }
      else evaluateFriendly (catchUp (tick s))) := by
  intro n k
  have hc : catchingUp (tick s) = false := catchingUp_of_idle ha
  have hmeter : meterSecond pins s = catchUpThen [.friendly] evaluateFriendly (tick s) := by simp [meterSecond, hp]
  have hexec : exec (.meterSecond pins) s = .next (arrival (meterSecond pins) s) := rfl
  have hthen := catchUpThen_begins hc [.friendly] evaluateFriendly
  rw [hexec, arrival_of_idle ha, hmeter, hthen]
  by_cases hk : k < n
  · have hk' : daysFirst (tick s) (dayEndsToIssue (tick s)) < dayEndsToIssue (tick s) := hk
    have hleft := (catchUp_begins hc).1.left
    rw [if_pos hk', if_pos hk, advance_of_waiting (rest := [.friendly]) (by simp [tick, ha])]
    · rfl
    · have hsame : daysLeft (onAgenda (fun a => .catchUp true :: ([.friendly] ++ a)) (catchUp (tick s))) =
          daysLeft (catchUp (tick s)) := daysLeft_congr rfl rfl rfl rfl rfl
      omega
  · have hk' : ¬daysFirst (tick s) (dayEndsToIssue (tick s)) < dayEndsToIssue (tick s) := hk
    rw [if_neg hk', if_neg hk, advance_of_idle (by simp [tick, ha])]

theorem tick_days (s : State) : dayEndsToIssue (tick s) =
    dayEndsAt s (s.clock.certain && (decide (s.supply.power = .mains) ||
      (decide (s.supply.power = .start) && decide (s.supply.startStep = 2)))) (min 4294967295 (s.clock.time + 1)) := by
  rw [dayEndsToIssue_eq]
  rfl

/-- Settles O51: dates and calendars, the catch-up that a second begins, and the one that an arrival finds in progress. -/
theorem secondsPass : Obligations.SecondsPass := by
  refine ⟨civilDates, calendarSays, fun pins s ha hp => ?second, fun x hx s rest h => tokens_between hx h,
    fun s rest h hlength hb => ?resumes⟩
  case second =>
    intro now n k friendly
    have hn : dayEndsToIssue (tick s) = n := tick_days s
    have hc : catchingUp (tick s) = false := catchingUp_of_idle ha
    have hexec := second_passes pins ha hp
    obtain ⟨hcaught, hcatch⟩ := catchUp_begins hc
    dsimp only at hexec
    rw [hn] at hexec hcaught hcatch
    have hk : daysFirst s n = k := rfl
    have hk' : daysFirst (tick s) n = k := rfl
    have hle : k ≤ n := daysFirst_le s n
    rw [hk] at hexec
    rw [hk'] at hcaught hcatch
    have hrun : DaysRun s (catchUp (tick s)) k := by
      have h := (tick_run s).trans hcaught.toDaysRun
      rwa [Nat.zero_add] at h
    have hfriendly : friendlyState (catchUp (tick s)) = friendly := by
      rw [friendlyState, hcaught.clock, hcaught.active]
      rfl
    have hbook : (catchUp (tick s)).book = { s.book with lastCharged := chargedDate s k n (localDate now s.book.active) } :=
      hcaught.book
    by_cases hkn : k < n
    · rw [if_pos hkn] at hexec
      refine ⟨_, hexec, ?_, hcaught.clock, hbook, ?_, (if_pos hkn).symm, hcatch, ?_, fun h0 => absurd hkn (by omega)⟩
      · rw [sameExcept_iff]
        simp [tick]
      · exact hrun.ended_behind (.refl _) rfl rfl ⟨rfl, rfl, rfl⟩ marks_of_due
      · rw [if_neg (by omega)]
        exact hrun.friendly
    · have hall : k = n := by omega
      rw [if_neg hkn] at hexec
      refine ⟨_, hexec, ?_, ?_, ?_, ?_, ?_, ?_, ?_, fun h0 => ?_⟩
      · rw [sameExcept_iff]
        simp [tick]
      · simp only [evaluateFriendly_keeps]
        exact hcaught.clock
      · simpa only [evaluateFriendly_keeps] using hbook
      · exact hrun.ended_behind (evaluateFriendly_fed _) (by simp only [evaluateFriendly_keeps])
          (by simp only [evaluateFriendly_keeps]) ⟨rfl, rfl, by simp only [evaluateFriendly_keeps]⟩ marks_of_due
      · rw [if_neg hkn]
        simp [tick, ha]
      · simp only [evaluateFriendly_keeps]
        exact hcatch
      · rw [evaluateFriendly_friendly, hrun.handing, hfriendly, hrun.friendly]
        simp [hall]
      · have hidle : catchUp (tick s) = tick s := by
          have hzero : dayEndsToIssue (tick s) = 0 := hn.trans h0
          simp [catchUp, hzero]
        have hbetween := evaluateFriendly_between (s := s) (u := tick s) ⟨rfl, rfl, rfl, rfl⟩
        rw [← hidle, hfriendly] at hbetween
        exact hbetween
  case resumes =>
    intro n k
    obtain ⟨hcaught, hcatch⟩ := between_goesOn h
    have hquiet : endPublication s = s := by simp [endPublication, hb]
    have hexec : exec .publicationEnd s = .next (arrival endPublication s) := rfl
    refine ⟨catchUpGoesOn s, ?_, ?_, hcaught.book, hcaught.ended, hcatch⟩
    · rw [hexec, arrival, between_settled h, hquiet, between_advance h hlength]
    · rw [sameExcept_iff]
      simp

end Sys2Proof.Proofs
end

section
/-! SUPPORT. The entries to MAINS (R177, R185, R186): a catch-up begins, and the intake opens behind it. -/

namespace Sys2Proof.Proofs
open Sys2Proof.Machine Sys2Proof.Safety

variable {s t u v : State} {rest : List Due} {n k : Nat}

/-! ## The intake opens (R13, R16) -/

theorem openIntake_idle (h : s.intake.work ≠ none ∨ s.intake.list = []) :
    openIntake s = onIntake (fun x => { x with ready := true }) s := by
  rcases takeNext_cases (onIntake (fun x => { x with ready := true }) s) with ⟨n, rest, hl, hw, -, -⟩ | ht
  · have hl' : s.intake.list = n :: rest := hl
    rcases h with h | h
    · exact absurd hw h
    · rw [hl'] at h
      exact absurd h (by simp)
  · exact ht

theorem openIntake_head {rest : List Nat} (hw : s.intake.work = none) (hl : s.intake.list = n :: rest) :
    openIntake s = dueFirst (dueOf (takenWork s.mem n)) (onMem (fun m => m.write (slotBase n) ownerTaken)
      (onIntake (fun _ => ⟨rest, some (takenWork s.mem n), true⟩) s)) :=
  takeNext_of_head (s := onIntake (fun x => { x with ready := true }) s) hw rfl hl

/-! ## The catch-up of an entry to MAINS, with nothing behind it -/

/-- What the catch-up that an entry to MAINS begins leaves, with the step that waits for the rest of its day ends. -/
def caught (s : State) : State := catchUpThen [] id s

theorem caught_begins (hc : catchingUp s = false) (hp : s.supply.power ≠ .start) :
    let n := dayEndsToIssue s
    let k := daysAtOnce s n
    CaughtUp s (caught s) k n ∧ (caught s).catchUp = catchUpBegun s k n ∧
      (caught s).agenda = if k < n then .catchUp true :: s.agenda else s.agenda := by
  intro n k
  obtain ⟨hcaught, hcatch⟩ := catchUp_caughtUp hc hp
  have hfirst : daysFirst s n = k := if_neg hp
  have hthen : caught s = if k < n then onAgenda (fun a => .catchUp true :: ([] ++ a)) (catchUp s) else id (catchUp s) := by
    rw [← hfirst]
    exact catchUpThen_begins hc [] id
  have hsame (f : List Due → List Due) : CaughtUp s (onAgenda f (catchUp s)) k n := by
    refine ⟨?_, hcaught.clock, hcaught.book, hcaught.left⟩
    exact hcaught.toDaysRun.trans (k := 0) (daysRun_none rfl rfl rfl rfl rfl (dueStands_of_eq rfl) rfl)
  rw [hthen]
  split_ifs with hk
  · exact ⟨hsame _, hcatch, by simp⟩
  · exact ⟨hcaught, hcatch, by simp⟩

theorem caught_none (h : dayEndsToIssue s = 0) : caught s = s := by
  have hidle : catchUp s = s := by simp [catchUp, h]
  have hleft : daysLeft s = 0 := by
    have := daysLeft_le s
    omega
  simp [caught, catchUpThen, hidle, hleft]

@[simp] theorem caught_keeps (s : State) :
    (caught s).pending = s.pending ∧ (caught s).link = s.link ∧ (caught s).mem = s.mem ∧ (caught s).intake = s.intake ∧
    (caught s).attn.mask = s.attn.mask ∧ (caught s).meter = s.meter ∧ (caught s).energy = s.energy ∧
    (caught s).settings = s.settings ∧ (caught s).window = s.window ∧ (caught s).battery = s.battery ∧
    (caught s).store = s.store ∧ (caught s).supply = s.supply ∧ (caught s).pins = s.pins ∧ (caught s).clock = s.clock ∧
    (caught s).attn.bits = s.attn.bits ∧ (caught s).attn.busy = s.attn.busy := by
  rcases catchUpThen_cases [] id s with h | ⟨-, -, h⟩ <;> simp [caught, h]

/-- The step that entered MAINS ends: a catch-up with day ends left waits for them. -/
theorem advance_caught (hn : daysLeft s = n - k) (ha : s.agenda = if k < n then [.catchUp true] else []) :
    advance s = { s with agenda := if k < n then [.catchUp false] else [] } := by
  by_cases hk : k < n
  · rw [if_pos hk] at ha ⊢
    exact advance_of_waiting ha (by omega)
  · rw [if_neg hk] at ha ⊢
    rw [advance_of_idle ha, ← ha]

/-- What an opened intake leaves at the end of the step that entered MAINS: the list's head taken, where nothing is in work. -/
structure IntakeOpened (s t : State) (k n : Nat) : Prop where
  frame : SameExcept [.agenda, .mem, .intake] s t
  idle : s.intake.work ≠ none ∨ s.intake.list = [] → t.intake = { s.intake with ready := true } ∧ t.mem = s.mem ∧
    t.agenda = if k < n then [.catchUp false] else []
  head : ∀ m rest, s.intake.work = none → s.intake.list = m :: rest →
    t.intake = ⟨rest, some (takenWork s.mem m), true⟩ ∧ ownerOf t.mem m = ownerTaken ∧
      (∀ a, a ≠ slotBase m → t.mem.read a = s.mem.read a) ∧
      t.agenda = dueOf (takenWork s.mem m) :: if k < n then [.catchUp true] else []

theorem IntakeOpened.stands (h : IntakeOpened s t k n) : t.pending = s.pending ∧ t.link = s.link ∧ t.attn = s.attn ∧
    t.meter = s.meter ∧ t.energy = s.energy ∧ t.clock = s.clock ∧ t.book = s.book ∧ t.credit = s.credit ∧
    t.decoder = s.decoder ∧ t.settings = s.settings ∧ t.window = s.window ∧ t.switch = s.switch ∧ t.tamper = s.tamper ∧
    t.battery = s.battery ∧ t.store = s.store ∧ t.supply = s.supply ∧ t.pins = s.pins ∧ t.catchUp = s.catchUp := by
  simpa using (sameExcept_iff _ _ _).mp h.frame

/-- An intake with nothing to take opens, and the step ends. -/
theorem openIntake_ends (h : s.intake.work ≠ none ∨ s.intake.list = []) (hn : daysLeft s = n - k)
    (ha : s.agenda = if k < n then [.catchUp true] else []) : advance (openIntake s) =
      { s with
        intake := { s.intake with ready := true }
        agenda := if k < n then [.catchUp false] else [] } := by
  have hopen := openIntake_idle h
  have hleft : daysLeft (openIntake s) = n - k := by
    rw [hopen, ← hn]
    exact daysLeft_congr rfl rfl rfl rfl rfl
  rw [advance_caught hleft (by rw [hopen]; exact ha), hopen]
  rfl

theorem openIntake_opened (hwf : s.mem.wf = true) (hn : daysLeft s = n - k)
    (ha : s.agenda = if k < n then [.catchUp true] else []) : IntakeOpened s (advance (openIntake s)) k n := by
  by_cases h : s.intake.work ≠ none ∨ s.intake.list = []
  · rw [openIntake_ends h hn ha]
    refine ⟨by rw [sameExcept_iff]; simp, fun _ => ⟨rfl, rfl, rfl⟩, fun m rest hw hl => ?_⟩
    rcases h with h | h
    · exact absurd hw h
    · rw [hl] at h
      exact absurd h (by simp)
  · obtain ⟨hw, hl⟩ := not_or.mp h
    obtain ⟨m, rest, hhead⟩ := List.exists_cons_of_ne_nil hl
    have hnone := not_not.mp hw
    have hopen := openIntake_head hnone hhead
    have hends : advance (openIntake s) = openIntake s := advance_of_row (by rw [hopen]; simp [dueOf_isRow])
    rw [hends, hopen]
    refine ⟨by rw [sameExcept_iff]; simp, fun hx => absurd hx h, fun m' rest' _ hl' => ?_⟩
    obtain ⟨rfl, rfl⟩ : m = m' ∧ rest = rest' := by simpa using hhead.symm.trans hl'
    refine ⟨rfl, ownerOf_write_same hwf m _, fun a hne => Memory.read_write_other _ _ hne, ?_⟩
    simp [ha]

/-- `k` of the `n` missed days have been charged as MAINS is entered from `s`, and the rest waits. -/
structure MissedDays (s t : State) (k n : Nat) : Prop extends DaysRun s t k where
  book : t.book = { s.book with lastCharged := chargedDate s k n (localDate s.clock.time s.book.active) }
  catchUp : t.catchUp = catchUpBegun s k n
  left : daysLeft t = n - k
  agenda : t.agenda = if k < n then [.catchUp true] else []

theorem missedDays_toIssue (hbook : u.book = s.book) (hclock : u.clock = s.clock) (hp : u.supply.power = .mains) :
    dayEndsToIssue u = dayEndsAt s s.clock.certain s.clock.time := by
  rw [dayEndsToIssue_eq]
  simp [catchUpAllowed, dayEndsAt, hbook, hclock, hp]

/-- The missed days of an entry to MAINS, where what comes before them reaches no clock, no calendar and no count of theirs. -/
theorem caught_missedDays (hrun : DaysRun s u 0) (hbook : u.book = s.book) (hclock : u.clock = s.clock)
    (hcatch : u.catchUp = s.catchUp) (ha : u.agenda = []) (hp : u.supply.power = .mains) :
    MissedDays s (caught u) (daysAtOnce s (dayEndsAt s s.clock.certain s.clock.time))
      (dayEndsAt s s.clock.certain s.clock.time) := by
  have hdays := missedDays_toIssue hbook hclock hp
  have hfirst (n : Nat) : daysAtOnce u n = daysAtOnce s n := by simp only [daysAtOnce, hcatch]
  obtain ⟨hcaught, hchoice, hagenda⟩ := caught_begins (catchingUp_of_idle ha) (by simp [hp])
  rw [hdays, hfirst] at hcaught hchoice hagenda
  have hwhole := hrun.trans hcaught.toDaysRun
  rw [Nat.zero_add] at hwhole
  refine ⟨hwhole, ?_, ?_, hcaught.left, by rw [hagenda, ha]⟩
  · rw [hcaught.book, today, hclock, hbook]
    simp only [chargedDate, hbook]
  · rw [hchoice]
    simp only [catchUpBegun, hcatch]

/-! ## The return from HOLDUP (R177, R154) -/

/-- What a day end reads and tells of the switch controller stands, and all else that it reads. -/
theorem daysRun_apart (hcredit : t.credit = s.credit) (hdecoder : t.decoder = s.decoder)
    (hswitch : t.switch.reasons = s.switch.reasons ∧ t.switch.friendly = s.switch.friendly ∧
      t.switch.windowHold = s.switch.windowHold ∧ t.switch.acting = s.switch.acting)
    (hsettings : t.settings = s.settings) (hactive : t.book.active = s.book.active) (hdue : t.attn.due = s.attn.due)
    (hhanding : handing t = handing s) : DaysRun s t 0 := by
  obtain ⟨hreasons, hfriendly, hhold, hacting⟩ := hswitch
  have hsets := sets_congr (s := s) (t := t) hreasons hfriendly hhold hsettings
  exact
    { due := fun hchange => by simp [Derivedly, hcredit] at hchange
      stands := dueStands_of_eq hdue
      reasons := by rw [hreasons]
      handed := fun _ hr => by rw [hreasons, hcredit, hr]
      acting := fun hs => by rw [hacting, hsets.2.1, hs]
      handing := hhanding
      decoder := by rw [hdecoder]; rfl
      none := fun _ => hcredit
      credit := fun h => absurd h (by omega)
      active := hactive
      settings := hsettings
      friendly := hfriendly }

/-- The switch controller as it goes on in MAINS (R154). -/
def resumedSwitch (x : Switch) : Switch :=
  match x.attempt with
  | .rewait w => { x with attempt := .wait w }
  | .deferred w => { x with
      attempt := .pulse w
      attemptCount := x.attemptCount + 1
      kept := { x.kept with commandedClosed := if x.contactor = .stuck then x.kept.commandedClosed else decide (w = .close) } }
  | _ => x

theorem resumeSwitch_eq (s : State) : resumeSwitch s = onSwitch resumedSwitch s := by
  cases h : s.switch.attempt <;> simp [resumeSwitch, resumedSwitch, onSwitch, beginPulse, h]

theorem resumedSwitch_stands (x : Switch) : (resumedSwitch x).reasons = x.reasons ∧
    (resumedSwitch x).friendly = x.friendly ∧ (resumedSwitch x).windowHold = x.windowHold ∧
    (resumedSwitch x).acting = x.acting := by
  unfold resumedSwitch
  split <;> exact ⟨rfl, rfl, rfl, rfl⟩

/-- MAINS as the return from a hold-up finds it, before the missed days. -/
def returned (s : State) : State :=
  resumeSwitch (beginInterval (raiseNow attnSupply (setMains (setVsLow false s))))

theorem returned_eq (s : State) : returned s = { s with
    supply := { s.supply with power := .mains, vsLow := false }
    attn := { s.attn with bits := s.attn.bits ||| 0x10 }
    meter := { s.meter with law := s.settings.summationLaw, magnetPower := s.settings.magnetPower }
    switch := resumedSwitch s.switch } := resumeSwitch_eq _

theorem returned_run (hp : s.supply.power = .holdup) : DaysRun s (returned s) 0 := by
  rw [returned_eq]
  refine daysRun_apart rfl rfl (resumedSwitch_stands s.switch) rfl rfl rfl ?_
  simp [handing, hp]

theorem exec_holdupReturn (ha : s.agenda = []) (hp : s.supply.power = .holdup) (hr : s.supply.resetHold = false) :
    exec .holdupReturn s = .next (advance (openIntake (caught (returned s)))) := by
  have hexec : exec .holdupReturn s = .next (arrival vsRises s) := rfl
  have hrises : vsRises s = openIntake (caught (returned s)) := by
    have hr' : (setVsLow false s).supply.resetHold = false := hr
    simp [vsRises, hp, hr, caught, returned]
  rw [hexec, arrival_of_idle ha, hrises]

/-- Settles O57: the catch-up of the entry to MAINS, and then the intake, which takes what waits for it or nothing. -/
theorem holdupReturns : Obligations.HoldupReturns := by
  intro s ha hwf hp hr days k
  have hreturned := returned_eq s
  have hmissed := caught_missedDays (returned_run hp) (by rw [hreturned]) (by rw [hreturned]) (by rw [hreturned])
    (by rw [hreturned]; exact ha) (by rw [hreturned])
  have hopened := openIntake_opened (s := caught (returned s)) (by simpa [hreturned] using hwf) hmissed.left hmissed.agenda
  have hexec := exec_holdupReturn ha hp hr
  have hframe := hopened.stands
  generalize advance (openIntake (caught (returned s))) = t at *
  obtain ⟨tpending, tlink, tattn, tmeter, tenergy, tclock, tbook, tcredit, tdecoder, tsettings, twindow, tswitch, ttamper,
    tbattery, tstore, tsupply, tpins, tcatch⟩ := hframe
  refine ⟨t, hexec, ?frame, ?supply, ?bits, ?meter, fun h => ?idle, fun m rest hw hl => ?head, tbook.trans hmissed.book, ?ended,
    tcatch.trans hmissed.catchUp, fun h0 => ?none⟩
  case frame =>
    rw [sameExcept_iff]
    simp [tpending, tlink, tenergy, tclock, tsettings, twindow, tbattery, tstore, tpins, hreturned]
  case supply => simp [tsupply, hreturned]
  case bits => simp [tattn, hreturned]
  case meter => simp [tmeter, hreturned]
  case idle => simpa [hreturned] using hopened.idle (by simpa [hreturned] using h)
  case head => simpa [hreturned] using hopened.head m rest (by simpa [hreturned] using hw) (by simpa [hreturned] using hl)
  case ended =>
    refine hmissed.toDaysRun.ended_behind (.refl _) tcredit tdecoder ⟨tswitch, tsettings, rfl⟩ fun hi => ?_
    exact marks_of_due (by rw [tattn]; exact hi)
  case none =>
    have hidle : caught (returned s) = returned s :=
      caught_none ((missedDays_toIssue (by rw [hreturned]) (by rw [hreturned]) (by rw [hreturned])).trans h0)
    rw [ttamper, tswitch, hidle, hreturned]
    refine ⟨rfl, ?_⟩
    cases h : s.switch.attempt <;> simp [resumedSwitch, h]

end Sys2Proof.Proofs
end

section
/-! SUPPORT. The end of a start (R185, R186): MAINS, or HOLDUP where START remembered it. -/

namespace Sys2Proof.Proofs
open Sys2Proof.Machine Sys2Proof.Safety

variable {s t u v : State} {d : Due} {n k fuel : Nat} {reset low : Bool}

/-! ## A hold-up stands through what follows its entry -/

/-- HOLDUP has been entered, with SUPPLY raised, the intake closed and nothing remembered. -/
structure HeldUp (reset low : Bool) (s : State) : Prop where
  power : s.supply.power = .holdup
  reset : s.supply.resetHold = reset
  low : s.supply.vsLow = low
  forgotten : s.supply.resetRemembered = false
  closed : s.intake.ready = false
  told : s.attn.bits.getLsbD 4 = true

theorem HeldUp.same (h : HeldUp reset low s) (hpower : t.supply.power = s.supply.power)
    (hreset : t.supply.resetHold = s.supply.resetHold) (hlow : t.supply.vsLow = s.supply.vsLow)
    (hforgotten : t.supply.resetRemembered = s.supply.resetRemembered) (hready : t.intake.ready = s.intake.ready)
    (hbits : t.attn.bits = s.attn.bits) : HeldUp reset low t :=
  ⟨hpower.trans h.power, hreset.trans h.reset, hlow.trans h.low, hforgotten.trans h.forgotten, hready.trans h.closed,
    by rw [hbits]; exact h.told⟩

theorem HeldUp.runDue (h : HeldUp reset low s) (hd : d.isRow = false) : HeldUp reset low (runDue d s) := by
  cases d <;> simp only [Due.isRow, Bool.true_eq_false] at hd
  all_goals
    exact h.same (by simp [Machine.runDue]) (by simp [Machine.runDue]) (by simp [Machine.runDue])
      (by simp [Machine.runDue]) (by simp [Machine.runDue]) (by simp [Machine.runDue])

theorem HeldUp.runUntil (h : HeldUp reset low s) (fuel : Nat) : HeldUp reset low (runUntil Due.isRow fuel s) := by
  induction fuel generalizing s with
  | zero => exact h
  | succ n ih =>
    by_cases hover : RunOver s
    · rwa [runUntil_of_over hover]
    cases ha : s.agenda with
    | nil => exact absurd (by simp [RunOver, ha]) hover
    | cons d rest =>
      have hd : d.isRow = false ∧ waits d s = false := by simpa [RunOver, ha] using hover
      rw [runUntil_step ha hd.1 hd.2]
      exact ih (HeldUp.runDue (h.same rfl rfl rfl rfl rfl rfl) hd.1)

theorem HeldUp.advance (h : HeldUp reset low s) : HeldUp reset low (advance s) := by
  have hrun := h.runUntil dueBound
  have hgoes : HeldUp reset low (catchUpGoesOn (Machine.runUntil Due.isRow dueBound s)) :=
    hrun.same (by simp) (by simp) (by simp) (by simp) (by simp) (by simp)
  simp only [Machine.advance]
  split_ifs
  · exact (hgoes.runUntil dueBound).same rfl rfl rfl rfl rfl rfl
  · exact hrun.same rfl rfl rfl rfl rfl rfl

theorem enterHoldup_heldUp (hf : s.supply.resetRemembered = false) (reset : Bool) (p : PartMeasurement) :
    HeldUp reset s.supply.vsLow (enterHoldup reset p s) where
  power := by simp [enterHoldup, dropPower]
  reset := by simp [enterHoldup, dropPower]
  low := by simp
  forgotten := by simpa using hf
  closed := by simp [enterHoldup, dropPower]
  told := by simp [enterHoldup, raiseNow, attnSupply]

/-- VS low, RESET_N Low, or both, as MAINS is entered: a hold-up begins at once (R186). -/
theorem remembered_heldUp (hp : s.supply.power = .mains) (hl : s.supply.vsLow = false) (hf : s.supply.resetRemembered = false)
    {low reset : Bool} (h : low = true ∨ reset = true) (p q : PartMeasurement) :
    let fallen := if low then vsFalls p s else s
    HeldUp reset low (if reset then resetLow q fallen else fallen) := by
  have hfall : vsFalls p s = enterHoldup false p (setVsLow true s) := by simp [vsFalls, hp]
  have hmains : resetLow q s = enterHoldup true q s := by simp [resetLow, hp]
  have hfallen : HeldUp false true (enterHoldup false p (setVsLow true s)) := by
    have hlow : (setVsLow true s).supply.vsLow = true := rfl
    have hforgotten : (setVsLow true s).supply.resetRemembered = false := hf
    have hheld := enterHoldup_heldUp hforgotten false p
    rwa [hlow] at hheld
  have hagain : resetLow q (enterHoldup false p (setVsLow true s)) =
      markReset (enterHoldup false p (setVsLow true s)) := by simp [resetLow, hfallen.power, hfallen.reset]
  cases low <;> cases reset
  · exact absurd h (by decide)
  · simp only [Bool.false_eq_true, if_false, if_true, hmains]
    exact hl ▸ enterHoldup_heldUp hf true q
  · simp only [Bool.false_eq_true, if_false, if_true, hfall]
    exact hfallen
  · simp only [if_true, hfall, hagain]
    obtain ⟨hpower, hreset, hlow, hforgotten, hclosed, htold⟩ := hfallen
    generalize enterHoldup false p (setVsLow true s) = x at *
    exact ⟨by simp [markReset, hpower], by simp [markReset], by simp [markReset, hlow], by simp [markReset, hforgotten],
      by simp [markReset, hclosed], by simp [markReset, htold]⟩

/-! ## START_READY (R185) -/

/-- MAINS as the last step of a start finds it, before the missed days. -/
def begun (s : State) : State := beginInterval (beginMains (onAgenda (fun _ => []) s))

theorem begun_eq (s : State) : begun s = { s with
    agenda := []
    supply := { s.supply with power := .mains, vsLow := false, resetRemembered := false }
    meter := { s.meter with law := s.settings.summationLaw, magnetPower := s.settings.magnetPower } } := rfl

theorem begun_run (hp : s.supply.power = .start) (hs : s.supply.startStep = 5) : DaysRun s (begun s) 0 := by
  rw [begun_eq]
  refine daysRun_none rfl rfl rfl rfl rfl (.refl s) ?_
  simp [handing, hp, hs]

theorem begun_missedDays (hp : s.supply.power = .start) (hs : s.supply.startStep = 5) :
    MissedDays s (caught (begun s)) (daysAtOnce s (dayEndsAt s s.clock.certain s.clock.time))
      (dayEndsAt s s.clock.certain s.clock.time) :=
  caught_missedDays (begun_run hp hs) rfl rfl rfl rfl rfl

theorem exec_startReady_idle (hp : s.supply.power ≠ .start) (ha : s.agenda = []) : exec .startReady s = .next s := by
  have hexec : exec .startReady s = .next (atOnce .startReady (finishStart s)) := rfl
  have hfinish : finishStart s = s := by simp [finishStart, hp]
  have hsettle : settleTo .startReady s = s := runUntil_of_stop (by simp [ha]) _
  rw [hexec, hfinish, atOnce, hsettle]
  simp [ha]

/-- The last step of a start, its five steps made already. -/
theorem exec_startReady (hp : s.supply.power = .start) (hs : s.supply.startStep = 5) (ha : s.agenda = [.startReady]) :
    exec .startReady s = .next (advance (
      let m := openIntake (caught (begun s))
      let h := if s.supply.vsLow then vsFalls emptyPart m else m
      if s.supply.resetRemembered then resetLow emptyPart h else h)) := by
  have hexec : exec .startReady s = .next (atOnce .startReady (finishStart s)) := rfl
  have hfinish : finishStart s = s := by simp [finishStart, ha]
  have henter : runDue .startReady (onAgenda (fun _ => []) s) = _ := if_pos hp
  rw [hexec, hfinish, atOnce_of_next ha, henter]
  simp [onAgenda_keeps, hs, runSteps, caught, begun]

/-- The end of the start write as START_READY's own first part is that of RETENTION_WRITE_COMPLETE. -/
theorem startReady_completes (ha : s.agenda = []) (hp : s.supply.power = .start) (hs : s.supply.startStep = 5)
    (hw : s.store.writing ≠ none) (h : exec .retentionWriteComplete s = .next t) :
    exec .startReady s = exec .startReady t := by
  obtain ⟨w, hw⟩ := Option.ne_none_iff_exists'.mp hw
  have hcompleted := exec_retentionWriteComplete ha hw
  rw [h] at hcompleted
  have ht : t = completeWrite s := by
    rw [completeWrite_eq hw]
    exact Host.Outcome.next.inj hcompleted
  have hfinish : finishStart s = completeWrite s := by simp [finishStart, hp, hs, ha, runSteps]
  have hready : finishStart t = t := by
    have hcontains : t.agenda.contains .startReady = true := by
      rw [ht, completeWrite_eq hw]
      unfold dueReady
      split_ifs with hn
      · simp
      · simpa [toldOf, hp] using hn
    unfold finishStart
    rw [hcontains, Bool.not_true, Bool.and_false]
    rfl
  have hexec (u : State) : exec .startReady u = .next (atOnce .startReady (finishStart u)) := rfl
  rw [hexec, hexec, hfinish, hready, ht]

/-- Settles O60: the last step enters MAINS with the missed days, and a hold-up begins where START remembered its cause. -/
theorem startsEndInMains : Obligations.StartsEndInMains := by
  refine ⟨fun s ha hp => exec_startReady_idle hp ha, fun s t ha hp hs hw h => startReady_completes ha hp hs hw h,
    fun s ha hp hs hi => ?_⟩
  intro days k
  have hexec := exec_startReady hp hs ha
  have hmissed := begun_missedDays hp hs
  have hbegun := begun_eq s
  refine ⟨_, hexec, fun hl hf => ?mains, fun h => ?holdup⟩
  case mains =>
    have hends := openIntake_ends (s := caught (begun s)) (.inr (by simp [hbegun, hi])) hmissed.left hmissed.agenda
    simp only [hl, hf, Bool.false_eq_true, if_false, hends]
    refine ⟨?frame, rfl, by simp [hbegun, hi], by simp [hbegun], by simp [hbegun], hmissed.book, ?ended,
      hmissed.catchUp, fun h0 => ?none⟩
    case frame =>
      rw [sameExcept_iff]
      simp [hbegun]
    case ended => exact hmissed.toDaysRun.ended_behind (.refl _) rfl rfl ⟨rfl, rfl, rfl⟩ marks_of_due
    case none =>
      have hidle : caught (begun s) = begun s := caught_none ((missedDays_toIssue rfl rfl rfl).trans h0)
      rw [hidle, hbegun, sameExcept_iff]
      simp
  case holdup =>
    have hheld : HeldUp s.supply.resetRemembered s.supply.vsLow _ := remembered_heldUp
      (s := openIntake (caught (begun s))) (by simp [hbegun]) (by simp [hbegun]) (by simp [hbegun]) h emptyPart emptyPart
    obtain ⟨hpower, hreset, hlow, hforgotten, hclosed, htold⟩ := hheld.advance
    exact ⟨hpower, hreset, hlow, hforgotten, hclosed, htold⟩

end Sys2Proof.Proofs
end

section
/-! SUPPORT. The activation of a calendar at an interval's close, and the charge behind it (R28, R29, R31, R32, R54). -/

namespace Sys2Proof.Proofs
open Sys2Proof.Machine Sys2Proof.Safety

variable {s t u v r a : State} {c : Tariff} {k n : Nat}

/-! ## A catch-up with the friendly evaluation behind it -/

/-- `k` of `n` day ends have come about between `s` and `t`, with the friendly evaluation behind the last of them. -/
structure FriendlyBehind (s t : State) (k n : Nat) : Prop extends CreditFed s t where
  account : (t.credit.account, t.credit.lastDayEnd) =
    afterDays k s.book.active.standing s.settings.debtDaily s.credit.account s.credit.lastDayEnd
  decoder : t.decoder = { s.decoder with badCount := if 0 < k then 0 else s.decoder.badCount }
  book : t.book = { s.book with lastCharged := chargedDate s k n (today s) }
  catchUp : t.catchUp = catchUpBegun s k n
  friendly : Machine.handing s = true → t.switch.friendly = if k = n then friendlyState s else s.switch.friendly
  agenda : t.agenda = if k < n then .catchUp true :: .friendly :: s.agenda else s.agenda

theorem evaluateFriendly_behind (h : CaughtUp s t k n) (hcatch : t.catchUp = catchUpBegun s k n) (hk : ¬k < n)
    (ha : t.agenda = s.agenda) (hle : k ≤ n) : FriendlyBehind s (evaluateFriendly t) k n where
  toCreditFed := h.toCreditFed.trans (evaluateFriendly_fed t)
  account := by simpa using h.account
  decoder := by simpa using h.decoder
  book := by simpa using h.book
  catchUp := by simpa using hcatch
  friendly hh := by
    have hstate : friendlyState t = friendlyState s := by simp only [friendlyState, h.clock, h.active]
    rw [evaluateFriendly_friendly, h.handing, if_pos hh, if_pos (by omega), hstate]
  agenda := by simp [hk, ha]

theorem catchUpThen_friendly (hc : catchingUp s = false) (hp : s.supply.power ≠ .start) :
    FriendlyBehind s (catchUpThen [.friendly] evaluateFriendly s) (daysAtOnce s (dayEndsToIssue s)) (dayEndsToIssue s) := by
  have hfirst : daysFirst s (dayEndsToIssue s) = daysAtOnce s (dayEndsToIssue s) := if_neg hp
  have hle := daysFirst_le s (dayEndsToIssue s)
  obtain ⟨hcaught, hcatch⟩ := catchUp_caughtUp hc hp
  rw [catchUpThen_begins hc, hfirst]
  rw [hfirst] at hle
  split_ifs with hk
  · refine ⟨?_, hcaught.account, hcaught.decoder, hcaught.book, hcatch, fun _ => ?_, ?_⟩
    · exact hcaught.toCreditFed.trans (creditFed_of_same rfl rfl rfl rfl rfl (dueStands_of_eq rfl) rfl)
    · rw [if_neg (by omega)]
      exact hcaught.friendly
    · simp [hk]
  · exact evaluateFriendly_behind hcaught hcatch hk (by simp) hle

/-- An arrival between two day ends of a catch-up begins none, and the friendly evaluation follows at once. -/
theorem catchUpThen_friendly_during (hc : catchingUp s = true) :
    FriendlyBehind s (catchUpThen [.friendly] evaluateFriendly s) 0 0 := by
  have hidle : catchUp s = s := by simp [catchUp, hc]
  have hthen : catchUpThen [.friendly] evaluateFriendly s = evaluateFriendly s := by simp [catchUpThen, hc, hidle]
  rw [hthen]
  exact
    { toCreditFed := evaluateFriendly_fed s
      account := by simp [afterDays]
      decoder := by simp
      book := by simp [chargedDate_of_zero]
      catchUp := by simp [catchUpBegun]
      friendly := fun hh => by rw [evaluateFriendly_friendly, if_pos hh, if_pos rfl]
      agenda := by simp }

/-! ## The activation (R54) -/

theorem activateDue_of_none (h : ¬CalendarDue s) : activateDue s = s := by
  unfold activateDue
  cases hp : s.book.passive with
  | none => rfl
  | some c => exact if_neg fun hle => h ⟨c, hp, hle⟩

/-- The calendars as a due activation leaves them, and the write that it asks for. -/
def putInForce (s : State) : State := requestWrite (onBook (fun _ => activated s) s)

theorem inForce_of_due (h : CalendarDue s) : ∃ c, s.book.passive = some c ∧ c.activation ≤ s.clock.time ∧
    inForce s = { c with activation := 0 } ∧ activated s = { s.book with active := inForce s, passive := none } := by
  obtain ⟨c, hp, hle⟩ := h
  refine ⟨c, hp, hle, ?_, ?_⟩
  · simp only [inForce, hp, if_pos hle]
  · simp only [activated, hp, if_pos hle]

theorem inForce_of_none (h : ¬CalendarDue s) : inForce s = s.book.active := by
  unfold inForce
  cases hp : s.book.passive with
  | none => rfl
  | some c => exact if_neg fun hle => h ⟨c, hp, hle⟩

theorem activateDue_of_due (h : CalendarDue s) :
    activateDue s = markDue attnCalendar (catchUpThen [.friendly] evaluateFriendly (putInForce s)) := by
  obtain ⟨c, hp, hle, hforce, hactivated⟩ := inForce_of_due h
  simp only [activateDue, hp, if_pos hle, putInForce, hactivated, hforce]
  rfl

/-- A due calendar has been activated between `s` and `t` (R54). -/
structure Activates (s t : State) (k n : Nat) : Prop extends CreditFed s t where
  account : (t.credit.account, t.credit.lastDayEnd) =
    afterDays k (inForce s).standing s.settings.debtDaily s.credit.account s.credit.lastDayEnd
  decoder : t.decoder = { s.decoder with badCount := if 0 < k then 0 else s.decoder.badCount }
  book : t.book = { activated s with lastCharged := chargedDate s k n (localDate s.clock.time (inForce s)) }
  catchUp : t.catchUp = catchUpBegun s k n
  friendly : Machine.handing s = true → t.switch.friendly =
    if k = n then s.clock.certain && friendlyPeriod (inForce s) s.clock.time else s.switch.friendly
  agenda : t.agenda = if k < n then .catchUp true :: .friendly :: s.agenda else s.agenda
  calendar : t.attn.due.getLsbD 5 = true
  asked : StoreAsked s t { sectionsOf s with book := activated s }
  requesters : RequestersTold s t s.intake

@[simp] theorem catchUpThen_friendly_keeps (s : State) :
    let t := catchUpThen [.friendly] evaluateFriendly s
    t.pending = s.pending ∧ t.link = s.link ∧ t.mem = s.mem ∧ t.intake = s.intake ∧ t.meter = s.meter ∧
      t.energy = s.energy ∧ t.clock = s.clock ∧ t.settings = s.settings ∧ t.window = s.window ∧ t.battery = s.battery ∧
      t.store = s.store ∧ t.supply = s.supply ∧ t.pins = s.pins := by
  rcases catchUpThen_cases [.friendly] evaluateFriendly s with h | ⟨-, -, h⟩ <;> simp [h]

theorem putInForce_fed (s : State) : CreditFed s (putInForce s) :=
  creditFed_of_same (by simp [putInForce]) (by simp [putInForce]) (by simp [putInForce]) (by simp [putInForce])
    (by simp [putInForce]) (dueStands_of_eq (by simp [putInForce])) (handing_congr (by simp [putInForce]) (by simp [putInForce]))

theorem putInForce_keeps (h : CalendarDue s) : (putInForce s).book = activated s ∧ (putInForce s).book.active = inForce s ∧
    (putInForce s).settings = s.settings ∧ (putInForce s).credit = s.credit ∧ (putInForce s).decoder = s.decoder ∧
    (putInForce s).clock = s.clock ∧ (putInForce s).catchUp = s.catchUp ∧ (putInForce s).agenda = s.agenda ∧
    (putInForce s).switch = s.switch ∧ (putInForce s).supply.power = s.supply.power ∧
    (putInForce s).book.lastCharged = s.book.lastCharged := by
  obtain ⟨c, hp, hle, hforce, hactivated⟩ := inForce_of_due h
  simp [putInForce, hactivated]

theorem activateDue_activates (h : CalendarDue s)
    (hb : FriendlyBehind (putInForce s) (catchUpThen [.friendly] evaluateFriendly (putInForce s)) k n) :
    Activates s (activateDue s) k n := by
  obtain ⟨hbook, hactive, hsettings, hcredit, hdecoder, hclock, hcatch, hagenda, hswitch, hpower, hlast⟩ :=
    putInForce_keeps h
  have hfriendly : friendlyState (putInForce s) = (s.clock.certain && friendlyPeriod (inForce s) s.clock.time) := by
    rw [friendlyState, hactive, hclock]
  have hput := putInForce_fed s
  have hsections : sectionsOf (onBook (fun _ => activated s) s) = { sectionsOf s with book := activated s } := rfl
  have hkeeps := catchUpThen_friendly_keeps (putInForce s)
  rw [activateDue_of_due h]
  generalize catchUpThen [.friendly] evaluateFriendly (putInForce s) = x at *
  obtain ⟨-, -, -, hintake, -, -, -, -, -, -, hstore, hsupply, -⟩ := hkeeps
  have hmark : CreditFed x (markDue attnCalendar x) :=
    creditFed_of_same rfl rfl rfl rfl rfl (markDue_stands _ _) rfl
  refine ⟨(hput.trans hb.toCreditFed).trans hmark, ?_, ?_, ?_, ?_, fun hh => ?_, ?_, by simp [attnCalendar], ?_, ?_⟩
  · rw [← hactive, ← hsettings, ← hcredit]
    exact hb.account
  · rw [← hdecoder]
    exact hb.decoder
  · have hdate : chargedDate (putInForce s) k n (today (putInForce s)) =
        chargedDate s k n (localDate s.clock.time (inForce s)) := by
      simp only [chargedDate, today, hlast, hclock, hactive]
    rw [← hdate, ← hbook]
    exact hb.book
  · have hbegun : catchUpBegun (putInForce s) k n = catchUpBegun s k n := by simp only [catchUpBegun, hcatch]
    rw [← hbegun]
    exact hb.catchUp
  · have hx := hb.friendly (hput.handing.trans hh)
    rw [hfriendly, hswitch] at hx
    exact hx
  · rw [← hagenda]
    exact hb.agenda
  · rw [← hsections]
    exact asked_between (requestWrite_asked _) ⟨rfl, rfl⟩ ⟨hstore, hsupply⟩
  · exact told_between (requestWrite_requesters (onBook (fun _ => activated s) s)) ⟨rfl, rfl⟩ hintake

/-- How many day ends an activation brings. -/
theorem putInForce_days (h : CalendarDue s) (hp : s.supply.power = .mains) :
    dayEndsToIssue (putInForce s) = activationDays s := by
  obtain ⟨c, hpassive, hle, hforce, hactivated⟩ := inForce_of_due h
  obtain ⟨hbook, hactive, -, -, -, hclock, -, -, -, hpower, hlast⟩ := putInForce_keeps h
  rw [dayEndsToIssue_eq, dayEndsAt, hlast, activationDays, hpassive]
  cases hd : s.book.lastCharged with
  | none => rfl
  | some d => simp [catchUpAllowed, hclock, hpower, hp, hactive, hforce, hle, localDate, localSeconds]

/-- An activation in MAINS: between two day ends of a catch-up in progress it brings none of its own. -/
theorem activates_inMains (h : CalendarDue s) (hp : s.supply.power = .mains)
    (ha : s.agenda = [] ∨ catchingUp s = true) :
    let n := if s.agenda = [] then activationDays s else 0
    Activates s (activateDue s) (daysAtOnce s n) n := by
  obtain ⟨-, -, -, -, -, -, hcatch, hagenda, -, hpower, -⟩ := putInForce_keeps h
  have hchoices (n : Nat) : daysAtOnce (putInForce s) n = daysAtOnce s n := by simp only [daysAtOnce, hcatch]
  by_cases hidle : s.agenda = []
  · have hc : catchingUp (putInForce s) = false := catchingUp_of_idle (hagenda.trans hidle)
    have hb := catchUpThen_friendly hc (by rw [hpower, hp]; decide)
    rw [putInForce_days h hp, hchoices] at hb
    simp only [if_pos hidle]
    exact activateDue_activates h hb
  · have hc : catchingUp (putInForce s) = true := by
      have hduring := ha.resolve_left hidle
      rwa [catchingUp, hagenda]
    simp only [if_neg hidle]
    exact activateDue_activates h (catchUpThen_friendly_during hc)

/-- An activation in HOLDUP, where no day end comes. -/
theorem activates_inHoldup (h : CalendarDue s) (hp : s.supply.power = .holdup) (ha : s.agenda = []) :
    Activates s (activateDue s) 0 0 := by
  obtain ⟨-, -, -, -, -, hclock, -, hagenda, -, hpower, -⟩ := putInForce_keeps h
  have hb := catchUpThen_friendly (s := putInForce s) (catchingUp_of_idle (hagenda.trans ha)) (by rw [hpower, hp]; decide)
  have hnone : dayEndsToIssue (putInForce s) = 0 := by
    have hallowed : catchUpAllowed (putInForce s) = false := by simp [catchUpAllowed, hpower, hp]
    rw [dayEndsToIssue_of_new, hallowed]
    rfl
  rw [hnone] at hb
  exact activateDue_activates h hb

/-! ## The charge (R28, R29, R62, R63) -/

/-- A calendar is in force at a close, due or not, with `k` day ends before the charge. -/
structure InForceAt (r a : State) (k : Nat) : Prop extends CreditFed r a where
  account : (a.credit.account, a.credit.lastDayEnd) =
    afterDays k (inForce r).standing r.settings.debtDaily r.credit.account r.credit.lastDayEnd
  active : a.book.active = inForce r

theorem Activates.inForceAt (h : Activates r a k n) (hd : CalendarDue r) : InForceAt r a k := by
  obtain ⟨c, -, -, -, hactivated⟩ := inForce_of_due hd
  exact ⟨h.toCreditFed, h.account, by rw [h.book, hactivated]⟩

theorem inForceAt_of_none (h : ¬CalendarDue r) : InForceAt r (activateDue r) 0 := by
  rw [activateDue_of_none h]
  exact ⟨.refl r, rfl, (inForce_of_none h).symm⟩

/-- The interval of `s` stands to be billed in `r`: the saturation is marked, and all that the bill reads is as in `s`. -/
structure ToBill (s r : State) (sat : Bool) : Prop where
  account : r.credit.account = saturatedIf s.credit.account sat
  lastDayEnd : r.credit.lastDayEnd = s.credit.lastDayEnd
  book : r.book = s.book
  time : r.clock.time = s.clock.time
  settings : r.settings = s.settings
  energy : r.energy = s.energy
  magnet : r.tamper.records[kindMagnet] = s.tamper.records[kindMagnet] ∧ r.meter.magnetPower = s.meter.magnetPower

theorem ToBill.inForce {sat : Bool} (h : ToBill s r sat) : inForce r = inForce s := by
  simp only [Safety.inForce, h.book, h.time]

theorem chargeAccount_eq (x price : Nat) (b : Account) : chargeAccount x price b = charged b (x * price + b.residue) := by
  have hfloor (y : Int) : max (-9999999999) y = if y < -9999999999 then -9999999999 else y := by omega
  simp [chargeAccount, takeCharge, charged, pricedAmount, shortfall, Config.residueUnit, Config.balanceLimit, hfloor]

theorem billedImport_eq {sat : Bool} (h : ToBill s r sat) (sum ms : Nat) : billedImport r sum ms = billed s sum ms := by
  obtain ⟨hrecord, hpower⟩ := h.magnet
  simp only [billedImport, substitutes, billed, magnetFloor, hrecord, hpower, Bool.and_eq_true, beq_iff_eq, decide_eq_true_eq]

theorem energyAdd_eq {band : Nat} (hb : band ≤ 5) (e : Energy) (x y : Nat) : e.add band x y = registered e band x y := by
  interval_cases band <;> simp [Energy.add, Bands.add, registered]

theorem foldl_laterPoint_mem {minute : Nat} {l : List SwitchPoint} {best : Option SwitchPoint} {x : SwitchPoint}
    (h : l.foldl (laterPoint minute) best = some x) : x ∈ l ∨ best = some x := by
  induction l generalizing best with
  | nil => exact .inr h
  | cons p l ih =>
    rcases ih (best := laterPoint minute best p) h with hl | hbest
    · exact .inl (List.mem_cons_of_mem _ hl)
    · rcases mem_laterPoint hbest with ⟨rfl, -⟩ | hb
      · exact .inl List.mem_cons_self
      · exact .inr hb

/-- The band in force is one of the six, under a calendar in the ranges of R47. -/
theorem bandAt_le (h : LawfulTariff c) (time : Nat) : bandAt c time ≤ 5 := by
  rw [bandAt_eq]
  cases hf : (candidates c time).foldl (laterPoint (minuteOfDay time c)) none with
  | none => exact h.defaultBand
  | some p =>
    rcases foldl_laterPoint_mem hf with hp | hp
    · exact (h.points p (mem_candidates.mp hp).1).2
    · exact absurd hp (by simp)

theorem inForce_lawful (h : LawfulBook s.book) (time : Nat) : bandAt (inForce s) time ≤ 5 := by
  by_cases hd : CalendarDue s
  · obtain ⟨c, hp, -, hforce, -⟩ := inForce_of_due hd
    have hsame : bandAt (inForce s) time = bandAt c time := by rw [hforce]; rfl
    rw [hsame]
    exact bandAt_le (h.passive c hp) time
  · rw [inForce_of_none hd]
    exact bandAt_le h.active time

/-- The charge as it comes about behind the activation. -/
theorem billInterval_eq (sum out ms : Nat) (r : State) : billInterval sum out ms r =
    let a := activateDue r
    let band := bandAt a.book.active a.clock.time
    intervalCharge (billedImport r sum ms) (a.book.active.prices.get band) band
      (registerEnergy band (billedImport r sum ms) out
        (onMeter (Meter.bill (billedImport r sum ms) band (substitutes r)) a)) := rfl

theorem intervalCharge_credit (x price band : Nat) (s : State) : (intervalCharge x price band s).credit =
    { derivedOf s.settings s.credit (charged s.credit.account (x * price + s.credit.account.residue)) s.credit.lastDayEnd with
      lastCharge := lastChargeOf x price band s.credit.account } := by
  rw [intervalCharge, deriveCredit_credit]
  simp only [derivedCredit, onCredit_credit, onCredit_keeps, chargeAccount_eq, derivedOf, lowCreditOf, creditReasonOf]

theorem billInterval_billed {sat : Bool} {sum out ms : Nat} (h : ToBill s r sat) (ha : InForceAt r (activateDue r) k)
    (hlawful : LawfulBook s.book) : Billed s (billInterval sum out ms r) k sum out ms sat := by
  have hband := inForce_lawful hlawful s.clock.time
  have hactive : (activateDue r).book.active = inForce s := ha.active.trans h.inForce
  have htime : (activateDue r).clock.time = s.clock.time := by simpa using h.time
  have haccount := ha.account
  rw [h.inForce, h.settings, h.account, h.lastDayEnd] at haccount
  obtain ⟨hrecord, hpower⟩ := h.magnet
  rw [billInterval_eq]
  simp only [hactive, htime, billedImport_eq h]
  refine ⟨by simp [Meter.bill], by simp [Meter.bill], ?_, ?_, ?_⟩
  · simp [Meter.bill, substitutes, hrecord, hpower, beq_eq_decide]
  · simp [registerEnergy, Meter.bill, h.energy, energyAdd_eq hband]
  · rw [intervalCharge_credit]
    generalize hx : afterDays k (inForce s).standing s.settings.debtDaily (saturatedIf s.credit.account sat)
      s.credit.lastDayEnd = x at *
    simp [registerEnergy, Meter.bill, derivedOf, lastChargeOf, ← haccount, h.settings, pricedAmount, shortfall,
      Config.residueUnit, Config.balanceLimit]

/-- The close of an interval up to the derivation behind the charge. -/
def toCharge (sum out ms : Nat) (r : State) : State :=
  let a := activateDue r
  let band := bandAt a.book.active a.clock.time
  let x := billedImport r sum ms
  let price := a.book.active.prices.get band
  onCredit (fun y => { y with
    account := chargeAccount x price y.account
    lastCharge := lastChargeOf x price band y.account })
    (registerEnergy band x out (onMeter (Meter.bill x band (substitutes r)) a))

theorem billInterval_derives (sum out ms : Nat) (r : State) : billInterval sum out ms r = deriveCredit (toCharge sum out ms r) :=
  rfl

/-- What the activation and the charge tell. -/
theorem billInterval_fed {sum out ms : Nat} (ha : InForceAt r (activateDue r) k) : CreditFed r (billInterval sum out ms r) := by
  have hcharge : CreditFed (activateDue r) (toCharge sum out ms r) :=
    creditFed_of_same rfl rfl rfl rfl rfl (dueStands_of_eq rfl) rfl
  exact (ha.toCreditFed.trans hcharge).trans (deriveCredit_fed _)

/-- A bit that is due behind the activation still is behind the charge. -/
theorem billInterval_stands (sum out ms : Nat) (r : State) : DueStands (activateDue r) (billInterval sum out ms r) :=
  DueStands.trans (t := toCharge sum out ms r) (dueStands_of_eq rfl) (deriveCredit_stands _)

/-- The friendly state, the calendars and what is due are no matter of the charge. -/
theorem billInterval_behind (sum out ms : Nat) (r : State) :
    (billInterval sum out ms r).switch.friendly = (activateDue r).switch.friendly ∧
    (billInterval sum out ms r).book = (activateDue r).book ∧ (billInterval sum out ms r).agenda = (activateDue r).agenda ∧
    (billInterval sum out ms r).decoder = (activateDue r).decoder ∧
    (billInterval sum out ms r).catchUp = (activateDue r).catchUp ∧
    (billInterval sum out ms r).store = (activateDue r).store ∧ (billInterval sum out ms r).supply = (activateDue r).supply ∧
    (billInterval sum out ms r).intake = (activateDue r).intake := by
  rw [billInterval_eq]
  refine ⟨deriveCredit_friendly _, ?_, ?_, ?_, ?_, ?_, ?_, ?_⟩ <;> simp [registerEnergy]

/-- Where no calendar is due the charge is one derivation, whose change of the CREDIT reason is handed on. -/
theorem billInterval_handed {sum out ms : Nat} (hd : ¬CalendarDue r) (hs : AsBefore s r)
    (hcredit : s.credit.ecState = r.credit.ecState ∧ s.credit.lowCredit = r.credit.lowCredit ∧
      s.credit.reason = r.credit.reason) (hh : handing r = true) (ht : AsBehind t (billInterval sum out ms r))
    (htc : t.credit = (billInterval sum out ms r).credit)
    (hm : ∀ i, (billInterval sum out ms r).attn.due.getLsbD i = true → Marks s t i) : CreditHanded s t t.credit.reason := by
  obtain ⟨hswitch, hsettings, hpower, htamper⟩ := hs
  obtain ⟨hec, hlow, hreason⟩ := hcredit
  have hcharge : ToDerive s (toCharge sum out ms r) := by
    unfold toCharge
    rw [activateDue_of_none hd]
    exact ⟨⟨hswitch, hsettings, hpower, htamper⟩, hec, hlow, hreason, hh⟩
  exact deriveCredit_between hcharge ht htc hm

theorem activationDays_of_none (h : ¬CalendarDue s) : activationDays s = 0 := by
  unfold activationDays
  split
  · next c d hc hd => exact if_neg fun hx => h ⟨c, hc, hx.1⟩
  · rfl

/-! ## What an interval delivers (R22 to R27) -/

theorem creepEnergy_eq (e : Int) (i : Nat) : creepEnergy e i = phaseEnergy e i := by
  simp only [creepEnergy, phaseEnergy, deliverEnergy, Config.energyEnd]
  split_ifs <;> omega

theorem importOf_eq (law : Nat) (x y z : Int) : importOf law ⟨x, y, z⟩ = imported law x y z := by
  match law with
  | 0 => rfl
  | 1 => rfl
  | n + 2 => simp [importOf, imported, phaseSum]

theorem exportOf_eq (law : Nat) (x y z : Int) : exportOf law ⟨x, y, z⟩ = exported law x y z := by
  match law with
  | 0 => rfl
  | 1 => rfl
  | n + 2 => simp [exportOf, exported, phaseSum]

end Sys2Proof.Proofs
end

section
/-! SUPPORT. The close of a full interval (R22 to R31, R54, R62, R63). -/

namespace Sys2Proof.Proofs
open Sys2Proof.Machine Sys2Proof.Safety

variable {s t u : State} {m : Measurement} {k n : Nat}

/-! ## The results taken (R22 to R27) -/

/-- Some phase of a measurement lies beyond its range (R23). -/
def beyond (e : Phases Int) : Bool :=
  decide (16777215 < e.l1.natAbs ∨ 16777215 < e.l2.natAbs ∨ 16777215 < e.l3.natAbs)

theorem saturated_any (e : Phases Int) : (e.map saturated).any = beyond e := by
  have hphase (x : Int) : saturated x = decide (16777215 < x.natAbs) := by
    rw [Bool.eq_iff_iff]
    simp only [saturated, Config.energyEnd, Bool.or_eq_true, decide_eq_true_eq]
    omega
  simp [Phases.any, Phases.map, hphase, beyond, Bool.or_assoc]

theorem markSaturation_eq (e : Phases Int) (s : State) :
    markSaturation e s = setAccount (saturatedIf s.credit.account (beyond e)) s := by
  rw [markSaturation, saturated_any]
  cases beyond e <;> simp [setAccount, saturatedIf, Account.saturate, onCredit]

/-- The phase energies as a full interval delivers them. -/
def phasesOf (m : Measurement) : Phases Int :=
  ⟨phaseEnergy m.energy.l1 m.current.l1, phaseEnergy m.energy.l2 m.current.l2, phaseEnergy m.energy.l3 m.current.l3⟩

theorem take_energies (m : Measurement) (x : Meter) : (x.take m).energies = phasesOf m := by
  simp [Meter.take, Phases.zipWith, creepEnergy_eq, phasesOf]

/-- The engine behind the results of a full interval. -/
def taken (m : Measurement) (x : Meter) : Meter :=
  let e := phasesOf m
  let volt (v : Nat) : Nat := min v 5000
  { x with
    energies := e
    voltage := ⟨volt m.voltage.l1, volt m.voltage.l2, volt m.voltage.l3⟩
    current := ⟨min m.current.l1 200000, min m.current.l2 200000, min m.current.l3 200000⟩
    neutral := min m.neutral 200000
    residual := min m.residual 600000
    frequency := if m.voltage.l1 ≤ 800 ∧ m.voltage.l2 ≤ 800 ∧ m.voltage.l3 ≤ 800 then 0
      else max 40000 (min m.frequency 70000)
    power := ⟨(e.l1 * 3600).tdiv 1000000, (e.l2 * 3600).tdiv 1000000, (e.l3 * 3600).tdiv 1000000⟩
    measured := imported x.law e.l1 e.l2 e.l3 * 3600 / 1000000
    supplySide := ⟨decide (800 < m.voltage.l1), decide (800 < m.voltage.l2), decide (800 < m.voltage.l3)⟩
    loadSide := m.loadSide }

theorem supplyPresent_delivered (v : Nat) : supplyPresent (deliverVoltage v) = decide (800 < v) := by
  rw [Bool.eq_iff_iff]
  simp only [supplyPresent, deliverVoltage, capped, decide_eq_true_eq, lt_min_iff]
  omega

theorem deliverFrequency_eq (v : Phases Nat) (f : Nat) : deliverFrequency (v.map deliverVoltage) f =
    if v.l1 ≤ 800 ∧ v.l2 ≤ 800 ∧ v.l3 ≤ 800 then 0 else max 40000 (min f 70000) := by
  simp only [deliverFrequency, Phases.map, Phases.any, supplyPresent_delivered, capped, Nat.min_comm 70000 f]
  by_cases h : v.l1 ≤ 800 ∧ v.l2 ≤ 800 ∧ v.l3 ≤ 800
  · rw [if_pos h, if_neg]
    simp only [Bool.or_eq_true, decide_eq_true_eq]
    omega
  · rw [if_neg h, if_pos]
    simp only [Bool.or_eq_true, decide_eq_true_eq]
    omega

theorem take_eq (m : Measurement) (x : Meter) : x.take m = taken m x := by
  have he : m.energy.zipWith creepEnergy m.current = phasesOf m := take_energies m x
  simp only [Meter.take, taken, he, deliverFrequency_eq, measuredPower]
  simp only [Phases.map, supplyPresent_delivered]
  simp [deliverVoltage, deliverCurrent, capped, Nat.min_comm, phasePower,
    ← importOf_eq]

/-- The state in which a full interval is billed: its results are taken, and VBAT is sampled. -/
def measured (m : Measurement) (s : State) : State := sampleVbat m.vbat (takeResults m (markSaturation m.energy s))

theorem measured_eq (m : Measurement) (s : State) : measured m s = { s with
    credit := { s.credit with account := saturatedIf s.credit.account (beyond m.energy) }
    meter := taken m s.meter
    supply := { s.supply with batteryLow := decide (m.vbat < 2600) } } := by
  rw [measured, markSaturation_eq, ← take_eq]
  rfl

theorem measured_toBill (m : Measurement) (s : State) : ToBill s (measured m s) (beyond m.energy) := by
  rw [measured_eq]
  exact ⟨rfl, rfl, rfl, rfl, rfl, rfl, rfl, rfl⟩

/-- A full interval billed, before the steps behind its charge. -/
def closed (m : Measurement) (s : State) : State :=
  billInterval (imported s.meter.law (phasesOf m).l1 (phasesOf m).l2 (phasesOf m).l3)
    (exported s.meter.law (phasesOf m).l1 (phasesOf m).l2 (phasesOf m).l3) 1000 (measured m s)

theorem closeInterval_eq (hp : s.supply.power = .mains) :
    closeInterval m s = onAgenda (fun a => intervalSteps ++ a) (closed m s) := by
  have hmeter : (measured m s).meter = taken m s.meter := by rw [measured_eq]
  rw [closeInterval, if_pos hp, closed, ← importOf_eq, ← exportOf_eq]
  change onAgenda _ (billInterval (importOf (measured m s).meter.law (measured m s).meter.energies)
    (exportOf (measured m s).meter.law (measured m s).meter.energies) 1000 (measured m s)) = _
  rw [hmeter]
  rfl

/-! ## The close (R31, R54) -/

theorem measured_stands (m : Measurement) (s : State) :
    inForce (measured m s) = inForce s ∧ activated (measured m s) = activated s ∧
      activationDays (measured m s) = activationDays s ∧ (CalendarDue (measured m s) ↔ CalendarDue s) := by
  rw [measured_eq]
  exact ⟨rfl, rfl, rfl, Iff.rfl⟩

theorem measured_fed (m : Measurement) (s : State) : CreditFed s (measured m s) := by
  rw [measured_eq]
  exact creditFed_of_same rfl rfl rfl rfl rfl (.refl s) rfl

/-- The calendar in force at a full interval's close, with the day ends that its activation brings. -/
theorem measured_inForceAt (hp : s.supply.power = .mains) (ha : s.agenda = [] ∨ catchingUp s = true) :
    let n := if s.agenda = [] then activationDays s else 0
    InForceAt (measured m s) (activateDue (measured m s)) (daysAtOnce s n) ∧
      (CalendarDue s → Activates (measured m s) (activateDue (measured m s)) (daysAtOnce s n) n) := by
  intro n
  obtain ⟨-, -, hdays, hdue⟩ := measured_stands m s
  have hmeasured := measured_eq m s
  have hagenda : (measured m s).agenda = s.agenda := by rw [hmeasured]
  have hcatching : catchingUp (measured m s) = catchingUp s := by rw [hmeasured]; rfl
  have hpower : (measured m s).supply.power = .mains := by rw [hmeasured]; exact hp
  have hchoices : (measured m s).catchUp = s.catchUp := by rw [hmeasured]
  by_cases h : CalendarDue s
  · have hactivates := activates_inMains (hdue.mpr h) hpower (by rwa [hagenda, hcatching])
    have hk (j : Nat) : daysAtOnce (measured m s) j = daysAtOnce s j := by simp only [daysAtOnce, hchoices]
    simp only [hagenda, hdays, hk] at hactivates
    exact ⟨hactivates.inForceAt (hdue.mpr h), fun _ => hactivates⟩
  · have hn : n = 0 := by
      simp only [n, activationDays_of_none h, ite_self]
    rw [hn]
    exact ⟨inForceAt_of_none (mt hdue.mp h), fun hx => absurd hx h⟩

theorem closed_meter (m : Measurement) (s : State) : (closed m s).meter = { taken m s.meter with
    billed := (closed m s).meter.billed, band := (closed m s).meter.band, substituted := (closed m s).meter.substituted } := by
  have hmeter : (measured m s).meter = taken m s.meter := by rw [measured_eq]
  rw [closed, billInterval_eq]
  simp [registerEnergy, Meter.bill, hmeter]

/-- What a close leaves of the parts that neither the calendar nor the charge reaches. -/
theorem closed_frame (m : Measurement) (s : State) : SameExcept [.agenda, .intake, .attn, .meter, .energy, .book, .credit,
    .decoder, .switch, .tamper, .store, .supply, .catchUp] s (closed m s) := by
  rw [sameExcept_iff]
  simp [closed, measured_eq]

/-- Without a due calendar a close is a charge, and nothing else. -/
theorem closed_quiet (hp : s.supply.power = .mains) (h : ¬CalendarDue s) (b : State)
    (hb : b = onAgenda (fun a => intervalSteps ++ a) (closed m s)) :
    SameExcept [.agenda, .attn, .meter, .energy, .credit, .switch, .tamper, .supply] s b ∧
      b.supply = { s.supply with batteryLow := decide (m.vbat < 2600) } ∧ CreditHanded s b b.credit.reason := by
  have hdue : ¬CalendarDue (measured m s) := mt (measured_stands m s).2.2.2.mp h
  have hidle := activateDue_of_none hdue
  have hmeasured := measured_eq m s
  obtain ⟨-, hbook, -, hdecoder, hcatch, hstore, hsupply, hintake⟩ : _ ∧ (closed m s).book = _ ∧ _ ∧
    (closed m s).decoder = _ ∧ (closed m s).catchUp = _ ∧ (closed m s).store = _ ∧ (closed m s).supply = _ ∧
      (closed m s).intake = _ := billInterval_behind _ _ _ _
  rw [hidle, hmeasured] at hbook hdecoder hcatch hstore hsupply hintake
  have hframe := closed_frame m s
  have hhanded : ∀ t, AsBehind t (closed m s) → t.credit = (closed m s).credit → _ → CreditHanded s t t.credit.reason :=
    fun t => billInterval_handed (s := s) hdue (by rw [hmeasured]; exact ⟨rfl, rfl, rfl, rfl⟩)
      (by rw [hmeasured]; exact ⟨rfl, rfl, rfl⟩) (by rw [hmeasured]; simp [handing, hp])
  subst hb
  refine ⟨?_, hsupply, hhanded _ ⟨rfl, rfl, ⟨rfl, rfl⟩, rfl, rfl⟩ rfl fun i hi => marks_of_due hi⟩
  rw [sameExcept_iff] at hframe ⊢
  simp only [onAgenda_keeps]
  simpa [hbook, hdecoder, hcatch, hstore, hintake] using hframe

/-- With a due calendar the activation comes before the charge. -/
theorem closed_activated (h : CalendarDue s) (ha : Activates (measured m s) (activateDue (measured m s)) k n)
    (hp : s.supply.power = .mains) (b : State) (hb : b = onAgenda (fun a => intervalSteps ++ a) (closed m s)) :
    let u : State := { s with supply := { s.supply with batteryLow := decide (m.vbat < 2600) } }
    SameExcept [.agenda, .intake, .attn, .meter, .energy, .book, .credit, .decoder, .switch, .tamper, .store, .supply,
        .catchUp] s b ∧
      Activated s b k n ∧ b.catchUp = catchUpBegun s k n ∧
      b.decoder = { s.decoder with badCount := if 0 < k then 0 else s.decoder.badCount } ∧
      StoreAsked u b { sectionsOf s with
        account := saturatedIf s.credit.account (beyond m.energy)
        book := activated s } ∧
      RequestersTold s b s.intake := by
  intro u
  have hdue := (measured_stands m s).2.2.2.mpr h
  have hmeasured := measured_eq m s
  obtain ⟨hfriendly, hbook, -, hdecoder, hcatch, hstore, hsupply, hintake⟩ : (closed m s).switch.friendly = _ ∧
    (closed m s).book = _ ∧ _ ∧ (closed m s).decoder = _ ∧ (closed m s).catchUp = _ ∧ (closed m s).store = _ ∧
      (closed m s).supply = _ ∧ (closed m s).intake = _ := billInterval_behind _ _ _ _
  have hfed : CreditFed s (closed m s) := (measured_fed m s).trans (billInterval_fed (ha.inForceAt hdue))
  have hcalendar : (closed m s).attn.due.getLsbD 5 = true := billInterval_stands _ _ _ _ 5 ha.calendar
  have hframe := closed_frame m s
  have hhanding : handing s = true := by simp [handing, hp]
  subst hb
  refine ⟨?frame, ⟨?book, ?friendly, marks_of_due hcalendar, hfed.told, hfed.reasons, hfed.handed hhanding, hfed.acting⟩,
    ?catchUp, ?decoder, ?asked, ?requesters⟩
  case frame =>
    rw [sameExcept_iff] at hframe ⊢
    simp only [onAgenda_keeps]
    simpa using hframe
  case book =>
    refine hbook.trans (ha.book.trans ?_)
    rw [hmeasured]
    rfl
  case friendly =>
    refine hfriendly.trans ((ha.friendly ?_).trans ?_)
    · rw [hmeasured]
      exact hhanding
    · rw [hmeasured]
      rfl
  case catchUp =>
    refine hcatch.trans (ha.catchUp.trans ?_)
    rw [hmeasured]
    rfl
  case decoder =>
    refine hdecoder.trans (ha.decoder.trans ?_)
    rw [hmeasured]
  case asked =>
    have hasked := asked_between (s := u) (t := onAgenda (fun a => intervalSteps ++ a) (closed m s)) ha.asked
      (by rw [hmeasured]; exact ⟨rfl, rfl⟩) ⟨hstore, hsupply⟩
    rw [hmeasured] at hasked
    exact hasked
  case requesters =>
    have htold := told_between (s := u) (t := onAgenda (fun a => intervalSteps ++ a) (closed m s)) ha.requesters
      (by rw [hmeasured]; exact ⟨rfl, rfl⟩) hintake
    rw [hmeasured] at htold
    exact ⟨htold.begun, htold.pending⟩

/-- Settles O43: the results are taken, the calendar that is due comes into force, and the charge is one derivation. -/
theorem intervalsMeasureAndCharge : Obligations.IntervalsMeasureAndCharge := by
  refine ⟨fun m s ha hp => ?elsewhere, fun m s ha hlawful hp => ?mains⟩
  case elsewhere =>
    have hexec : exec (.intervalClose m) s = .next (arrival (closeInterval m) s) := rfl
    rw [hexec, arrival_of_idle ha, closeInterval, if_neg hp, advance_of_idle ha]
  case mains =>
    intro n k
    have hsettle : settle s = s := by
      rcases ha with ha | ⟨rest, hbetween⟩
      · exact settle_of_idle ha
      · exact between_settled hbetween
    have hduring : s.agenda = [] ∨ catchingUp s = true := ha.imp_right fun ⟨rest, hbetween⟩ => by
      simp [catchingUp, hbetween.waits, Due.isCatchUp]
    have hexec : exec (.intervalClose m) s = .next (arrival (closeInterval m) s) := rfl
    rw [arrival, hsettle, closeInterval_eq hp] at hexec
    obtain ⟨hin, hactivates⟩ := measured_inForceAt (m := m) hp hduring
    have hbilled : Billed s (closed m s) k _ _ 1000 (beyond m.energy) := billInterval_billed (measured_toBill m s) hin hlawful
    refine ⟨_, hexec, ?agenda, ⟨⟨hbilled.band, hbilled.figure, hbilled.substituted, hbilled.energy, hbilled.credit⟩,
      closed_meter m s⟩, fun h => closed_quiet hp h _ rfl, fun h => closed_activated h (hactivates h) hp _ rfl⟩
    case agenda =>
      have hsteps : (closed m s).agenda = if k < n then [.catchUp true, .friendly] else s.agenda := by
        have hagenda : (closed m s).agenda = (activateDue (measured m s)).agenda := (billInterval_behind _ _ _ _).2.2.1
        have hsame : (measured m s).agenda = s.agenda := by rw [measured_eq]
        by_cases h : CalendarDue s
        · rw [hagenda, (hactivates h).agenda, hsame]
          by_cases ha' : s.agenda = []
          · simp only [ha', n, k]
          · simp [n, k, if_neg ha']
        · have hidle := activateDue_of_none (mt (measured_stands m s).2.2.2.mp h)
          have hn : n = 0 := by simp only [n, activationDays_of_none h, ite_self]
          rw [hagenda, hidle, hsame]
          simp [hn]
      exact congrArg (intervalSteps ++ ·) hsteps

end Sys2Proof.Proofs
end

section
/-! SUPPORT. BATTERY entry (R178, R169, R179). -/

namespace Sys2Proof.Proofs
open Sys2Proof.Machine Sys2Proof.Safety

variable {s : State}

/-- A section under a write cut off after `k` sections. -/
theorem cutCopy_cutAt {α : Type} (k i : Nat) (n : WriteNumber) (x : α) (old : Copy α) :
    CutAt k i n x old (cutCopy k i n x old) := by
  refine ⟨fun h => ?_, fun h => ?_, fun h => ?_⟩
  · rw [cutCopy, if_pos h, freshCopy]
  · rw [cutCopy, if_neg (Nat.not_lt_of_le h.ge), if_pos h]
  · rw [cutCopy, if_neg (Nat.not_lt_of_lt h), if_neg h.ne']

theorem get_withSlot (j : Image) (n : SetName) (c : CompletionSlot) : (j.withSlot c).get n = j.get n := by
  cases h : j.nextSlot <;> cases n <;> simp [Image.withSlot, Image.get, h]

theorem withSet_other (j : Image) (n : SetName) (c : CopySet) :
    (n = .a → (j.withSet n c).setB = j.setB) ∧ (n = .b → (j.withSet n c).setA = j.setA) := by
  constructor <;> rintro rfl <;> rfl

theorem withSlot_sets (j : Image) (c : CompletionSlot) : (j.withSlot c).setA = j.setA ∧ (j.withSlot c).setB = j.setB ∧
    (j.withSlot c).lastSlot = j.lastSlot := by
  cases h : j.nextSlot <;> simp [Image.withSlot, h]

/-- The completion slot that comes next: slot 1 behind slot 0, else slot 0. -/
theorem withSlot_slots (j : Image) (c : CompletionSlot) :
    (j.withSlot c).slot0 = (if j.lastSlot ≠ some .slot0 then c else j.slot0) ∧
      (j.withSlot c).slot1 = (if j.lastSlot = some .slot0 then c else j.slot1) := by
  rcases h : j.lastSlot with _ | _ | _ <;> simp [Image.withSlot, Image.nextSlot, h]

/-- The image that BATTERY entry leaves of a write in progress (R178, R179). -/
structure CutOff (k : Nat) (w : Write) (i j : Image) : Prop where
  sections : j.get w.target = CopySet.ofCutWrite k w (i.get w.target)
  otherB : w.target = .a → j.setB = i.setB
  otherA : w.target = .b → j.setA = i.setA
  last : j.lastSlot = i.lastSlot
  slot0 : j.slot0 = if 8 ≤ k ∧ i.lastSlot ≠ some .slot0 then ⟨w.number, false⟩ else i.slot0
  slot1 : j.slot1 = if 8 ≤ k ∧ i.lastSlot = some .slot0 then ⟨w.number, false⟩ else i.slot1

theorem cutOff_cutOff {x : Store} {w : Write} (k : Nat) (h : x.writing = some w) : CutOff k w x.image (x.cutOff k) := by
  obtain ⟨hb, ha⟩ := withSet_other x.image w.target (CopySet.ofCutWrite k w (x.image.get w.target))
  obtain ⟨h0, h1, hlast, hget⟩ := withSet_slots x.image w.target (CopySet.ofCutWrite k w (x.image.get w.target))
  by_cases hk : k < 8
  · have hcut : x.cutOff k = x.image.withSet w.target (CopySet.ofCutWrite k w (x.image.get w.target)) := by
      simp [Store.cutOff, h, hk]
    rw [hcut]
    exact ⟨hget, hb, ha, hlast, by rw [h0, if_neg (by omega)], by rw [h1, if_neg (by omega)]⟩
  · have hcut : x.cutOff k = (x.image.withSet w.target (CopySet.ofCutWrite k w (x.image.get w.target))).withSlot
        ⟨w.number, false⟩ := by
      simp [Store.cutOff, h, hk]
    rw [hcut]
    obtain ⟨hsetA, hsetB, hslot⟩ := withSlot_sets (x.image.withSet w.target (CopySet.ofCutWrite k w (x.image.get w.target)))
      ⟨w.number, false⟩
    obtain ⟨hs0, hs1⟩ := withSlot_slots (x.image.withSet w.target (CopySet.ofCutWrite k w (x.image.get w.target)))
      ⟨w.number, false⟩
    have h8 : 8 ≤ k := Nat.le_of_not_lt hk
    refine ⟨(get_withSlot _ _ _).trans hget, fun e => hsetB.trans (hb e), fun e => hsetA.trans (ha e),
      hslot.trans hlast, ?_, ?_⟩
    · rw [hs0, hlast, h0]
      simp [h8]
    · rw [hs1, hlast, h1]
      simp [h8]

/-- Settles O58: BATTERY entry is one state, whose image is that of the write cut off. -/
theorem supplyFails : Obligations.SupplyFails := by
  intro b s ha
  have hexec : exec (.batteryEntry b) s = .next (arrival (vsFails b) s) := rfl
  rw [hexec, arrival_of_idle ha]
  refine ⟨fun h => ?stays, fun h => ?fails⟩
  case stays =>
    have hstays : vsFails b s = s := by rcases h with h | h <;> simp [vsFails, h]
    rw [hstays, advance_of_idle ha]
  case fails =>
    intro early
    have henters : vsFails b s = enterBattery b s := by rcases h with h | h <;> simp [vsFails, h]
    rw [henters, advance_of_idle (by rfl)]
    have hearly : (decide (s.supply.power = .start) && decide (s.supply.startStep < 2)) = decide early := by
      simp [early]
    refine ⟨_, rfl, rfl, ?battery, fun hw => ?idle, fun w hw => ?cut⟩
    case battery =>
      simp only [enterBattery, State.powered, watchFrom, modeActive_eq, hearly, decide_eq_true_eq]
    case idle => simp [enterBattery, State.powered, Store.cutOff, hw]
    case cut =>
      have hcut : CutOff b.written w s.store.image (enterBattery b s).store.image := cutOff_cutOff b.written hw
      intro old new n x
      have hnew : new = CopySet.ofCutWrite b.written w old := hcut.sections
      rw [hnew]
      exact ⟨cutCopy_cutAt .., cutCopy_cutAt .., cutCopy_cutAt .., cutCopy_cutAt .., cutCopy_cutAt .., cutCopy_cutAt ..,
        cutCopy_cutAt .., cutCopy_cutAt .., hcut.otherB, hcut.otherA, hcut.last, hcut.slot0, hcut.slot1⟩

end Sys2Proof.Proofs
end

section
/-! SUPPORT. HOLDUP entry (R176, R182, R115, R32, R113, R129, R154). -/

namespace Sys2Proof.Proofs
open Sys2Proof.Machine Sys2Proof.Safety

variable {s t u v r x : State} {p : PartMeasurement} {reset : Bool} {w : Work} {k : Fin 10}

/-! ## Records that an evaluation does not reach -/

theorem evaluate_record (hk : k ≠ kindSwitch) (u : State) : (evaluate u).tamper.records[k] = u.tamper.records[k] := by
  have hne : (kindSwitch : Nat) ≠ k := fun h => hk (Fin.ext h.symm)
  rw [(evaluate_evaluated u).tamper]
  split_ifs
  · exact Vector.getElem_set_ne (by decide) _ hne
  · rfl

theorem handReason_record (hk : k ≠ kindSwitch) (g : Governing) (on : Bool) (u : State) :
    (handReason g on u).tamper.records[k] = u.tamper.records[k] := by
  unfold handReason
  split_ifs
  · rfl
  · exact evaluate_record hk _

theorem deriveCredit_record (hk : k ≠ kindSwitch) (u : State) :
    (deriveCredit u).tamper.records[k] = u.tamper.records[k] := by
  unfold deriveCredit
  dsimp only
  split_ifs
  · rw [handReason_record hk]
    rfl
  · rw [handReason_record hk]
    rfl
  · rfl
  · rfl

theorem evaluateFriendly_record (hk : k ≠ kindSwitch) (u : State) :
    (evaluateFriendly u).tamper.records[k] = u.tamper.records[k] := by
  unfold evaluateFriendly
  split_ifs
  · exact evaluate_record hk _
  · rfl

/-- In HOLDUP no day end comes between an activation and its friendly evaluation. -/
theorem catchUpThen_inHoldup (hp : s.supply.power = .holdup) (later : List Due) (behind : State → State) :
    catchUpThen later behind s = behind s := by
  have hallowed : catchUpAllowed s = false := by simp [catchUpAllowed, hp]
  have hidle : catchUp s = s := by simp [catchUp, dayEndsToIssue_of_new, hallowed]
  have hleft : daysLeft s = 0 := by simp [daysLeft, hallowed]
  simp [catchUpThen, hidle, hleft]

theorem activateDue_record (hk : k ≠ kindSwitch) (hp : s.supply.power = .holdup) :
    (activateDue s).tamper.records[k] = s.tamper.records[k] := by
  by_cases h : CalendarDue s
  · obtain ⟨-, -, -, -, -, -, -, -, -, hpower, -⟩ := putInForce_keeps h
    rw [activateDue_of_due h, catchUpThen_inHoldup (hpower.trans hp)]
    refine (evaluateFriendly_record hk (putInForce s)).trans ?_
    simp [putInForce]
  · rw [activateDue_of_none h]

theorem billInterval_record (hk : k ≠ kindSwitch) (hp : s.supply.power = .holdup) (sum out ms : Nat) :
    (billInterval sum out ms s).tamper.records[k] = s.tamper.records[k] := by
  rw [billInterval_derives, deriveCredit_record hk]
  exact activateDue_record hk hp

/-! ## A record that changes beside an evaluation -/

/-- A record other than that of SWITCH replaced. -/
def withRecord (k : Fin 10) (y : TamperRecord) (s : State) : State :=
  { s with tamper := { s.tamper with records := s.tamper.records.set k y } }

/-- An evaluation does not meet a record other than that of SWITCH. -/
theorem evaluated_withRecord (hk : k ≠ kindSwitch) (y : TamperRecord) (h : Evaluated s t) :
    Evaluated (withRecord k y s) (withRecord k y t) := by
  have hne : (k : Nat) ≠ kindSwitch := fun e => hk (Fin.ext e)
  refine ⟨h.inputs, h.hold, h.acting, h.held, h.governing, h.contactor, h.pulse, h.deferred, h.still, h.kept, h.fault,
    h.cleanRun, h.timers, h.seen, h.told, ?_⟩
  have hreleased : released (withRecord k y s) (withRecord k y t) = released s t := rfl
  have hother : (s.tamper.records.set k y)[kindSwitch] =
      s.tamper.records[kindSwitch] := Vector.getElem_set_ne k.isLt _ hne
  have htamper := h.tamper
  rw [hreleased]
  change (withRecord k y t).tamper = if released s t && s.switch.fault then _ else (withRecord k y s).tamper
  by_cases hc : (released s t && s.switch.fault) = true
  · rw [if_pos hc] at htamper ⊢
    simp only [withRecord, htamper, hother, Tamper.mk.injEq, and_true]
    exact Vector.set_comm _ _ hne.symm
  · rw [if_neg hc] at htamper ⊢
    simp only [withRecord, htamper]

theorem handOff_withRecord {moved : Prop} (hk : k ≠ kindSwitch) (y : TamperRecord) (h : HandOff s v t moved) :
    HandOff (withRecord k y s) (withRecord k y v) (withRecord k y t) moved where
  evaluated hm := evaluated_withRecord hk y (h.evaluated hm)
  otherwise hm := by
    obtain ⟨hswitch, htamper⟩ := h.otherwise hm
    refine ⟨hswitch, ?_⟩
    simp only [withRecord, htamper]

/-! ## The partial interval (R32) -/

/-- Some phase of a partial interval lies beyond its range (R23). -/
def partBeyond (p : PartMeasurement) : Bool := decide (p.elapsed ≠ 0 ∧
  (16777215 < p.energy.l1.natAbs ∨ 16777215 < p.energy.l2.natAbs ∨ 16777215 < p.energy.l3.natAbs))

/-- The energy of a phase of a partial interval; with no elapsed time it is 0. -/
def partPhase (p : PartMeasurement) (e : Int) (i : Nat) : Int := if p.elapsed = 0 then 0 else phaseEnergy e i

/-- The state in which a partial interval is billed. -/
def partMarked (p : PartMeasurement) (s : State) : State := setAccount (saturatedIf s.credit.account (partBeyond p)) s

/-- A partial interval billed, before the run counters start anew. -/
def partBilled (p : PartMeasurement) (s : State) : State :=
  billInterval
    (imported s.meter.law (partPhase p p.energy.l1 p.current.l1) (partPhase p p.energy.l2 p.current.l2)
      (partPhase p p.energy.l3 p.current.l3))
    (exported s.meter.law (partPhase p p.energy.l1 p.current.l1) (partPhase p p.energy.l2 p.current.l2)
      (partPhase p p.energy.l3 p.current.l3))
    (min 1000 p.elapsed) (partMarked p s)

theorem partEnergies_eq (p : PartMeasurement) : partEnergies p = ⟨partPhase p p.energy.l1 p.current.l1,
    partPhase p p.energy.l2 p.current.l2, partPhase p p.energy.l3 p.current.l3⟩ := by
  unfold partEnergies partPhase
  split_ifs
  · rfl
  · simp [Phases.zipWith, creepEnergy_eq]

theorem closePartial_eq (p : PartMeasurement) (s : State) : closePartial p s = onMeter restartRuns (partBilled p s) := by
  have hmarked : (if p.elapsed = 0 then s else markSaturation p.energy s) = partMarked p s := by
    by_cases h : p.elapsed = 0
    · simp [h, partMarked, partBeyond, setAccount, saturatedIf, onCredit]
    · rw [if_neg h, markSaturation_eq, partMarked, partBeyond, beyond]
      simp [h]
  unfold closePartial partBilled
  dsimp only
  rw [hmarked, partEnergies_eq, importOf_eq, exportOf_eq]
  rfl

theorem partMarked_stands (p : PartMeasurement) (s : State) : inForce (partMarked p s) = inForce s ∧
    activated (partMarked p s) = activated s ∧ (CalendarDue (partMarked p s) ↔ CalendarDue s) ∧
    ToBill s (partMarked p s) (partBeyond p) ∧ CreditFed s (partMarked p s) :=
  ⟨rfl, rfl, Iff.rfl, ⟨rfl, rfl, rfl, rfl, rfl, rfl, rfl, rfl⟩, creditFed_of_same rfl rfl rfl rfl rfl (.refl s) rfl⟩

/-! ## The entry (R176, R182) -/

/-- An attempt as HOLDUP entry leaves it (R154). -/
def putOff : Attempt → Attempt
  | .wait w => .rewait w
  | .judge w => .rewait w
  | x => x

theorem holdupSwitch_eq (s : State) :
    holdupSwitch s = { s with switch := { s.switch with attempt := putOff s.switch.attempt } } := by
  have hsame (a : Attempt) (h : s.switch.attempt = a) : s = { s with switch := { s.switch with attempt := a } } := by
    subst h
    rfl
  cases h : s.switch.attempt
  case wait => simp only [holdupSwitch, h, putOff, onSwitch]
  case judge => simp only [holdupSwitch, h, putOff, onSwitch]
  all_goals
    simp only [holdupSwitch, h, putOff]
    exact hsame _ h

/-- HOLDUP as its entry finds it: the power state, READY, SUPPLY, and an attempt put off. -/
def dropped (reset : Bool) (s : State) : State := { s with
  intake := { s.intake with ready := false }
  attn := { s.attn with bits := s.attn.bits ||| 0x10 }
  supply := { s.supply with
    power := .holdup, resetHold := reset, resetWrite := .none, vsLow := if reset then s.supply.vsLow else true }
  switch := { s.switch with attempt := putOff s.switch.attempt } }

theorem holdupSwitch_dropped (reset : Bool) (s : State) :
    holdupSwitch (raiseNow attnSupply (dropPower reset (if reset then s else setVsLow true s))) = dropped reset s := by
  rw [holdupSwitch_eq]
  cases reset <;> rfl

/-- The state in which the partial interval is closed. -/
def left (reset : Bool) (s : State) : State := abandonWork (dropped reset s)

/-- The charge of the partial interval, before what follows it. -/
def chargedPart (reset : Bool) (p : PartMeasurement) (s : State) : State := partBilled p (left reset s)

/-- The charged interval behind the counters that start anew and the lockout. -/
def passed (reset : Bool) (p : PartMeasurement) (s : State) : State :=
  passLockout (onMeter restartRuns (chargedPart reset p s))

/-- The state whose sections the hold-up write takes. -/
def toHold (reset : Bool) (p : PartMeasurement) (s : State) : State :=
  markResetWrite reset (holdupWindow (passed reset p s))

/-- HOLDUP as its entry leaves it. -/
def held (reset : Bool) (p : PartMeasurement) (s : State) : State := requestPublication (requestWrite (toHold reset p s))

theorem enterHoldup_held (reset : Bool) (p : PartMeasurement) (s : State) :
    enterHoldup reset p (if reset then s else setVsLow true s) = held reset p s := by
  rw [enterHoldup, holdupSwitch_dropped, closePartial_eq]
  rfl

/-! ## The entry in work (R115, R51) -/

/-- The entry in work ends with the entry of HOLDUP: it decodes, or waits for its apply as a submission. -/
def Leaves (s : State) : Prop := ∃ w, s.intake.work = some w ∧ (w.stage = .decoding ∨ w.stage = .calendar)

theorem takeNext_of_closed (h : s.intake.ready = false) : takeNext s = s := by
  rcases takeNext_cases s with ⟨n, rest, -, -, hr, -⟩ | ht
  · rw [h] at hr
    exact absurd hr (by decide)
  · exact ht

theorem left_of_stays (h : ¬Leaves s) : left reset s = dropped reset s := by
  have hwork : (dropped reset s).intake.work = s.intake.work := rfl
  unfold left abandonWork
  rw [hwork]
  cases hw : s.intake.work with
  | none => rfl
  | some w =>
    cases hg : w.stage
    case decoding => exact absurd ⟨w, hw, .inl hg⟩ h
    case calendar => exact absurd ⟨w, hw, .inr hg⟩ h
    all_goals simp only [hg]

/-- The result with which an entry ends at HOLDUP entry. -/
def powerFailed (s : State) (w : Work) : Result :=
  ⟨.powerFail, 0, if w.stage = .decoding then bareHead s w else []⟩

theorem left_of_leaves (hw : s.intake.work = some w) (hg : w.stage = .decoding ∨ w.stage = .calendar) :
    left reset s = requestPublication (resulted w (powerFailed s w) (dropped reset s)) := by
  have hleft : left reset s = completeEntry (powerFailed s w) (dropped reset s) := by
    have hwork : (dropped reset s).intake.work = some w := hw
    unfold left abandonWork
    rw [hwork]
    rcases hg with hg | hg <;> simp only [hg, powerFailed, if_true, reduceCtorEq, if_false, bodyBeforeCheck_eq]
    rfl
  rw [hleft, completeEntry_of_work (u := dropped reset s) (w := w) (g := w.stage) hw, takeNext_of_closed rfl]

theorem left_agenda (ha : s.agenda = []) : (left reset s).agenda = [] := by
  by_cases h : Leaves s
  · obtain ⟨w, hw, hg⟩ := h
    rw [left_of_leaves hw hg]
    simpa [resulted, dropped] using ha
  · rw [left_of_stays h]
    exact ha

/-- A publication that the completion begins lasts. -/
theorem left_busy (h : (left reset s).attn.busy = false) : s.attn.busy = false := by
  by_cases hl : Leaves s
  · obtain ⟨w, hw, hg⟩ := hl
    rw [left_of_leaves hw hg] at h
    obtain ⟨hnow, hlater⟩ := requestPublication_tells (resulted w (powerFailed s w) (dropped reset s))
    cases hb : (resulted w (powerFailed s w) (dropped reset s)).attn.busy
    · rw [(hnow hb).1] at h
      exact absurd h (by decide)
    · rw [(hlater hb).2] at h
      exact absurd (h.symm.trans hb) (by decide)
  · rw [left_of_stays hl] at h
    exact h

theorem left_keeps (reset : Bool) (s : State) :
    let t := left reset s
    t.pending = s.pending ∧ t.link = s.link ∧ t.meter = s.meter ∧ t.energy = s.energy ∧ t.clock = s.clock ∧
      t.book = s.book ∧ t.credit = s.credit ∧ t.decoder = s.decoder ∧ t.settings = s.settings ∧ t.window = s.window ∧
      t.switch = (dropped reset s).switch ∧ t.tamper = s.tamper ∧ t.battery = s.battery ∧ t.store = s.store ∧
      t.supply = (dropped reset s).supply ∧ t.catchUp = s.catchUp ∧ t.pins = s.pins ∧ t.intake.ready = false ∧
      t.attn.bits = s.attn.bits ||| 0x10 := by
  simp [left]
  simp [dropped]

theorem left_list (reset : Bool) (s : State) : (left reset s).intake.list = s.intake.list := by
  by_cases h : Leaves s
  · obtain ⟨w, hw, hg⟩ := h
    rw [left_of_leaves hw hg]
    simp [resulted, dropped]
  · rw [left_of_stays h]
    rfl

/-! ## The charge of the partial interval (R32) -/

theorem partMarked_left (reset : Bool) (p : PartMeasurement) (s : State) :
    let r := partMarked p (left reset s)
    ToBill s r (partBeyond p) ∧ inForce r = inForce s ∧ activated r = activated s ∧ (CalendarDue r ↔ CalendarDue s) ∧
      r.supply = (dropped reset s).supply ∧ r.store = s.store ∧ r.switch = (dropped reset s).switch ∧ r.tamper = s.tamper ∧
      r.attn = (left reset s).attn ∧ r.intake = (left reset s).intake ∧ r.settings = s.settings ∧ r.clock = s.clock ∧
      r.decoder = s.decoder ∧ r.book = s.book ∧ r.meter = s.meter := by
  obtain ⟨-, -, hmeter, henergy, hclock, hbook, hcredit, hdecoder, hsettings, -, hswitch, htamper, -, hstore, hsupply, -⟩ :=
    left_keeps reset s
  have hforce : inForce (left reset s) = inForce s := by simp only [inForce, hbook, hclock]
  have hactivated : activated (left reset s) = activated s := by simp only [activated, hbook, hclock, hforce]
  have hdue : CalendarDue (left reset s) ↔ CalendarDue s := by simp only [CalendarDue, hbook, hclock]
  refine ⟨⟨?_, by rw [← hcredit]; rfl, hbook, by rw [← hclock]; rfl, hsettings, henergy, ?_, ?_⟩, hforce, hactivated, hdue,
    hsupply, hstore, hswitch, htamper, rfl, rfl, hsettings, hclock, hdecoder, hbook, hmeter⟩
  · rw [← hcredit]
    rfl
  · rw [← htamper]
    rfl
  · rw [← hmeter]
    rfl

/-- The calendar in force as the partial interval is charged: no day end comes in HOLDUP. -/
theorem left_inForceAt (ha : s.agenda = []) :
    let r := partMarked p (left reset s)
    InForceAt r (activateDue r) 0 ∧ (CalendarDue s → Activates r (activateDue r) 0 0) := by
  intro r
  obtain ⟨-, -, -, hdue, hsupply, -⟩ := partMarked_left reset p s
  by_cases h : CalendarDue s
  · have hactivates := activates_inHoldup (hdue.mpr h) (s := r) (by rw [hsupply]; rfl) (left_agenda ha)
    exact ⟨hactivates.inForceAt (hdue.mpr h), fun _ => hactivates⟩
  · exact ⟨inForceAt_of_none (mt hdue.mp h), fun hx => absurd hx h⟩

theorem chargedPart_billed (ha : s.agenda = []) (hl : LawfulBook s.book) :
    let e1 := partPhase p p.energy.l1 p.current.l1
    let e2 := partPhase p p.energy.l2 p.current.l2
    let e3 := partPhase p p.energy.l3 p.current.l3
    Billed s (chargedPart reset p s) 0 (imported s.meter.law e1 e2 e3) (exported s.meter.law e1 e2 e3)
      (min 1000 p.elapsed) (partBeyond p) := by
  have hmeter : (left reset s).meter = s.meter := (left_keeps reset s).2.2.1
  have hbilled := billInterval_billed (sum := imported s.meter.law (partPhase p p.energy.l1 p.current.l1)
    (partPhase p p.energy.l2 p.current.l2) (partPhase p p.energy.l3 p.current.l3))
    (out := exported s.meter.law (partPhase p p.energy.l1 p.current.l1) (partPhase p p.energy.l2 p.current.l2)
    (partPhase p p.energy.l3 p.current.l3)) (ms := min 1000 p.elapsed) (partMarked_left reset p s).1
    (left_inForceAt (p := p) ha).1 hl
  unfold chargedPart partBilled
  rw [hmeter]
  exact hbilled

theorem chargedPart_fed (ha : s.agenda = []) : CreditFed (partMarked p (left reset s)) (chargedPart reset p s) :=
  billInterval_fed (left_inForceAt ha).1

/-- What the charge leaves of the parts behind the activation. -/
theorem chargedPart_behind (reset : Bool) (p : PartMeasurement) (s : State) :
    let a := activateDue (partMarked p (left reset s))
    let t := chargedPart reset p s
    t.switch.friendly = a.switch.friendly ∧ t.book = a.book ∧ t.agenda = a.agenda ∧ t.decoder = a.decoder ∧
      t.catchUp = a.catchUp ∧ t.store = a.store ∧ t.supply = a.supply ∧ t.intake = a.intake :=
  billInterval_behind _ _ _ _

theorem chargedPart_keeps (reset : Bool) (p : PartMeasurement) (s : State) :
    let t := chargedPart reset p s
    t.pending = s.pending ∧ t.link = s.link ∧ t.mem = (left reset s).mem ∧ t.clock = s.clock ∧ t.settings = s.settings ∧
      t.window = s.window ∧ t.battery = s.battery ∧ t.pins = s.pins ∧ t.attn.bits = s.attn.bits ||| 0x10 ∧
      t.attn.busy = (left reset s).attn.busy ∧ t.intake.list = s.intake.list ∧ t.intake.ready = false := by
  obtain ⟨hpending, hlink, -, -, hclock, -, -, -, hsettings, hwindow, -, -, hbattery, -, -, -, hpins, hready, hbits⟩ :=
    left_keeps reset s
  simp [chargedPart, partBilled, partMarked, setAccount, onCredit, hpending, hlink, hclock, hsettings, hwindow, hbattery,
    hpins, hready, hbits, left_list]

theorem chargedPart_meter (reset : Bool) (p : PartMeasurement) (s : State) : (chargedPart reset p s).meter = { s.meter with
    billed := (chargedPart reset p s).meter.billed, band := (chargedPart reset p s).meter.band
    substituted := (chargedPart reset p s).meter.substituted } := by
  have hmeter : (left reset s).meter = s.meter := (left_keeps reset s).2.2.1
  have hmarked : (partMarked p (left reset s)).meter = s.meter := hmeter
  rw [chargedPart, partBilled, billInterval_eq]
  simp [registerEnergy, Meter.bill, hmarked]

theorem chargedPart_record (hk : k ≠ kindSwitch) (reset : Bool) (p : PartMeasurement) (s : State) :
    (chargedPart reset p s).tamper.records[k] = s.tamper.records[k] := by
  obtain ⟨-, -, -, -, hsupply, -, -, htamper, -⟩ := partMarked_left reset p s
  rw [← htamper]
  exact billInterval_record hk (by rw [hsupply]; rfl) _ _ _

/-! ## The window, the lockout and the hold-up write (R113, R129, R176) -/

theorem holdupWindow_window (s : State) :
    (holdupWindow s).window = if s.window.state = .opened then ⟨.closed, 0, 0, none, .holdup⟩ else s.window := by
  unfold holdupWindow
  split_ifs
  · simp [endWindow, handWindowHold, endedWindow]
  · rfl

theorem holdupWindow_stands (s : State) : DueStands s (holdupWindow s) := by
  unfold holdupWindow
  split_ifs
  · rw [endWindow_eq]
    exact DueStands.trans (t := unheld .holdup s) (dueStands_of_eq rfl) (evaluate_stands _)
  · exact .refl s

theorem holdupWindow_friendly (s : State) : (holdupWindow s).switch.friendly = s.switch.friendly := by
  unfold holdupWindow
  split_ifs
  · exact (evaluate_evaluated (unheld .holdup s)).inputs.2.1
  · rfl

theorem holdupWindow_acting (h : s.switch.acting = actingSet s) :
    (holdupWindow s).switch.acting = actingSet (holdupWindow s) := by
  unfold holdupWindow
  split_ifs
  · exact evaluate_acting (unheld .holdup s)
  · exact h

/-- The end of an open window is one evaluation with no hold contribution. -/
theorem holdupWindow_unheld (h : s.window.state = .opened) : (holdupWindow s).switch.windowHold = 0 ∧
    (holdupWindow s).switch.acting = actingSet (holdupWindow s) := by
  have hends : holdupWindow s = evaluate (unheld .holdup s) := if_pos h
  rw [hends]
  exact ⟨(evaluate_evaluated (unheld .holdup s)).inputs.2.2, evaluate_acting _⟩

theorem holdupWindow_record (hk : k ≠ kindSwitch) (s : State) :
    (holdupWindow s).tamper.records[k] = s.tamper.records[k] := by
  unfold holdupWindow
  split_ifs
  · exact evaluate_record hk (unheld .holdup s)
  · rfl

theorem passLockout_tamper (s : State) : (passLockout s).tamper = if s.decoder.lockout = 1 then
    (withRecord kindKeypad (goneRecord s kindKeypad) s).tamper else s.tamper := by
  unfold passLockout
  split_ifs
  · rw [endLockout, reportGone_eq]
    rfl
  · rfl

/-- What the steps behind the charge leave of it. -/
theorem toHold_keeps (reset : Bool) (p : PartMeasurement) (s : State) :
    let x := chargedPart reset p s
    let t := toHold reset p s
    t.pending = x.pending ∧ t.agenda = x.agenda ∧ t.link = x.link ∧ t.mem = x.mem ∧ t.intake = x.intake ∧
      t.energy = x.energy ∧ t.clock = x.clock ∧ t.book = x.book ∧ t.credit = x.credit ∧ t.settings = x.settings ∧
      t.battery = x.battery ∧ t.store = x.store ∧ t.catchUp = x.catchUp ∧ t.pins = x.pins ∧ t.attn.bits = x.attn.bits ∧
      t.attn.busy = x.attn.busy ∧ t.switch.reasons = x.switch.reasons ∧ t.switch.friendly = x.switch.friendly ∧
      t.decoder = { x.decoder with lockout := x.decoder.lockout - 1 } ∧ t.meter = restartRuns x.meter ∧
      t.supply = { x.supply with resetWrite := if reset then .waiting .next else .none } ∧
      t.window = if x.window.state = .opened then ⟨.closed, 0, 0, none, .holdup⟩ else x.window := by
  simp [toHold, markResetWrite, passed, holdupWindow_friendly, holdupWindow_window]

/-- The reset write's mark is the supply monitor's alone. -/
theorem toHold_from (reset : Bool) (p : PartMeasurement) (s : State) :
    (toHold reset p s).switch = (holdupWindow (passed reset p s)).switch ∧
    (toHold reset p s).tamper = (holdupWindow (passed reset p s)).tamper ∧
    (toHold reset p s).attn = (holdupWindow (passed reset p s)).attn ∧
    (toHold reset p s).settings = (holdupWindow (passed reset p s)).settings := by
  simp only [toHold, markResetWrite, onSupply_keeps, and_self]

theorem passed_window (reset : Bool) (p : PartMeasurement) (s : State) : (passed reset p s).window = s.window := by
  have hx : (chargedPart reset p s).window = s.window := (chargedPart_keeps reset p s).2.2.2.2.2.1
  simp [passed, hx]

theorem passed_tamper (reset : Bool) (p : PartMeasurement) (s : State) :
    let x := chargedPart reset p s
    (passed reset p s).tamper = if x.decoder.lockout = 1 then
      (withRecord kindKeypad (goneRecord x kindKeypad) x).tamper else x.tamper :=
  passLockout_tamper (onMeter restartRuns (chargedPart reset p s))

theorem toHold_stands (reset : Bool) (p : PartMeasurement) (s : State) : DueStands (chargedPart reset p s) (toHold reset p s) := by
  obtain ⟨-, -, hattn, -⟩ := toHold_from reset p s
  have hpassed : DueStands (chargedPart reset p s) (passed reset p s) := dueStands_of_eq (by simp [passed])
  exact (hpassed.trans (holdupWindow_stands _)).trans (dueStands_of_eq (by rw [hattn]))

/-- Without an open window the switch controller is no matter of what follows the charge. -/
theorem toHold_quiet (h : s.window.state ≠ .opened) :
    let x := chargedPart reset p s
    (toHold reset p s).switch = x.switch ∧ (toHold reset p s).tamper = if x.decoder.lockout = 1 then
      (withRecord kindKeypad (goneRecord x kindKeypad) x).tamper else x.tamper := by
  obtain ⟨hswitch, htamper, -⟩ := toHold_from reset p s
  have hidle : holdupWindow (passed reset p s) = passed reset p s := if_neg (by rwa [passed_window])
  rw [hidle] at hswitch htamper
  exact ⟨hswitch.trans (by simp [passed]), htamper.trans (passed_tamper reset p s)⟩

theorem toHold_keypad (h : s.decoder.lockout = 1) (hx : (chargedPart reset p s).decoder = s.decoder) :
    (toHold reset p s).tamper.records[kindKeypad] = goneRecord s kindKeypad := by
  have hclock : (chargedPart reset p s).clock = s.clock := (chargedPart_keeps reset p s).2.2.2.1
  have hgone : goneRecord (chargedPart reset p s) kindKeypad = goneRecord s kindKeypad := by
    simp only [goneRecord, hclock, chargedPart_record (k := kindKeypad) (by decide)]
  have hpassed := passed_tamper reset p s
  dsimp only at hpassed
  rw [hx, if_pos h, hgone] at hpassed
  obtain ⟨-, htamper, -⟩ := toHold_from reset p s
  rw [htamper, holdupWindow_record (k := kindKeypad) (by decide), hpassed]
  exact Vector.getElem_set_self _

/-! ## HOLDUP entered -/

theorem held_exec (ha : s.agenda = []) (hp : s.supply.power = .mains) :
    exec (if reset then .resetNLow p else .holdupEntry p) s = .next (advance (held reset p s)) := by
  rw [← enterHoldup_held]
  cases reset
  · have hexec : exec (.holdupEntry p) s = .next (arrival (vsFalls p) s) := rfl
    simp only [Bool.false_eq_true, if_false, hexec, arrival_of_idle ha, vsFalls, hp]
  · have hexec : exec (.resetNLow p) s = .next (arrival (resetLow p) s) := rfl
    simp only [if_true, hexec, arrival_of_idle ha, resetLow, hp]

/-- The parts of the entered HOLDUP that the hold-up write and the publication leave as they were. -/
theorem held_keeps (reset : Bool) (p : PartMeasurement) (s : State) :
    let m := toHold reset p s
    let t := held reset p s
    t.pending = m.pending ∧ t.agenda = m.agenda ∧ t.link = m.link ∧ t.intake = (requestWrite m).intake ∧
      t.attn.bits = m.attn.bits ∧ t.meter = m.meter ∧ t.energy = m.energy ∧ t.clock = m.clock ∧ t.book = m.book ∧
      t.credit = m.credit ∧ t.decoder = m.decoder ∧ t.settings = m.settings ∧ t.window = m.window ∧ t.switch = m.switch ∧
      t.tamper = m.tamper ∧ t.battery = m.battery ∧ t.store = (requestWrite m).store ∧ t.supply = (requestWrite m).supply ∧
      t.catchUp = m.catchUp ∧ t.pins = m.pins := by
  simp [held]

/-- A bit that is due behind the charge is marked: it stays due, or the publication that begins carries it. -/
theorem held_marks {i : Nat} (h : (chargedPart reset p s).attn.due.getLsbD i = true) : Marks s (held reset p s) i := by
  have hdue : (requestWrite (toHold reset p s)).attn.due.getLsbD i = true := by
    simpa using toHold_stands reset p s i h
  have hbusy : (requestWrite (toHold reset p s)).attn.busy = (left reset s).attn.busy := by
    have hx := (chargedPart_keeps reset p s).2.2.2.2.2.2.2.2.2.1
    obtain ⟨-, -, -, -, -, -, -, -, -, -, -, -, -, -, -, hm, -⟩ := toHold_keeps reset p s
    simpa [hm] using hx
  obtain ⟨hnow, hlater⟩ := requestPublication_tells (requestWrite (toHold reset p s))
  cases hb : (left reset s).attn.busy
  · refine .inr ⟨left_busy hb, ?_⟩
    rw [held, (hnow (hbusy.trans hb)).2]
    exact hdue
  · refine .inl ?_
    rw [held, (hlater (hbusy.trans hb)).2]
    exact hdue

/-! ## What the charge and the activation leave in HOLDUP -/

/-- What the charge of a partial interval leaves alone, activation or none. -/
structure Carried (reset : Bool) (s x : State) : Prop where
  agenda : x.agenda = []
  decoder : x.decoder = s.decoder
  catchUp : x.catchUp = s.catchUp
  supply : x.supply = (dropped reset s).supply

theorem storeFree_powered (h : s.supply.power ≠ .start) : StoreFree s ↔ s.store.writing = none := by
  simp [StoreFree, h]

theorem chargedPart_carried (ha : s.agenda = []) : Carried reset s (chargedPart reset p s) := by
  obtain ⟨-, -, -, hdue, hsupply, -, -, -, -, -, -, -, hdecoder, -⟩ := partMarked_left reset p s
  obtain ⟨-, -, hagenda, hdec, hcatch, -, hsup, -⟩ := chargedPart_behind reset p s
  have hleft : (partMarked p (left reset s)).agenda = [] := left_agenda ha
  have hcaught : (partMarked p (left reset s)).catchUp = s.catchUp := by
    obtain ⟨-, -, -, -, -, -, -, -, -, -, -, -, -, -, -, hx, -⟩ := left_keeps reset s
    exact hx
  by_cases h : CalendarDue s
  · have hactivates := (left_inForceAt (reset := reset) (p := p) ha).2 h
    have hasked : (activateDue (partMarked p (left reset s))).supply = (dropped reset s).supply := by
      by_cases hf : StoreFree (partMarked p (left reset s))
      · rw [(hactivates.asked.begun hf).2, hsupply]
        rfl
      · rw [(hactivates.asked.pending hf).2, hsupply]
    refine ⟨hagenda.trans ?_, hdec.trans ?_, hcatch.trans ?_, hsup.trans hasked⟩
    · rw [hactivates.agenda, hleft]
      rfl
    · rw [hactivates.decoder, hdecoder]
      rfl
    · rw [hactivates.catchUp, ← hcaught]
      rfl
  · rw [activateDue_of_none (mt hdue.mp h)] at hagenda hdec hcatch hsup
    exact ⟨hagenda.trans hleft, hdec.trans hdecoder, hcatch.trans hcaught, hsup.trans hsupply⟩

/-- HOLDUP entry begins no other part's work. -/
theorem held_frame (ha : s.agenda = []) :
    SameExcept [.mem, .intake, .attn, .meter, .energy, .book, .credit, .decoder, .window, .switch, .tamper, .store,
      .supply] s (held reset p s) := by
  obtain ⟨xagenda, -, xcatch, -⟩ := chargedPart_carried (reset := reset) (p := p) ha
  obtain ⟨xpending, xlink, -, xclock, xsettings, -, xbattery, xpins, -⟩ := chargedPart_keeps reset p s
  obtain ⟨mpending, magenda, mlink, -, -, -, mclock, -, -, msettings, mbattery, -, mcatch, mpins, -⟩ := toHold_keeps reset p s
  obtain ⟨tpending, tagenda, tlink, -, -, -, -, tclock, -, -, -, tsettings, -, -, -, tbattery, -, -, tcatch, tpins⟩ :=
    held_keeps reset p s
  rw [sameExcept_iff]
  simp [tpending, mpending, xpending, tagenda, magenda, xagenda, ha, tlink, mlink, xlink, tclock, mclock, xclock, tsettings,
    msettings, xsettings, tbattery, mbattery, xbattery, tcatch, mcatch, xcatch, tpins, mpins, xpins]

/-! ## The entry that HOLDUP ends, and the memory -/

theorem toHold_mem (reset : Bool) (p : PartMeasurement) (s : State) : (requestWrite (toHold reset p s)).mem = (left reset s).mem := by
  have hx : (chargedPart reset p s).mem = (left reset s).mem := (chargedPart_keeps reset p s).2.2.1
  have hm : (toHold reset p s).mem = (chargedPart reset p s).mem := (toHold_keeps reset p s).2.2.2.1
  simp [hm, hx]

theorem toHold_closed (reset : Bool) (p : PartMeasurement) (s : State) :
    (requestWrite (toHold reset p s)).intake.ready = false ∧
      (requestWrite (toHold reset p s)).intake.list = s.intake.list := by
  obtain ⟨-, -, -, -, -, -, -, -, -, -, xlist, xready⟩ := chargedPart_keeps reset p s
  have hm : (toHold reset p s).intake = (chargedPart reset p s).intake := (toHold_keeps reset p s).2.2.2.2.1
  simp [hm, xlist, xready]

/-- Outside the pages and the slot of an entry that ends, every byte stands. -/
theorem held_read {a : Nat} (ha : inPages a = false) (hout : ∀ w, s.intake.work = some w →
    (w.stage = .decoding ∨ w.stage = .calendar) → a < slotBase w.slot ∨ slotBase w.slot + 64 ≤ a) :
    (held reset p s).mem.read a = s.mem.read a := by
  rw [held, read_requestPublication ha, toHold_mem]
  by_cases h : Leaves s
  · obtain ⟨w, hw, hg⟩ := h
    rw [left_of_leaves hw hg, read_requestPublication ha]
    exact read_slot_apart _ (hout w hw hg)
  · rw [left_of_stays h]
    rfl

/-- The slot of the entry that ends with HOLDUP, byte by byte. -/
theorem held_slot (h : OwnSlot s w) (hw : s.intake.work = some w) (hg : w.stage = .decoding ∨ w.stage = .calendar)
    {i n : Nat} (hi : i + n ≤ 64) : (held reset p s).mem.readBytes (slotBase w.slot + i) n =
      (writeResult s.mem w (powerFailed s w)).readBytes (slotBase w.slot + i) n := by
  obtain ⟨hready, hlist⟩ := toHold_closed reset p s
  have hwaits : ∀ k ∈ s.intake.list, k ≠ w.slot := fun k hk => (h.waiting k hk).2
  have hheld := readBytes_slot_published (v := requestWrite (toHold reset p s)) (n := w.slot) h.slot hi (by rwa [hlist])
  have hleft := readBytes_slot_published (v := resulted w (powerFailed s w) (dropped reset s)) (n := w.slot) h.slot hi hwaits
  rw [takeNext_of_closed hready] at hheld
  rw [takeNext_of_closed rfl, ← left_of_leaves hw hg] at hleft
  rw [held, hheld, toHold_mem, hleft]
  rfl

theorem held_finished (h : OwnSlot s w) (hw : s.intake.work = some w) (hg : w.stage = .decoding ∨ w.stage = .calendar) :
    Finished (held reset p s).mem w.slot .powerFail 0 ∧ BodyIs (held reset p s).mem w.slot (powerFailed s w).body := by
  have hbyte (i : Nat) (hi : i < 64) : (held reset p s).mem.read (slotBase w.slot + i) =
      (writeResult s.mem w (powerFailed s w)).read (slotBase w.slot + i) := by
    have hone := held_slot (reset := reset) (p := p) h hw hg (i := i) (n := 1) (by omega)
    simpa [Memory.readBytes] using hone
  obtain ⟨hcode, hitem, hbody⟩ := read_writeResult_code s.mem w (powerFailed s w)
  have hlen : (powerFailed s w).body.length ≤ 58 := by
    unfold powerFailed
    split_ifs
    · exact bareHead_length w s
    · exact Nat.zero_le _
  refine ⟨⟨?_, (hbyte 4 (by omega)).trans hcode, (hbyte 5 (by omega)).trans hitem⟩, ?_⟩
  · rw [ownerOf]
    refine (hbyte 0 (by omega)).trans ?_
    exact Memory.read_write_same (Memory.wf_splice (Memory.wf_splice h.canonical _ _) _ _) _ _
  · have hfull := held_slot (reset := reset) (p := p) h hw hg (i := 6) (n := 58) (by omega)
    rw [hbody, List.take_of_length_le hlen] at hfull
    refine (readBytes_of_append (y := List.replicate (58 - (powerFailed s w).body.length) 0) ?_).1
    rw [List.length_append, List.length_replicate, Nat.add_sub_cancel' hlen]
    exact hfull

/-! ## The write, the requesters and the reasons -/

/-- What the supply monitor stands at behind HOLDUP entry, before its write begins. -/
def droppedSupply (reset : Bool) (s : State) : State := { s with supply := { s.supply with
  power := .holdup, resetHold := reset, resetWrite := if reset then .waiting .next else .none
  vsLow := if reset then s.supply.vsLow else true } }

theorem toHold_supply (ha : s.agenda = []) : (toHold reset p s).supply = (droppedSupply reset s).supply := by
  obtain ⟨-, -, -, hsupply⟩ := chargedPart_carried (reset := reset) (p := p) ha
  obtain ⟨-, -, -, -, -, -, -, -, -, -, -, -, -, -, -, -, -, -, -, -, msupply, -⟩ := toHold_keeps reset p s
  rw [msupply, hsupply]
  rfl

/-- Without a due calendar the one write asked for is the hold-up write. -/
theorem held_quiet (ha : s.agenda = []) (h : ¬CalendarDue s) : (held reset p s).book = s.book ∧
    StoreAsked (droppedSupply reset s) (held reset p s) (sectionsOf (held reset p s)) ∧
    RequestersTold (droppedSupply reset s) (held reset p s) (left reset s).intake := by
  obtain ⟨-, -, -, hdue, -, rstore, -, -, -, rintake, -, -, -, rbook, -⟩ := partMarked_left reset p s
  obtain ⟨-, xbook, -, -, -, xstore, -, xintake⟩ := chargedPart_behind reset p s
  rw [activateDue_of_none (mt hdue.mp h)] at xbook xstore xintake
  obtain ⟨-, -, -, -, mintake, -, -, mbook, -, -, -, mstore, -⟩ := toHold_keeps reset p s
  obtain ⟨-, -, -, -, -, -, -, -, tbook, -⟩ := held_keeps reset p s
  have hbefore : (droppedSupply reset s).store = (toHold reset p s).store ∧
      (droppedSupply reset s).supply = (toHold reset p s).supply :=
    ⟨(mstore.trans (xstore.trans rstore)).symm, (toHold_supply ha).symm⟩
  have hsections : sectionsOf (held reset p s) = sectionsOf (toHold reset p s) := by
    simp [sectionsOf, held]
  refine ⟨tbook.trans (mbook.trans (xbook.trans rbook)), ?_, ?_⟩
  · rw [hsections]
    exact asked_between (requestWrite_asked _) hbefore ⟨by simp [held], by simp [held]⟩
  · have htold := requestWrite_requesters (toHold reset p s)
    rw [mintake.trans (xintake.trans rintake)] at htold
    exact told_between htold hbefore (by simp [held])

/-- Behind an activation the store has a write in progress already, and the hold-up write is pending. -/
theorem held_pending (ha : s.agenda = []) (h : CalendarDue s) :
    (held reset p s).supply = (droppedSupply reset s).supply ∧
    (held reset p s).store = { (chargedPart reset p s).store with requested := true } ∧
    (held reset p s).intake = (chargedPart reset p s).intake := by
  have hasked := ((left_inForceAt (reset := reset) (p := p) ha).2 h).asked
  obtain ⟨-, -, -, -, -, xstore, -, -⟩ := chargedPart_behind reset p s
  obtain ⟨-, -, -, -, mintake, -, -, -, -, -, -, mstore, -⟩ := toHold_keeps reset p s
  obtain ⟨-, -, -, -, rsupply, rstore, -⟩ := partMarked_left reset p s
  have hpowered (x : State) (hx : x.supply.power = .holdup) : StoreFree x ↔ x.store.writing = none :=
    storeFree_powered (by rw [hx]; decide)
  have hbusy : ¬StoreFree (toHold reset p s) := by
    rw [hpowered _ (by rw [toHold_supply ha]; rfl), mstore, xstore]
    by_cases hf : StoreFree (partMarked p (left reset s))
    · simp [(hasked.begun hf).1]
    · rw [(hasked.pending hf).1]
      rwa [hpowered _ (by rw [rsupply]; rfl)] at hf
  obtain ⟨hstore, hsupply⟩ := (requestWrite_asked (toHold reset p s)).pending hbusy
  have hintake := (requestWrite_requesters (toHold reset p s)).pending hbusy
  refine ⟨?_, ?_, ?_⟩
  · simp [held, hsupply, toHold_supply ha]
  · simp [held, hstore, mstore]
  · simp [held, hintake, mintake]

theorem held_activated (ha : s.agenda = []) (hp : s.supply.power = .mains) (h : CalendarDue s) :
    (StoreFree s → (held reset p s).store = { s.store with
      writing := some ⟨s.store.lastNumber + 1, s.store.lastSet.target, { sectionsOf s with
        account := saturatedIf s.credit.account (partBeyond p)
        book := activated s }⟩
      requested := true
      periodic := 0 }) ∧
    (¬StoreFree s → (held reset p s).store = { s.store with requested := true }) ∧
    RequestersTold (droppedSupply reset s) (held reset p s) (left reset s).intake := by
  have hactivates := (left_inForceAt (reset := reset) (p := p) ha).2 h
  obtain ⟨-, hstore, hintake⟩ := held_pending (reset := reset) (p := p) ha h
  obtain ⟨-, -, -, -, -, xstore, -, xintake⟩ := chargedPart_behind reset p s
  obtain ⟨hbill, -, hactivated, -, rsupply, rstore, rswitch, rtamper, -, rintake, rsettings, rclock, rdecoder, -⟩ :=
    partMarked_left reset p s
  have hsections : { sectionsOf (partMarked p (left reset s)) with book := activated (partMarked p (left reset s)) } =
      { sectionsOf s with account := saturatedIf s.credit.account (partBeyond p), book := activated s } := by
    simp only [sectionsOf, hactivated, hbill.account, hbill.energy, rdecoder, rsettings, rswitch, rtamper, rclock]
    rfl
  have hasked := hactivates.asked
  rw [hsections] at hasked
  have hfree : StoreFree (partMarked p (left reset s)) ↔ s.store.writing = none := by
    rw [storeFree_powered (by simp [rsupply, dropped]), rstore]
  have hfree_mains : StoreFree s ↔ s.store.writing = none := storeFree_powered (by rw [hp]; decide)
  have hfree_dropped : StoreFree (droppedSupply reset s) ↔ s.store.writing = none :=
    storeFree_powered (s := droppedSupply reset s) (by simp [droppedSupply])
  refine ⟨fun hf => ?_, fun hf => ?_, fun hf => ?_, fun hf => ?_⟩
  · rw [hstore, xstore, (hasked.begun (hfree.mpr (hfree_mains.mp hf))).1, rstore]
  · rw [hstore, xstore, (hasked.pending (mt hfree.mp (mt hfree_mains.mpr hf))).1, rstore]
  · rw [hintake, xintake, hactivates.requesters.begun (hfree.mpr (hfree_dropped.mp hf)), rintake]
  · rw [hintake, xintake, hactivates.requesters.pending (mt hfree.mp (mt hfree_dropped.mpr hf)), rintake]

/-- The requesters behind HOLDUP entry, an activation or none. -/
theorem held_requesters (ha : s.agenda = []) (hp : s.supply.power = .mains) :
    RequestersTold (droppedSupply reset s) (held reset p s) (left reset s).intake := by
  by_cases h : CalendarDue s
  · exact (held_activated ha hp h).2.2
  · exact (held_quiet ha h).2.2

/-- The intake behind an entry that ends with HOLDUP. -/
theorem held_idle (ha : s.agenda = []) (hp : s.supply.power = .mains) (hw : s.intake.work = some w)
    (hg : w.stage = .decoding ∨ w.stage = .calendar) :
    (held reset p s).intake = { s.intake with work := none, ready := false } := by
  have hleft : (left reset s).intake = { s.intake with work := none, ready := false } := by
    rw [left_of_leaves hw hg]
    simp [resulted, dropped]
  have htold := held_requesters (reset := reset) (p := p) ha hp
  rw [hleft] at htold
  by_cases hf : StoreFree (droppedSupply reset s)
  · exact htold.begun hf
  · exact htold.pending hf

/-- The acting set behind the end of the window is that behind HOLDUP entry. -/
theorem held_acting (h : (holdupWindow (passed reset p s)).switch.acting = actingSet (holdupWindow (passed reset p s))) :
    (held reset p s).switch.acting = actingSet (held reset p s) := by
  obtain ⟨-, -, -, -, -, -, -, -, -, -, -, tsettings, -, tswitch, -⟩ := held_keeps reset p s
  obtain ⟨mswitch, -, -, msettings⟩ := toHold_from reset p s
  rw [← mswitch, ← tswitch] at h
  obtain ⟨-, hsame, -⟩ := sets_congr (s := holdupWindow (passed reset p s)) (t := held reset p s)
    (by rw [tswitch, mswitch]) (by rw [tswitch, mswitch]) (by rw [tswitch, mswitch]) (by rw [tsettings, msettings])
  rw [h, hsame]

/-- The derived state and the reasons behind the charge are those behind HOLDUP entry. -/
theorem held_fed (ha : s.agenda = []) : CreditTold s (held reset p s) ∧
    (held reset p s).switch.reasons = { s.switch.reasons with credit := (held reset p s).switch.reasons.credit } ∧
    (s.switch.reasons.credit = s.credit.reason → (held reset p s).switch.reasons.credit = (held reset p s).credit.reason) ∧
    (s.switch.acting = actingSet s → (held reset p s).switch.acting = actingSet (held reset p s)) := by
  have hfed := chargedPart_fed (reset := reset) (p := p) ha
  obtain ⟨-, -, -, -, rsupply, -, rswitch, -, -, -, rsettings, -⟩ := partMarked_left reset p s
  obtain ⟨-, -, -, -, -, -, -, -, -, tcredit, -, tsettings, -, tswitch, -⟩ := held_keeps reset p s
  obtain ⟨-, -, -, -, -, -, -, -, mcredit, msettings, -, -, -, -, -, -, mreasons, -⟩ := toHold_keeps reset p s
  have hcredit : (held reset p s).credit = (chargedPart reset p s).credit := tcredit.trans mcredit
  have hreasons : (held reset p s).switch.reasons = (chargedPart reset p s).switch.reasons := by rw [tswitch, mreasons]
  have rcredit : (partMarked p (left reset s)).credit.ecState = s.credit.ecState ∧
      (partMarked p (left reset s)).credit.lowCredit = s.credit.lowCredit ∧
      (partMarked p (left reset s)).credit.reason = s.credit.reason := by
    obtain ⟨-, -, -, -, -, -, hx, -⟩ := left_keeps reset s
    rw [← hx]
    exact ⟨rfl, rfl, rfl⟩
  have rreasons : (partMarked p (left reset s)).switch.reasons = s.switch.reasons := by rw [rswitch]; rfl
  obtain ⟨rec, rlow, rreason⟩ := rcredit
  refine ⟨fun hchange => ?_, ?_, fun hs => ?_, fun hs => ?_⟩
  · rw [hcredit, ← rec, ← rlow, ← rreason] at hchange
    exact held_marks (hfed.due hchange)
  · rw [hreasons, ← rreasons]
    exact hfed.reasons
  · rw [hreasons, hcredit]
    exact hfed.handed (by simp [handing, rsupply, dropped]) (by rw [rreasons, rreason, hs])
  · have hsets := sets_congr (s := s) (t := partMarked p (left reset s)) rreasons (by rw [rswitch]; rfl)
      (by rw [rswitch]; rfl) rsettings
    have hcharged := hfed.acting (by rw [hsets.2.1, ← hs, rswitch]; rfl)
    have hpassed : (passed reset p s).switch.acting = actingSet (passed reset p s) := by
      have hsame := sets_congr (s := chargedPart reset p s) (t := passed reset p s)
        (by simp [passed]) (by simp [passed]) (by simp [passed]) (by simp [passed])
      rw [hsame.2.1]
      simpa [passed] using hcharged
    exact held_acting (holdupWindow_acting hpassed)

/-- The part as the charge of a partial interval finds the switch controller. -/
def unpowered (s : State) : State := { s with
  supply := { s.supply with power := .holdup }
  switch := { s.switch with attempt := putOff s.switch.attempt } }

/-- A state with the tamper monitor of another one. -/
def besideTamper (x t : State) : State := { t with tamper := x.tamper }

theorem besideTamper_keeps (x t : State) : (besideTamper x t).switch = t.switch ∧ (besideTamper x t).settings = t.settings ∧
    (besideTamper x t).meter = t.meter ∧ (besideTamper x t).clock = t.clock ∧ (besideTamper x t).tamper = x.tamper ∧
    (besideTamper x t).credit = t.credit ∧ (besideTamper x t).attn = t.attn :=
  ⟨rfl, rfl, rfl, rfl, rfl, rfl, rfl⟩

theorem besideTamper_eq {x t : State} (h : t.tamper = x.tamper) : besideTamper x t = t := by
  rw [besideTamper, ← h]

theorem besideTamper_withRecord {x t : State} {y : TamperRecord} (h : t.tamper = (withRecord k y x).tamper) :
    withRecord k y (besideTamper x t) = t := by
  have hsame : withRecord k y (besideTamper x t) = { t with tamper := (withRecord k y x).tamper } := rfl
  rw [hsame, ← h]

theorem held_behind (h : s.window.state ≠ .opened) :
    AsBehind (besideTamper (chargedPart reset p s) (held reset p s)) (chargedPart reset p s) := by
  obtain ⟨-, -, -, -, -, tmeter, -, tclock, -, -, -, tsettings, -, tswitch, -⟩ := held_keeps reset p s
  obtain ⟨-, -, -, -, -, -, mclock, -, -, msettings, -, -, -, -, -, -, -, -, -, mmeter, -⟩ := toHold_keeps reset p s
  obtain ⟨mswitch, -⟩ := toHold_quiet (reset := reset) (p := p) h
  have hmeter : (held reset p s).meter = restartRuns (chargedPart reset p s).meter := tmeter.trans mmeter
  have hclock : (held reset p s).clock = (chargedPart reset p s).clock := tclock.trans mclock
  have hsides : (held reset p s).meter.supplySide = (chargedPart reset p s).meter.supplySide ∧
      (held reset p s).meter.loadSide = (chargedPart reset p s).meter.loadSide := by
    rw [hmeter]
    exact ⟨rfl, rfl⟩
  obtain ⟨bswitch, bsettings, bmeter, bclock, btamper, -⟩ :=
    besideTamper_keeps (chargedPart reset p s) (held reset p s)
  exact ⟨by rw [bswitch, tswitch, mswitch], by rw [bsettings, tsettings, msettings], by rw [bmeter]; exact hsides,
    by rw [bclock, hclock], btamper⟩

/-- The charge hands on its change of the CREDIT reason, before the lockout and the window. -/
theorem held_charged (h : ¬CalendarDue s) (hw : s.window.state ≠ .opened) :
    CreditHanded (unpowered s) (besideTamper (chargedPart reset p s) (held reset p s)) (held reset p s).credit.reason := by
  obtain ⟨-, -, -, hdue, rsupply, -, rswitch, rtamper, -, -, rsettings, -⟩ := partMarked_left reset p s
  obtain ⟨-, -, -, -, -, -, -, -, -, tcredit, -⟩ := held_keeps reset p s
  obtain ⟨-, -, -, -, -, -, -, -, mcredit, -⟩ := toHold_keeps reset p s
  have hcredit : (held reset p s).credit = (chargedPart reset p s).credit := tcredit.trans mcredit
  have hmarked : (unpowered s).credit.ecState = (partMarked p (left reset s)).credit.ecState ∧
      (unpowered s).credit.lowCredit = (partMarked p (left reset s)).credit.lowCredit ∧
      (unpowered s).credit.reason = (partMarked p (left reset s)).credit.reason := by
    obtain ⟨-, -, -, -, -, -, hx, -⟩ := left_keeps reset s
    rw [unpowered, ← hx]
    exact ⟨rfl, rfl, rfl⟩
  have hbefore : AsBefore (unpowered s) (partMarked p (left reset s)) :=
    ⟨by rw [rswitch]; rfl, rsettings.symm, by rw [rsupply]; rfl, rtamper.symm⟩
  obtain ⟨-, -, -, -, -, bcredit, battn⟩ := besideTamper_keeps (chargedPart reset p s) (held reset p s)
  have hmarks (i : Nat) (hi : (chargedPart reset p s).attn.due.getLsbD i = true) :
      Marks (unpowered s) (besideTamper (chargedPart reset p s) (held reset p s)) i := by
    have hmarked : Marks s (held reset p s) i := held_marks hi
    rwa [Marks, battn]
  have hhanded := billInterval_handed (s := unpowered s) (t := besideTamper (chargedPart reset p s) (held reset p s))
    (mt hdue.mp h) hbefore hmarked (by simp [handing, rsupply, dropped]) (held_behind hw) (bcredit.trans hcredit) hmarks
  rwa [bcredit] at hhanded

/-- The reason of the charge reaches the switch controller in one evaluation, beside the end of the lockout. -/
theorem held_handed (ha : s.agenda = []) (h : ¬CalendarDue s) (hw : s.window.state ≠ .opened) (v : State)
    (hv : v = { s with
      tamper := if s.decoder.lockout = 1 then
          { s.tamper with records := s.tamper.records.set kindKeypad (goneRecord s kindKeypad) }
        else s.tamper
      switch := { s.switch with attempt := putOff s.switch.attempt } }) :
    HandOff v { v with
      supply := { v.supply with power := .holdup }
      switch := { v.switch with reasons := { v.switch.reasons with credit := (held reset p s).credit.reason } } }
      (held reset p s) ((held reset p s).credit.reason ≠ s.credit.reason ∧
        s.switch.reasons.credit ≠ (held reset p s).credit.reason) := by
  have hhanded := (held_charged (reset := reset) (p := p) h hw).toHandOff
  have hclock : (chargedPart reset p s).clock = s.clock := (chargedPart_keeps reset p s).2.2.2.1
  have hgone : goneRecord (chargedPart reset p s) kindKeypad = goneRecord s kindKeypad := by
    simp only [goneRecord, hclock, chargedPart_record (k := kindKeypad) (by decide)]
  obtain ⟨-, -, -, -, -, -, -, -, -, -, -, -, -, -, ttamper, -⟩ := held_keeps reset p s
  have htamper := ttamper.trans (toHold_quiet (reset := reset) (p := p) hw).2
  rw [(chargedPart_carried ha).decoder, hgone] at htamper
  by_cases hl : s.decoder.lockout = 1
  · rw [if_pos hl] at htamper hv
    have hboth := handOff_withRecord (k := kindKeypad) (by decide) (goneRecord s kindKeypad) hhanded
    rw [besideTamper_withRecord htamper] at hboth
    subst hv
    exact ⟨hboth.evaluated, hboth.otherwise⟩
  · rw [if_neg hl] at htamper hv
    rw [besideTamper_eq htamper] at hhanded
    subst hv
    exact ⟨hhanded.evaluated, hhanded.otherwise⟩

/-- The engine as HOLDUP entry leaves it: the runs start anew (R32). -/
theorem held_meter (reset : Bool) (p : PartMeasurement) (s : State) : (held reset p s).meter = { s.meter with
    billed := (held reset p s).meter.billed
    band := (held reset p s).meter.band
    substituted := (held reset p s).meter.substituted
    reverse := { s.meter.reverse with run := 0 }
    voltageTap := { s.meter.voltageTap with run := 0 }
    bypass := { s.meter.bypass with run := 0 }
    weld := 0 } := by
  obtain ⟨-, -, -, -, -, tmeter, -⟩ := held_keeps reset p s
  obtain ⟨-, -, -, -, -, -, -, -, -, -, -, -, -, -, -, -, -, -, -, mmeter, -⟩ := toHold_keeps reset p s
  rw [tmeter.trans mmeter, chargedPart_meter]
  rfl

theorem held_billed (ha : s.agenda = []) (hl : LawfulBook s.book) :
    let e1 := partPhase p p.energy.l1 p.current.l1
    let e2 := partPhase p p.energy.l2 p.current.l2
    let e3 := partPhase p p.energy.l3 p.current.l3
    Billed s (held reset p s) 0 (imported s.meter.law e1 e2 e3) (exported s.meter.law e1 e2 e3)
      (min 1000 p.elapsed) (partBeyond p) := by
  have hbilled := chargedPart_billed (reset := reset) (p := p) ha hl
  obtain ⟨-, -, -, -, -, tmeter, tenergy, -, -, tcredit, -⟩ := held_keeps reset p s
  obtain ⟨-, -, -, -, -, menergy, -, -, mcredit, -, -, -, -, -, -, -, -, -, -, mmeter, -⟩ := toHold_keeps reset p s
  have hmeter := tmeter.trans mmeter
  have hband : (held reset p s).meter.band = (chargedPart reset p s).meter.band := by rw [hmeter]; rfl
  have hfigure : (held reset p s).meter.billed = (chargedPart reset p s).meter.billed := by rw [hmeter]; rfl
  refine ⟨hband.trans hbilled.band, hfigure.trans hbilled.figure, ?_, ?_, ?_⟩
  · rw [hmeter]
    exact hbilled.substituted
  · rw [tenergy, menergy, hband, hfigure]
    exact hbilled.energy
  · rw [tcredit, mcredit, hband, hfigure]
    exact hbilled.credit

/-- A calendar that is due comes into force before the charge of the partial interval (R54). -/
theorem held_inForce (ha : s.agenda = []) (h : CalendarDue s) : Activated s (held reset p s) 0 0 := by
  have hactivates := (left_inForceAt (reset := reset) (p := p) ha).2 h
  obtain ⟨-, hforce, hactivated, -, rsupply, -, -, -, -, -, -, rclock, -, rbook, -⟩ := partMarked_left reset p s
  obtain ⟨xfriendly, xbook, -⟩ := chargedPart_behind reset p s
  obtain ⟨-, -, -, -, -, -, -, -, tbook, -, -, -, -, tswitch, -⟩ := held_keeps reset p s
  obtain ⟨-, -, -, -, -, -, -, mbook, -, -, -, -, -, -, -, -, -, mfriendly, -⟩ := toHold_keeps reset p s
  obtain ⟨htold, hreasons, hhanded, hacting⟩ := held_fed (reset := reset) (p := p) ha
  refine ⟨?_, ?_, ?_, htold, hreasons, hhanded, hacting⟩
  · rw [tbook, mbook, xbook, hactivates.book, hactivated, chargedDate_of_zero, chargedDate_of_zero, rbook]
  · rw [tswitch, mfriendly, xfriendly, hactivates.friendly (by simp [handing, rsupply, dropped]), if_pos rfl, if_pos rfl,
      hforce, rclock]
  · exact held_marks (billInterval_stands _ _ _ _ 5 hactivates.calendar)

theorem held_shows (h : ¬Leaves s) (hb : s.attn.busy = false) : PagesShow (held reset p s) := by
  have hleft : (left reset s).attn.busy = false := by
    rw [left_of_stays h]
    exact hb
  have hx := (chargedPart_keeps reset p s).2.2.2.2.2.2.2.2.2.1
  obtain ⟨-, -, -, -, -, -, -, -, -, -, -, -, -, -, -, hm, -⟩ := toHold_keeps reset p s
  have hbusy : (requestWrite (toHold reset p s)).attn.busy = false := by simp [hm, hx, hleft]
  rw [held, requestPublication, hbusy]
  exact beginPublication_shows _

theorem held_unheld (h : s.window.state = .opened) :
    (held reset p s).switch.windowHold = 0 ∧ (held reset p s).switch.acting = actingSet (held reset p s) := by
  obtain ⟨-, -, -, -, -, -, -, -, -, -, -, -, -, tswitch, -⟩ := held_keeps reset p s
  obtain ⟨mswitch, -⟩ := toHold_from reset p s
  obtain ⟨hhold, hacting⟩ := holdupWindow_unheld (s := passed reset p s) (by rwa [passed_window])
  exact ⟨by rw [tswitch, mswitch, hhold], held_acting hacting⟩

/-- Settles O55: the switch controller and the entry in work give way, the partial interval is billed, and the hold-up write
takes what the lockout and the window leave. -/
theorem holdupBegins : Obligations.HoldupBegins := by
  intro reset p s ha hp hlawful c u idle e1 e2 e3 sat leaves
  obtain ⟨xagenda, xdecoder, -, -⟩ := chargedPart_carried (reset := reset) (p := p) ha
  obtain ⟨-, -, -, -, -, xwindow, -, -, xbits, -, xlist, xready⟩ := chargedPart_keeps reset p s
  obtain ⟨-, magenda, -, -, mintake, -, -, -, -, -, -, -, -, -, mbits, -, -, -, mdecoder, -, -, mwindow⟩ :=
    toHold_keeps reset p s
  obtain ⟨-, tagenda, -, tintake, tbits, -, -, -, -, -, tdecoder, -, twindow, -, ttamper, -⟩ := held_keeps reset p s
  have hexec : exec c s = .next (held reset p s) := by
    rw [← advance_of_idle (tagenda.trans (magenda.trans xagenda))]
    exact held_exec ha hp
  have hready : (held reset p s).intake.ready = false ∧ (held reset p s).intake.list = s.intake.list := by
    rw [tintake]
    exact toHold_closed reset p s
  have hbilled := held_billed (reset := reset) (p := p) ha hlawful
  obtain ⟨htold, -⟩ := held_fed (reset := reset) (p := p) ha
  refine ⟨held reset p s, hexec, held_frame ha, fun h => ?quiet, fun h => ?due, ?bits, hready.1, hready.2, ?billed, htold,
    held_meter reset p s, ?decoder, ?window, fun h => ?keypad, fun h hw => ?handed, held_unheld, fun _ a hpage hout =>
    held_read hpage hout, held_shows, fun h => ?told, fun w hw hwork hg => ?decoding, fun w hw hwork hg => ?calendar⟩
  case quiet =>
    obtain ⟨hbook, hasked, -⟩ := held_quiet (reset := reset) (p := p) ha h
    exact ⟨hbook, hasked⟩
  case due =>
    obtain ⟨hfree, hbusy, -⟩ := held_activated (reset := reset) (p := p) ha hp h
    have hsupply : (held reset p s).supply = u.supply := (held_pending ha h).1
    exact ⟨held_inForce ha h, hsupply, hfree, hbusy⟩
  case bits => rw [tbits, mbits, xbits]
  case billed => exact hbilled
  case decoder => rw [tdecoder, mdecoder, xdecoder]
  case window => rw [twindow, mwindow, xwindow]
  case keypad =>
    rw [ttamper]
    exact toHold_keypad h xdecoder
  case handed =>
    refine held_handed ha h hw _ ?_
    cases s.switch.attempt <;> rfl
  case told =>
    have hrequesters := held_requesters (reset := reset) (p := p) ha hp
    rw [left_of_stays h] at hrequesters
    exact hrequesters
  case decoding =>
    obtain ⟨hfinished, hbody⟩ := held_finished (reset := reset) (p := p) hw hwork (.inl hg)
    have hhead : (powerFailed s w).body = bareHead s w := if_pos hg
    rw [hhead] at hbody
    exact ⟨hfinished, hbody, held_idle ha hp hwork (.inl hg)⟩
  case calendar =>
    obtain ⟨hfinished, hbody⟩ := held_finished (reset := reset) (p := p) hw hwork (.inr hg)
    have hhead : (powerFailed s w).body = [] := if_neg (by rw [hg]; decide)
    rw [hhead] at hbody
    exact ⟨hfinished, hbody, held_idle ha hp hwork (.inr hg)⟩

end Sys2Proof.Proofs
end

section
/-! SUPPORT. What a start finds in the image (R179, R184), and the reports that it makes (R160, R167). -/

namespace Sys2Proof.Proofs
open Sys2Proof.Machine Sys2Proof.Safety

variable {s t u : State} {k : Fin 10}

/-! ## The choice of copies (R179) -/

theorem restored_chosen {α : Type} (l : LastWrite) (a b : Copy α) (factory : α) :
    Chosen l a b factory ((restored l a b).getD factory) := by
  unfold Chosen restored
  cases ha : a.passes l <;> cases hb : b.passes l
  · simp
  · simp
  · simp
  · cases h : above b.number a.number <;> simp

theorem restored_isNone {α : Type} (l : LastWrite) (a b : Copy α) :
    (restored l a b).isNone = !(a.passes l || b.passes l) := by
  unfold restored
  cases a.passes l <;> cases b.passes l <;> rfl

theorem restoredSections_from (j : Image) (on : Bool) : RestoredFrom j on (restoredSections j on) where
  account := restored_chosen _ _ _ _
  energy := restored_chosen _ _ _ _
  decoder := restored_chosen _ _ _ _
  settings := restored_chosen _ _ _ _
  book := restored_chosen _ _ _ _
  switch := restored_chosen _ _ _ _
  records := restored_chosen _ _ _ _
  time _ := restored_chosen _ _ _ _

theorem failedSections_mask (j : Image) (on : Bool) : BitVec.ofNat 8 (maskOf (failedSections j on)) = failedMask j on := by
  rw [maskOf_eq_bits]
  simp only [failedSections, failedMask, restored_isNone]

theorem maskOf_testBit (l : List Bool) (n : Nat) : (maskOf l).testBit n = l.getD n false := by
  induction l generalizing n with
  | nil => simp [maskOf]
  | cons b l ih =>
    cases n with
    | zero => cases b <;> simp [maskOf, flag, Nat.testBit_zero]
    | succ n =>
      have hhalf : (flag b + 2 * maskOf l) / 2 = maskOf l := by
        unfold flag
        split_ifs <;> omega
      rw [maskOf, Nat.testBit_succ, hhalf, ih]
      simp

theorem count_true (l : List Bool) : ((List.range l.length).filter fun n => l.getD n false).length = l.count true := by
  induction l with
  | nil => rfl
  | cons b l ih =>
    rw [List.length_cons, List.range_succ_eq_map, List.filter_cons, List.filter_map, List.count_cons, ← ih]
    cases b <;> simp [Function.comp_def]

/-- How many sections have failed. -/
theorem failedMask_count (j : Image) (on : Bool) :
    ((List.range 8).filter fun n => (failedMask j on).getLsbD n).length = (failedSections j on).count true := by
  have hlen : (failedSections j on).length = 8 := rfl
  rw [← failedSections_mask, ← count_true, hlen]
  congr 1
  refine List.filter_congr fun n hn => ?_
  have hlt : n < 8 := List.mem_range.mp hn
  rw [BitVec.getLsbD_ofNat, maskOf_testBit]
  simp [hlt]

/-- The mask of a start in which every section that is judged has failed. -/
theorem allFailed_iff (a b c d e f g h on : Bool) :
    (BitVec.ofNat 8 (maskOf [a, b, c, d, e, f, g, on && h]) = if on then 0xFF else 0x7F) ↔
      (a && b && c && d && e && f && g && (!on || h)) = true := by
  revert a b c d e f g h on
  decide

/-- The number of the last completed write that a start finds, 0 where no copy passes (R184). -/
theorem found_number (x : Store) (on : Bool) : (x.found on).lastNumber =
    if failedMask x.image on = (if on then 0xFF else 0x7F) then 0 else (x.image.lastWrite on).number := by
  have hall := allFailed_iff (restored (x.image.lastWrite on) x.image.setA.account x.image.setB.account).isNone
    (restored (x.image.lastWrite on) x.image.setA.energy x.image.setB.energy).isNone
    (restored (x.image.lastWrite on) x.image.setA.decoder x.image.setB.decoder).isNone
    (restored (x.image.lastWrite on) x.image.setA.settings x.image.setB.settings).isNone
    (restored (x.image.lastWrite on) x.image.setA.book x.image.setB.book).isNone
    (restored (x.image.lastWrite on) x.image.setA.switch x.image.setB.switch).isNone
    (restored (x.image.lastWrite on) x.image.setA.records x.image.setB.records).isNone
    (restored (x.image.lastWrite on) x.image.setA.time x.image.setB.time).isNone on
  change (BitVec.ofNat 8 (maskOf (failedSections x.image on)) = _) ↔ _ at hall
  rw [failedSections_mask] at hall
  have hpass : (x.image.setA.somePass (x.image.lastWrite on) on || x.image.setB.somePass (x.image.lastWrite on) on) = false ↔
      failedMask x.image on = if on then 0xFF else 0x7F := by
    rw [hall]
    simp only [restored_isNone, CopySet.somePass, Bool.or_eq_false_iff, Bool.and_eq_true, Bool.not_eq_true',
      Bool.or_eq_true, Bool.and_eq_false_iff]
    tauto
  unfold Store.found
  dsimp only
  by_cases h : failedMask x.image on = if on then 0xFF else 0x7F
  · rw [if_pos h, hpass.mpr h]
    rfl
  · rw [if_neg h, if_pos (by simpa only [Bool.not_eq_false] using mt hpass.mp h)]

/-! ## Reports before the hand-offs of a start (R160, R167) -/

/-- Between `s` and `t` each tamper record has changed as `f` has it, and nothing else but what the monitor makes of it: the
TAMPER reason, the marks and the request for a write. -/
structure Tells (s t : State) (f : Fin 10 → TamperRecord → TamperRecord) : Prop where
  frame : t = { s with
    tamper := { s.tamper with records := t.tamper.records, reason := t.tamper.reason }
    attn := t.attn
    store := { s.store with requested := t.store.requested } }
  record : ∀ n : Fin 10, t.tamper.records[n] = f n s.tamper.records[n]

/-- One kind's record changes. -/
def onKind (k : Fin 10) (h : TamperRecord → TamperRecord) (n : Fin 10) (r : TamperRecord) : TamperRecord :=
  if n = k then h r else r

/-- A present report as `s` makes it. -/
def presentAs (s : State) (k : Fin 10) (r : TamperRecord) : TamperRecord :=
  presentAt s.clock.time (s.energy.total / 1000000) s.credit.account.balance (s.settings.tamperActions.testBit k) r

/-- A start before the end of its step 4: no reason is handed, and no write begins. -/
structure Early (s : State) : Prop where
  power : s.supply.power = .start
  step : s.supply.startStep < 4

variable {f g : Fin 10 → TamperRecord → TamperRecord}

theorem Tells.trans (h : Tells s t f) (i : Tells t u g) : Tells s u fun n r => g n (f n r) where
  frame := by
    have hi := i.frame
    rw [h.frame] at hi
    exact hi
  record n := by rw [i.record, h.record]

theorem Tells.refl (s : State) : Tells s s fun _ r => r := ⟨rfl, fun _ => rfl⟩

theorem Tells.congr (h : Tells s t f) (e : ∀ n r, f n r = g n r) : Tells s t g :=
  ⟨h.frame, fun n => by rw [h.record, e]⟩

/-- What stands beside the records, part by part. -/
theorem Tells.keeps (h : Tells s t f) : t.pending = s.pending ∧ t.agenda = s.agenda ∧ t.link = s.link ∧ t.mem = s.mem ∧
    t.intake = s.intake ∧ t.meter = s.meter ∧ t.energy = s.energy ∧ t.clock = s.clock ∧ t.book = s.book ∧
    t.credit = s.credit ∧ t.decoder = s.decoder ∧ t.settings = s.settings ∧ t.window = s.window ∧ t.switch = s.switch ∧
    t.battery = s.battery ∧ t.supply = s.supply ∧ t.pins = s.pins ∧ t.catchUp = s.catchUp ∧
    t.store = { s.store with requested := t.store.requested } ∧ t.tamper.caseIn = s.tamper.caseIn ∧
    t.tamper.coverIn = s.tamper.coverIn ∧ t.tamper.magIn = s.tamper.magIn := by
  have hframe := h.frame
  generalize t.tamper.records = rs at hframe
  generalize t.tamper.reason = reason at hframe
  generalize t.attn = attn at hframe
  generalize t.store.requested = requested at hframe
  subst hframe
  simp

theorem Tells.early (h : Tells s t f) (he : Early s) : Early t := by
  obtain ⟨-, -, -, -, -, -, -, -, -, -, -, -, -, -, -, hsupply, -⟩ := h.keeps
  exact ⟨by rw [hsupply]; exact he.power, by rw [hsupply]; exact he.step⟩

theorem Tells.presentAs (h : Tells s t f) (k : Fin 10) : presentAs t k = presentAs s k := by
  obtain ⟨-, -, -, -, -, -, henergy, hclock, -, hcredit, -, hsettings, -⟩ := h.keeps
  funext r
  simp only [Proofs.presentAs, henergy, hclock, hcredit, hsettings]

theorem Early.handing (h : Early s) : Machine.handing s = false := by
  have hstep := h.step
  simp only [Machine.handing, h.power, decide_eq_false_iff_not]
  omega

theorem requestWrite_early (h : Early s) : requestWrite s = onStore (fun x => { x with requested := true }) s := by
  have hwaits : storeWaits s = true := by simp [storeWaits, h.power, h.step]
  simp [requestWrite, hwaits]

theorem deriveTamper_tells (h : Early s) : Tells s (deriveTamper s) fun _ r => r := by
  unfold deriveTamper
  dsimp only
  rw [h.handing]
  split_ifs
  · exact .refl s
  · contradiction
  · exact ⟨rfl, fun _ => rfl⟩

theorem setRecord_tells (k : Fin 10) (y : TamperRecord) (s : State) : Tells s (setRecord k y s) (onKind k fun _ => y) := by
  refine ⟨rfl, fun n => ?_⟩
  by_cases hn : n = k
  · subst hn
    simp [setRecord, onKind]
  · have hne : (k : Nat) ≠ n := fun e => hn (Fin.ext e.symm)
    simp [setRecord, onKind, hn, Vector.getElem_set_ne, hne]

theorem enteredActive_tells (h : Early s) : Tells s (enteredActive s) fun _ r => r := by
  have hmark : Tells s (requestWrite (markDue attnTamper s)) fun _ r => r := by
    rw [requestWrite_early (s := markDue attnTamper s) ⟨h.power, h.step⟩]
    exact ⟨rfl, fun _ => rfl⟩
  exact hmark.trans (deriveTamper_tells (hmark.early h))

theorem onKind_eq (k : Fin 10) (h : TamperRecord → TamperRecord) (y : TamperRecord) {rs : Vector TamperRecord 10}
    (e : h rs[k] = y) (n : Fin 10) : onKind k (fun _ => y) n rs[n] = onKind k h n rs[n] := by
  unfold onKind
  split_ifs with hn
  · subst hn
    exact e.symm
  · rfl

/-- A record set to what `h` makes of it. -/
theorem Tells.ofSet {h : TamperRecord → TamperRecord} {y : TamperRecord} (i : Tells s t (onKind k fun _ => y))
    (e : h s.tamper.records[k] = y) : Tells s t (onKind k h) :=
  ⟨i.frame, fun n => by rw [i.record, onKind_eq k h y e]⟩

theorem reportPresent_tells (h : Early s) (k : Fin 10) : Tells s (reportPresent k s) (onKind k (presentAs s k)) := by
  have hrecord : presentAs s k s.tamper.records[k] = presentRecord s k := rfl
  by_cases hk : s.tamper.records[k].state = .active
  · rw [reportPresent_of_active hk]
    refine ⟨rfl, fun n => ?_⟩
    unfold onKind
    split_ifs with hn
    · subst hn
      rw [hrecord, presentRecord_active hk]
    · rfl
  · have hset := setRecord_tells k (activeRecord s k s.tamper.records[k]) s
    have hboth := hset.trans (enteredActive_tells (hset.early h))
    have hreport : reportPresent k s = enteredActive (setRecord k (activeRecord s k s.tamper.records[k]) s) := if_neg hk
    rw [hreport]
    exact hboth.ofSet (hrecord.trans (presentRecord_eq s k hk))

theorem reportGone_tells (k : Fin 10) (s : State) : Tells s (reportGone k s) (onKind k (goneAt s.clock.time)) := by
  rw [reportGone_eq]
  have hset := setRecord_tells k (goneRecord s k) s
  exact hset.ofSet rfl

theorem reportBoth_tells (h : Early s) (k : Fin 10) : Tells s (reportBoth k s)
    (onKind k fun r => goneAt s.clock.time (presentAs s k r)) := by
  have hpresent := reportPresent_tells h k
  have hclock : (reportPresent k s).clock = s.clock := by simp
  have hboth := hpresent.trans (reportGone_tells k (reportPresent k s))
  rw [hclock] at hboth
  refine hboth.congr fun n r => ?_
  unfold onKind
  split_ifs <;> rfl

theorem report_tells (h : Early s) (k : Fin 10) (present : Bool) : Tells s (report k present s)
    (onKind k fun r => if present then presentAs s k r else goneAt s.clock.time r) := by
  cases present
  · exact reportGone_tells k s
  · exact reportPresent_tells h k

end Sys2Proof.Proofs
end

section
/-! SUPPORT. The first two steps of a start (R184, R185): the sections restored, and battery time, sense inputs and clock. -/

namespace Sys2Proof.Proofs
open Sys2Proof.Machine Sys2Proof.Safety

variable {s t u : State} {k : Fin 10} {f : Fin 10 → TamperRecord → TamperRecord} {v : StartView}

/-! ## Step 1 (R184) -/

theorem reportFailed_tells (h : Early s) (l : List Bool) : Tells s (reportFailed l s)
    (onKind kindRetention fun r => (fun y => goneAt s.clock.time (presentAs s kindRetention y))^[l.count true] r) := by
  induction l generalizing s with
  | nil =>
    refine (Tells.refl s).congr fun n r => ?_
    simp [onKind]
  | cons b l ih =>
    cases b with
    | false =>
      have hcount : (false :: l).count true = l.count true := by simp
      rw [hcount]
      exact ih h
    | true =>
      have hone := reportBoth_tells h kindRetention
      have hrest := ih (hone.early h)
      rw [hone.presentAs] at hrest
      obtain ⟨-, -, -, -, -, -, -, hclock, -⟩ := hone.keeps
      rw [hclock] at hrest
      refine (hone.trans hrest).congr fun n r => ?_
      rw [List.count_cons_self]
      unfold onKind
      split_ifs
      · exact (Function.iterate_succ_apply _ _ _).symm
      · rfl

/-- The start with its sections restored, before the reports of step 1. -/
def refilled (cause : StartCause) (i : StartInputs) (j : Image) (s : State) : State :=
  noteRestore (cause = .powerOn) (takeSections (restoredSections (j.damage i.damage) (cause = .powerOn))
    (startState cause i j s))

theorem refilled_early (cause : StartCause) (i : StartInputs) (j : Image) (s : State) : Early (refilled cause i j s) :=
  ⟨rfl, Nat.one_lt_ofNat⟩

/-- Step 1 as its reports have it. -/
theorem restoreStep_tells (cause : StartCause) (i : StartInputs) (j : Image) (s : State) :
    let r := refilled cause i j s
    Tells r (restoreStep (startState cause i j s)) (onKind kindRetention fun x =>
      (fun y => goneAt r.clock.time (presentAs r kindRetention y))^[(failedSections (j.damage i.damage)
        (cause = .powerOn)).count true] x) := by
  intro r
  have hfailed := reportFailed_tells (refilled_early cause i j s) (failedSections (j.damage i.damage) (cause = .powerOn))
  have hderived := hfailed.trans (deriveTamper_tells (hfailed.early (refilled_early cause i j s)))
  exact hderived

/-! ## What a start reports from -/

/-- The reports of a start that are made in `u` are those of the view `v`. -/
structure Views (v : StartView) (u : State) : Prop where
  time : u.clock.time = v.time
  energy : u.energy = v.restored.energy
  balance : u.credit.account.balance = v.restored.account.balance
  settings : u.settings = v.restored.settings

theorem Views.presentAs (h : Views v u) (k : Fin 10) : presentAs u k = v.present k := by
  funext r
  simp only [Proofs.presentAs, StartView.present, h.time, h.energy, h.balance, h.settings]

theorem Tells.views (h : Tells s t f) (i : Views v s) : Views v t := by
  obtain ⟨-, -, -, -, -, -, henergy, hclock, -, hcredit, -, hsettings, -⟩ := h.keeps
  exact ⟨by rw [hclock, i.time], by rw [henergy, i.energy], by rw [hcredit, i.balance], by rw [hsettings, i.settings]⟩

/-! ## Step 2 (R59, R170, R171) -/

/-- What a merge makes of its record. -/
def mergedBy (s : State) (i : SenseInput) (b : BatteryWatch) (high : Bool) (r : TamperRecord) : TamperRecord :=
  if b.count = 0 then r
  else mergedRecord s (inputKind i) b (!modeEdge (inputMode s.settings i) && modeActive (inputMode s.settings i) high) r

theorem mergeWatch_tells (h : Early s) (i : SenseInput) (b : BatteryWatch) (high : Bool) :
    Tells s (mergeWatch i b high s) (onKind (inputKind i) (mergedBy s i b high)) := by
  unfold mergeWatch
  dsimp only
  split_ifs with hcount hactive
  · refine (Tells.refl s).congr fun n r => ?_
    simp [onKind, mergedBy, hcount]
  · exact (setRecord_tells _ _ s).ofSet (by rw [mergedBy, if_neg hcount])
  · have hset := setRecord_tells (inputKind i) (mergedRecord s (inputKind i) b
      (!modeEdge (inputMode s.settings i) && modeActive (inputMode s.settings i) high) s.tamper.records[inputKind i]) s
    exact (hset.trans (enteredActive_tells (hset.early h))).ofSet (by rw [mergedBy, if_neg hcount])

/-- What an input's start report makes of its record. -/
def startReported (s : State) (i : SenseInput) (r : TamperRecord) : TamperRecord :=
  if modeEdge (inputMode s.settings i) then
    if (inputState s i).qualified && s.supply.cause = .powerOn then goneAt s.clock.time (presentAs s (inputKind i) r) else r
  else if (inputState s i).qualified then presentAs s (inputKind i) r else goneAt s.clock.time r

theorem inputStartReport_tells (h : Early s) (i : SenseInput) :
    Tells s (inputStartReport i s) (onKind (inputKind i) (startReported s i)) := by
  unfold inputStartReport
  dsimp only
  split_ifs with hedge hboth
  · refine (reportBoth_tells h (inputKind i)).congr fun n r => ?_
    simp only [onKind, startReported, hedge, hboth, if_true]
  · refine (Tells.refl s).congr fun n r => ?_
    simp only [onKind, startReported, hedge, hboth, if_true]
    simp
  · refine (report_tells h (inputKind i) (inputState s i).qualified).congr fun n r => ?_
    simp only [onKind, startReported, hedge]
    simp

theorem refreshActions_tells (s : State) :
    Tells s (refreshActions s) fun n r => withAction (s.settings.tamperActions.testBit n) r := by
  refine ⟨rfl, fun n => ?_⟩
  simp [refreshActions, copyActions, withAction]

/-- What the reports on the crystal make of the CLOCK record. -/
def clockReported (s : State) (r : TamperRecord) : TamperRecord :=
  let told := if s.clock.source = .backup ∨ (s.supply.cause ≠ .powerOn ∧ s.clock.crystalFailed = true) then
    presentAs s kindClock r else r
  if s.clock.source = .crystal then goneAt s.clock.time told else told

theorem Tells.exists_eq (h : Tells s t f) : ∃ (rs : Vector TamperRecord 10) (reason : Bool) (attn : Attn) (requested : Bool),
    t = { s with
      tamper := { s.tamper with records := rs, reason := reason }
      attn := attn
      store := { s.store with requested := requested } } ∧ ∀ n : Fin 10, rs[n] = f n s.tamper.records[n] :=
  ⟨_, _, _, _, h.frame, h.record⟩

theorem Tells.clearCrystalMark (h : Tells s t f) : Tells (clearCrystalMark s) (clearCrystalMark t) f := by
  obtain ⟨rs, reason, attn, requested, rfl, hrecord⟩ := h.exists_eq
  exact ⟨rfl, hrecord⟩

theorem Tells.setStartStep (h : Tells s t f) (n : Nat) : Tells (setStartStep n s) (setStartStep n t) f := by
  obtain ⟨rs, reason, attn, requested, rfl, hrecord⟩ := h.exists_eq
  exact ⟨rfl, hrecord⟩

theorem goneAt_goneAt (time : Nat) (r : TamperRecord) : goneAt time (goneAt time r) = goneAt time r := by
  cases h : r.state <;> simp [goneAt, h]

theorem clockReports_onCrystal (h : s.clock.source = .crystal) : clockReports s = reportGone kindClock (clearCrystalMark
    (if s.supply.cause ≠ .powerOn ∧ s.clock.crystalFailed = true then reportBoth kindClock s else s)) := by
  by_cases hc : s.supply.cause = .powerOn <;> cases hf : s.clock.crystalFailed <;> simp [clockReports, h, hc, hf]

theorem clockReports_onBackup (h : s.clock.source = .backup) :
    clockReports s = clearCrystalMark (reportPresent kindClock s) := by
  by_cases hc : s.supply.cause = .powerOn <;> cases hf : s.clock.crystalFailed <;> simp [clockReports, h, hc, hf]

theorem clockReports_tells (h : Early s) :
    Tells (clearCrystalMark s) (clockReports s) (onKind kindClock (clockReported s)) := by
  cases hs : s.clock.source with
  | backup =>
    rw [clockReports_onBackup hs]
    refine (reportPresent_tells h kindClock).clearCrystalMark.congr fun n r => ?_
    simp [onKind, clockReported, hs]
  | crystal =>
    have htold : Tells s (if s.supply.cause ≠ .powerOn ∧ s.clock.crystalFailed = true then reportBoth kindClock s else s)
        (onKind kindClock fun r => if s.supply.cause ≠ .powerOn ∧ s.clock.crystalFailed = true then
          goneAt s.clock.time (presentAs s kindClock r) else r) := by
      split_ifs
      · exact reportBoth_tells h kindClock
      · exact (Tells.refl s).congr fun n r => by simp [onKind]
    have htime := (reportGone_tells kindClock (clearCrystalMark (if s.supply.cause ≠ .powerOn ∧
      s.clock.crystalFailed = true then reportBoth kindClock s else s)))
    obtain ⟨-, -, -, -, -, -, -, hclock, -⟩ := htold.clearCrystalMark.keeps
    rw [hclock] at htime
    rw [clockReports_onCrystal hs]
    refine (htold.clearCrystalMark.trans htime).congr fun n r => ?_
    unfold onKind
    split_ifs with hn hc
    · simp only [clockReported, hs, hc, if_true, or_true, ne_eq, not_false_eq_true, and_self]
      exact goneAt_goneAt _ _
    · simp only [clockReported, hs, hc]
      rfl
    · rfl

/-- The inputs set up and the battery domain emptied at step 2, beside the records. -/
def readied (p : SensePins) (s : State) : State :=
  setupInput .magIn p.magHigh (setupInput .coverIn p.coverHigh (setupInput .caseIn p.caseHigh
    (onBattery (Battery.merged s.settings) s)))

theorem readied_keeps (p : SensePins) (s : State) : (readied p s).clock = s.clock ∧ (readied p s).energy = s.energy ∧
    (readied p s).credit = s.credit ∧ (readied p s).settings = s.settings ∧ (readied p s).supply = s.supply ∧
    (readied p s).decoder = s.decoder := by
  simp [readied]

theorem Views.readied (h : Views v s) (p : SensePins) : Views v (readied p s) := by
  obtain ⟨hclock, henergy, hcredit, hsettings, -⟩ := readied_keeps p s
  exact ⟨by rw [hclock, h.time], by rw [henergy, h.energy], by rw [hcredit, h.balance], by rw [hsettings, h.settings]⟩

theorem Tells.readied (h : Tells s t f) (p : SensePins) : Tells (readied p s) (readied p t) f := by
  obtain ⟨rs, reason, attn, requested, rfl, hrecord⟩ := h.exists_eq
  exact ⟨rfl, hrecord⟩

/-- What step 2 changes beside the records, the marks and the request for a write. -/
def settled (s : State) : State := setStartStep 2 (clearCrystalMark (readied s.pins.sense s))

/-- What step 2 makes of each record: the merges, the inputs' reports, the actions, the crystal's report and that of
the lockout. -/
def settledRecord (s : State) (n : Fin 10) (r : TamperRecord) : TamperRecord :=
  let u := readied s.pins.sense s
  let merged := onKind kindCover (mergedBy s .coverIn s.battery.coverIn s.pins.sense.coverHigh) n
    (onKind kindCase (mergedBy s .caseIn s.battery.caseIn s.pins.sense.caseHigh) n r)
  let reported := onKind kindMagnet (startReported u .magIn) n (onKind kindCover (startReported u .coverIn) n
    (onKind kindCase (startReported u .caseIn) n merged))
  let clocked := onKind kindClock (clockReported s) n (withAction (s.settings.tamperActions.testBit n) reported)
  onKind kindKeypad (fun x => if 0 < s.decoder.lockout then presentAs s kindKeypad x else goneAt s.clock.time x) n clocked

/-- What the reports of step 2 read is no matter of the records. -/
theorem Tells.reads (h : Tells s t f) (i : SenseInput) (b : BatteryWatch) (high : Bool) :
    mergedBy t i b high = mergedBy s i b high ∧ startReported t i = startReported s i ∧ clockReported t = clockReported s := by
  obtain ⟨rs, reason, attn, requested, rfl, -⟩ := h.exists_eq
  exact ⟨rfl, by cases i <;> rfl, rfl⟩

theorem readied_early (h : Early s) (p : SensePins) : Early (readied p s) := by
  obtain ⟨-, -, -, -, hsupply, -⟩ := readied_keeps p s
  exact ⟨by rw [hsupply, h.power], by rw [hsupply]; exact h.step⟩

/-- What the last two reports of step 2 read is no matter of the inputs. -/
theorem readied_reads (p : SensePins) (s : State) (k : Fin 10) : clockReported (readied p s) = clockReported s ∧
    presentAs (clearCrystalMark (readied p s)) k = presentAs s k ∧
    (clearCrystalMark (readied p s)).clock.time = s.clock.time ∧
    (clearCrystalMark (readied p s)).decoder = s.decoder := by
  obtain ⟨hclock, henergy, hcredit, hsettings, hsupply, hdecoder⟩ := readied_keeps p s
  have hpresents (u : State) : presentAs u k = presentAt u.clock.time (u.energy.total / 1000000) u.credit.account.balance
      (u.settings.tamperActions.testBit k) := rfl
  refine ⟨?_, ?_, ?_, ?_⟩
  · unfold clockReported
    simp only [presentAs, hclock, henergy, hcredit, hsettings, hsupply]
  · simp [hpresents, clearCrystalMark, hclock, henergy, hcredit, hsettings]
  · simp [clearCrystalMark, hclock]
  · simp [clearCrystalMark, hdecoder]

/-- The reports on the sense inputs, with the merges before them. -/
theorem settleInputs_tells (h : Early s) :
    let u := readied s.pins.sense s
    Tells u (settleInputs s) fun n r =>
      withAction (s.settings.tamperActions.testBit n) (onKind kindMagnet (startReported u .magIn) n
        (onKind kindCover (startReported u .coverIn) n (onKind kindCase (startReported u .caseIn) n
          (onKind kindCover (mergedBy s .coverIn s.battery.coverIn s.pins.sense.coverHigh) n
            (onKind kindCase (mergedBy s .caseIn s.battery.caseIn s.pins.sense.caseHigh) n r))))) := by
  intro u
  have hcase := mergeWatch_tells h .caseIn s.battery.caseIn s.pins.sense.caseHigh
  have hcover := mergeWatch_tells (hcase.early h) .coverIn s.battery.coverIn s.pins.sense.coverHigh
  rw [(hcase.reads .coverIn s.battery.coverIn s.pins.sense.coverHigh).1] at hcover
  have hready := (hcase.trans hcover).readied s.pins.sense
  have hu : Early u := readied_early h _
  have hone := inputStartReport_tells (hready.early hu) .caseIn
  rw [(hready.reads .caseIn s.battery.caseIn true).2.1] at hone
  have htwo := inputStartReport_tells ((hready.trans hone).early hu) .coverIn
  rw [((hready.trans hone).reads .coverIn s.battery.caseIn true).2.1] at htwo
  have hthree := inputStartReport_tells (((hready.trans hone).trans htwo).early hu) .magIn
  rw [(((hready.trans hone).trans htwo).reads .magIn s.battery.caseIn true).2.1] at hthree
  have hall := ((hready.trans hone).trans htwo).trans hthree
  obtain ⟨-, -, -, -, -, -, -, -, -, -, -, hsettings, -⟩ := hall.keeps
  have hrefreshed := hall.trans (refreshActions_tells _)
  have hderived := hrefreshed.trans (deriveTamper_tells (hrefreshed.early hu))
  rw [hsettings] at hderived
  exact hderived

theorem batteryStep_eq (s : State) : batteryStep s = setStartStep 2 (report kindKeypad
    (decide (0 < (clockReports (settleInputs s)).decoder.lockout)) (clockReports (settleInputs s))) := rfl

theorem batteryStep_tells (h : Early s) : Tells (settled s) (batteryStep s) (settledRecord s) := by
  obtain ⟨hreads, hpresents, htime, hsame⟩ := readied_reads s.pins.sense s kindKeypad
  have hinputs := settleInputs_tells h
  have hu : Early (readied s.pins.sense s) := readied_early h _
  have hclock := clockReports_tells (hinputs.early hu)
  rw [(hinputs.reads .caseIn s.battery.caseIn true).2.2, hreads] at hclock
  have hclocked := hinputs.clearCrystalMark.trans hclock
  have hcleared : Early (clearCrystalMark (readied s.pins.sense s)) := ⟨hu.power, hu.step⟩
  have hkeypad := report_tells (hclocked.early hcleared) kindKeypad
    (decide (0 < (clockReports (settleInputs s)).decoder.lockout))
  obtain ⟨-, -, -, -, -, -, -, hclocks, -, -, hdecoder, -⟩ := hclocked.keeps
  rw [hclocked.presentAs, hpresents, hclocks, htime] at hkeypad
  have hlockout : (clockReports (settleInputs s)).decoder.lockout = s.decoder.lockout := by rw [hdecoder, hsame]
  rw [batteryStep_eq, settled]
  refine ((hclocked.trans hkeypad).setStartStep 2).congr fun n r => ?_
  simp only [settledRecord, decide_eq_true_eq, hlockout]

/-! ## The records behind step 2 are those of the statements -/

theorem withAction_present (time wh : Nat) (balance : Int) (on : Bool) (r : TamperRecord) :
    presentAt time wh balance on (withAction on r) = withAction on (presentAt time wh balance on r) := by
  cases h : r.state <;> simp [presentAt, withAction, h]

theorem withAction_gone (time : Nat) (on : Bool) (r : TamperRecord) :
    goneAt time (withAction on r) = withAction on (goneAt time r) := by
  cases h : r.state <;> simp [goneAt, withAction, h]

/-- The action of a record that is no CLEAR one is no matter of what a start reports of it, once the actions are copied. -/
theorem withAction_reported (k : Fin 10) (mode : Nat) (high on d : Bool) {y : TamperRecord} (h : y.state ≠ .clear) :
    withAction on (v.reported k mode high { y with disconnect := d }) = withAction on (v.reported k mode high y) := by
  have hpresent : withAction on (v.present k { y with disconnect := d }) = withAction on (v.present k y) := by
    cases hy : y.state <;> simp_all [StartView.present, presentAt, withAction]
  have hgone (r q : TamperRecord) (hr : withAction on r = withAction on q) :
      withAction on (goneAt v.time r) = withAction on (goneAt v.time q) := by
    rw [← withAction_gone, ← withAction_gone, hr]
  have hsame : withAction on { y with disconnect := d } = withAction on y := by simp [withAction, h]
  unfold StartView.reported
  dsimp only
  split_ifs
  · exact hgone _ _ hpresent
  · exact hsame
  · exact hpresent
  · exact hgone _ _ hsame

/-- The view's reports of an input are those of step 2. -/
theorem startReported_view (hv : Views v (readied s.pins.sense s)) (hc : s.supply.cause = v.cause) (i : SenseInput)
    (high : Bool) (hq : (inputState (readied s.pins.sense s) i).qualified = (high != (inputMode s.settings i).testBit 9)) :
    startReported (readied s.pins.sense s) i = v.reported (inputKind i) (inputMode s.settings i) high := by
  funext r
  obtain ⟨-, -, -, hsettings, hsupply, -⟩ := readied_keeps s.pins.sense s
  simp only [startReported, StartView.reported, hsettings, modeEdge_eq, hq, hsupply, hc, hv.presentAs, hv.time,
    Bool.and_eq_true, decide_eq_true_eq]

/-- A merge as the view has it. -/
def mergedView (v : StartView) (k : Fin 10) (mode : Nat) (high : Bool) (b : BatteryWatch) (r : TamperRecord) : TamperRecord :=
  mergedAt v.time (v.restored.energy.total / 1000000) v.restored.account.balance (v.restored.settings.tamperActions.testBit k)
    b ((high != mode.testBit 9) && !mode.testBit 8) r

/-- A merge is that of the view, but for the action of a record that was none before. -/
theorem mergedBy_view (hv : Views v s) (i : SenseInput) (b : BatteryWatch) (high : Bool) (r : TamperRecord) :
    let m := mergedView v (inputKind i) (inputMode s.settings i) high b r
    mergedBy s i b high r = m ∨ ∃ d, mergedBy s i b high r = { m with disconnect := d } ∧ m.state ≠ .clear := by
  intro m
  have hflag : (!modeEdge (inputMode s.settings i) && modeActive (inputMode s.settings i) high) =
      ((high != (inputMode s.settings i).testBit 9) && !(inputMode s.settings i).testBit 8) := by
    rw [modeEdge_eq, modeActive_eq, Bool.and_comm]
  have haction : tamperAction s (inputKind i) = v.restored.settings.tamperActions.testBit (inputKind i) := by
    rw [tamperAction, hv.settings]
  have hwh : importWh s = v.restored.energy.total / 1000000 := by rw [importWh, hv.energy]
  simp only [m, mergedView, mergedAt, mergedBy, hflag, mergedRecord, haction, hwh, hv.balance, hv.time]
  generalize ((high != (inputMode s.settings i).testBit 9) && !(inputMode s.settings i).testBit 8) = stays
  by_cases hb : b.count = 0
  · exact .inl (by rw [if_pos hb, if_pos hb])
  · rw [if_neg hb, if_neg hb]
    by_cases hr : r.state = .clear
    · exact .inl (by rw [if_pos hr, if_pos hr])
    · refine .inr ⟨if r.state = .latched then v.restored.settings.tamperActions.testBit (inputKind i) else r.disconnect, ?_⟩
      rw [if_neg hr, if_neg hr]
      cases stays <;> simp [capped]

/-- The record of a watched input behind step 2. -/
theorem watched_settled (hv : Views v s) (hc : s.supply.cause = v.cause) (i : SenseInput) (b : BatteryWatch) (high on : Bool)
    (hq : (inputState (readied s.pins.sense s) i).qualified = (high != (inputMode s.settings i).testBit 9)) (r : TamperRecord) :
    withAction on (startReported (readied s.pins.sense s) i (mergedBy s i b high r)) =
      withAction on (v.reported (inputKind i) (inputMode s.settings i) high
        (mergedView v (inputKind i) (inputMode s.settings i) high b r)) := by
  have hready : Views v (readied s.pins.sense s) := hv.readied _
  rw [startReported_view hready hc i high hq]
  rcases mergedBy_view hv i b high r with h | ⟨d, h, hstate⟩
  · rw [h]
  · rw [h, withAction_reported _ _ _ _ _ hstate]

/-- The record of a kind as a start's step 2 leaves it, in the terms of the statements. -/
def settledView (v : StartView) (n : Fin 10) (r : TamperRecord) : TamperRecord :=
  let x := v.restored
  withAction (x.settings.tamperActions.testBit n)
    (if n = kindCase then v.reported n x.settings.caseInput v.inputs.pins.caseHigh
        (mergedView v n x.settings.caseInput v.inputs.pins.caseHigh v.caseWatch r)
      else if n = kindCover then v.reported n x.settings.coverInput v.inputs.pins.coverHigh
        (mergedView v n x.settings.coverInput v.inputs.pins.coverHigh v.coverWatch r)
      else if n = kindMagnet then v.reported n x.settings.magnetInput v.inputs.pins.magHigh r
      else if n = kindKeypad then (if 0 < x.decoder.lockout then v.present n r else goneAt v.time r)
      else if n = kindClock then v.clock r
      else r)

theorem qualified_readied (s : State) (i : SenseInput) : (inputState (readied s.pins.sense s) i).qualified =
    ((match i with
      | .caseIn => s.pins.sense.caseHigh
      | .coverIn => s.pins.sense.coverHigh
      | .magIn => s.pins.sense.magHigh) != (inputMode s.settings i).testBit 9) := by
  cases i <;> exact modeActive_eq _ _

/-- The report on the crystal as the view has it. -/
theorem clockReported_view (hv : Views v s) (hc : s.supply.cause = v.cause) (hsource : s.clock.source = v.source)
    (hfailed : s.clock.crystalFailed = v.crystalFailed) (r : TamperRecord) : clockReported s r = v.clock r := by
  simp only [clockReported, StartView.clock, hv.presentAs, hv.time, hc, hsource, hfailed]

theorem clock_withAction (v : StartView) (r : TamperRecord) :
    v.clock (withAction (v.restored.settings.tamperActions.testBit kindClock) r) =
      withAction (v.restored.settings.tamperActions.testBit kindClock) (v.clock r) := by
  unfold StartView.clock StartView.present
  dsimp only
  split_ifs <;> simp only [withAction_present, withAction_gone]

/-- The records that step 2 does not report on. -/
theorem settledRecord_other {n : Fin 10} (h0 : n ≠ kindCase) (h1 : n ≠ kindCover) (h2 : n ≠ kindMagnet) (h7 : n ≠ kindKeypad)
    (h9 : n ≠ kindClock) (r : TamperRecord) :
    settledRecord s n r = withAction (s.settings.tamperActions.testBit n) r := by
  simp [settledRecord, onKind, h0, h1, h2, h7, h9]

/-- Step 2 makes of each record what the statements say, from what it reads. -/
theorem settledRecord_view (hv : Views v s) (hc : s.supply.cause = v.cause) (hp : s.pins.sense = v.inputs.pins)
    (hcase : s.battery.caseIn = v.caseWatch) (hcover : s.battery.coverIn = v.coverWatch)
    (hlock : s.decoder.lockout = v.restored.decoder.lockout) (hsource : s.clock.source = v.source)
    (hfailed : s.clock.crystalFailed = v.crystalFailed) (n : Fin 10) (r : TamperRecord) :
    settledRecord s n r = settledView v n r := by
  have hset := hv.settings
  have hready : Views v (readied s.pins.sense s) := hv.readied _
  by_cases h0 : n = kindCase
  · subst h0
    have hw := watched_settled hv hc .caseIn s.battery.caseIn s.pins.sense.caseHigh
      (s.settings.tamperActions.testBit kindCase) (qualified_readied s .caseIn) r
    rw [hp, hcase, hset] at hw
    refine Eq.trans ?_ hw
    rw [← hp, ← hcase, ← hset]
    rfl
  by_cases h1 : n = kindCover
  · subst h1
    have hw := watched_settled hv hc .coverIn s.battery.coverIn s.pins.sense.coverHigh
      (s.settings.tamperActions.testBit kindCover) (qualified_readied s .coverIn) r
    rw [hp, hcover, hset] at hw
    refine Eq.trans ?_ hw
    rw [← hp, ← hcover, ← hset]
    rfl
  by_cases h2 : n = kindMagnet
  · subst h2
    have hw := startReported_view hready hc .magIn s.pins.sense.magHigh (qualified_readied s .magIn)
    have hmag : settledRecord s kindMagnet r = withAction (s.settings.tamperActions.testBit kindMagnet)
      (startReported (readied s.pins.sense s) .magIn r) := rfl
    rw [hmag, hw, hp, hset]
    rfl
  by_cases h7 : n = kindKeypad
  · subst h7
    have hkeypad : settledRecord s kindKeypad r = if 0 < s.decoder.lockout then
        presentAs s kindKeypad (withAction (s.settings.tamperActions.testBit kindKeypad) r)
      else goneAt s.clock.time (withAction (s.settings.tamperActions.testBit kindKeypad) r) := rfl
    rw [hkeypad, hv.presentAs, hlock, hset, hv.time, withAction_gone, StartView.present, withAction_present]
    simp only [settledView, h0, h1, h2, if_false, if_true, StartView.present]
    split_ifs <;> rfl
  by_cases h9 : n = kindClock
  · subst h9
    have hclock : settledRecord s kindClock r =
      clockReported s (withAction (s.settings.tamperActions.testBit kindClock) r) := rfl
    rw [hclock, clockReported_view hv hc hsource hfailed, hset, clock_withAction]
    rfl
  · rw [settledRecord_other h0 h1 h2 h7 h9, hset]
    simp only [settledView, h0, h1, h2, h7, h9, if_false]

end Sys2Proof.Proofs
end

section
/-! SUPPORT. A start, step by step: its steps 1 to 3 (R183 to R186). -/

namespace Sys2Proof.Proofs
open Sys2Proof.Machine Sys2Proof.Safety

variable {s t u : State} {cause : StartCause} {i : StartInputs} {j : Image} {k : Nat} {x : Sections} {v : StartView}
  {f : Fin 10 → TamperRecord → TamperRecord}

/-! ## The supply monitor and the parts that no step restores -/

/-- A start under way between its entry and its step 5, after `k` steps. -/
structure Running (s t : State) (cause : StartCause) (i : StartInputs) (j : Image) (k : Nat) : Prop where
  frame : t.pending = s.pending ∧ t.link = s.link ∧ t.agenda = [] ∧ t.catchUp.choices = s.catchUp.choices
  power : t.supply.power = .start ∧ t.supply.startStep = k ∧ t.supply.cause = cause ∧ t.supply.resetHold = false ∧
    t.supply.resetRemembered = false ∧ t.supply.vsLow = (decide (cause = .resetPin) && s.supply.vsLow) ∧
    t.intake = ⟨[], none, false⟩
  closed : t.window = ⟨.closed, 0, 0, none, .none⟩
  image : t.store.image = j
  clock : t.clock.source = (if cause ≠ .powerOn then s.clock.source else if i.crystalRuns then .crystal else .backup) ∧
    t.clock.certain = (decide (cause ≠ .powerOn) && s.clock.certain) ∧
    (cause ≠ .powerOn → t.clock.time = s.clock.time)
  pins : t.pins = ⟨i.pins, i.loadSide, i.vbat⟩
  idle : k < 4 → t.switch.attempt = .idle
  crystal : k < 2 → t.clock.crystalFailed = s.clock.crystalFailed

theorem startState_running (cause : StartCause) (i : StartInputs) (j : Image) (s : State) :
    Running s (startState cause i j s) cause i (j.damage i.damage) 0 := by
  refine ⟨⟨rfl, rfl, rfl, rfl⟩, ⟨rfl, rfl, rfl, rfl, rfl, rfl, rfl⟩, rfl, rfl, ?_, rfl, fun _ => rfl, fun _ => ?_⟩
  · by_cases h : cause = .powerOn <;> simp [startState, State.powered, Clock.started, h]
  · by_cases h : cause = .powerOn <;> simp [startState, State.powered, Clock.started, h]

/-- The image that the start reads, and what it takes from it. -/
def found (cause : StartCause) (i : StartInputs) (j : Image) : Sections :=
  restoredSections (j.damage i.damage) (cause = .powerOn)

theorem refilled_eq (cause : StartCause) (i : StartInputs) (j : Image) (s : State) :
    refilled cause i j s =
      let x := found cause i j
      let r := startState cause i j s
      { r with
        energy := x.energy
        decoder := x.decoder
        settings := x.settings
        book := x.book
        meter := startMeter x.records x.settings
        credit := derivedOf x.settings Credit.cleared (startAccount s x) ⟨0, 0⟩
        switch := startSwitch x.switch
        tamper := { Tamper.cleared with records := x.records }
        clock := r.clock.restored (cause = .powerOn) x.time
        battery := s.battery.marked
        store := r.store.found (cause = .powerOn)
        supply := { r.supply with
          startStep := 1, failed := BitVec.ofNat 8 (maskOf (failedSections (j.damage i.damage) (cause = .powerOn))) } } := by
  rfl

/-- What the restore leaves of the clock (R42, R59). -/
theorem restored_clock (cause : StartCause) (i : StartInputs) (j : Image) (s : State) :
    let c := (refilled cause i j s).clock
    c.source = (if cause ≠ .powerOn then s.clock.source else if i.crystalRuns then .crystal else .backup) ∧
      c.certain = (decide (cause ≠ .powerOn) && s.clock.certain) ∧ (cause ≠ .powerOn → c.time = s.clock.time) ∧
      (cause = .powerOn → c.time = (found cause i j).time) ∧ c.crystalFailed = s.clock.crystalFailed := by
  by_cases h : cause = .powerOn <;>
    simp [refilled_eq, startState, State.powered, Clock.started, Clock.restored, h]

theorem restoreStep_running (cause : StartCause) (i : StartInputs) (j : Image) (s : State) :
    Running s (restoreStep (startState cause i j s)) cause i (j.damage i.damage) 1 := by
  obtain ⟨hpending, hagenda, hlink, -, hintake, -, -, hclock, -, -, -, -, hwindow, hswitch, -, hsupply, hpins, hcatch,
    hstore, -⟩ := (restoreStep_tells cause i j s).keeps
  obtain ⟨hsource, hcertain, htime, -, hcrystal⟩ := restored_clock cause i j s
  have himage : (restoreStep (startState cause i j s)).store.image = (refilled cause i j s).store.image := by rw [hstore]
  have hfound : ((startState cause i j s).store.found (cause = .powerOn)).image = j.damage i.damage := by
    unfold Store.found
    dsimp only
    split_ifs <;> rfl
  refine ⟨?_, ?_, ?_, ?_, ?_, ?_, fun _ => ?_, fun _ => ?_⟩
  · rw [hpending, hlink, hagenda, hcatch, refilled_eq]
    exact ⟨rfl, rfl, rfl, rfl⟩
  · rw [hsupply, hintake, refilled_eq]
    exact ⟨rfl, rfl, rfl, rfl, rfl, rfl, rfl⟩
  · rw [hwindow, refilled_eq]
    rfl
  · rw [himage, refilled_eq]
    exact hfound
  · rw [hclock]
    exact ⟨hsource, hcertain, htime⟩
  · rw [hpins, refilled_eq]
    rfl
  · rw [hswitch, refilled_eq]
    rfl
  · rw [hclock, hcrystal]

/-- A further step of the start that leaves these parts alone. -/
theorem Running.next (h : Running s t cause i j k) {n : Nat} (hframe : u.pending = t.pending ∧ u.link = t.link ∧
    u.agenda = t.agenda ∧ u.catchUp.choices = t.catchUp.choices)
    (hsupply : u.supply.power = t.supply.power ∧ u.supply.startStep = n ∧ u.supply.cause = t.supply.cause ∧
      u.supply.resetHold = t.supply.resetHold ∧ u.supply.resetRemembered = t.supply.resetRemembered ∧
      u.supply.vsLow = t.supply.vsLow)
    (hintake : u.intake = t.intake) (hwindow : u.window = t.window) (himage : u.store.image = t.store.image)
    (hclock : u.clock.source = t.clock.source ∧ u.clock.certain = t.clock.certain ∧ u.clock.time = t.clock.time)
    (hpins : u.pins = t.pins) (hidle : n < 4 → u.switch.attempt = .idle)
    (hn : 2 ≤ n) : Running s u cause i j n := by
  obtain ⟨hpending, hlink, hagenda, hchoices⟩ := hframe
  obtain ⟨hsource, hcertain, htime⟩ := hclock
  obtain ⟨tpending, tlink, tagenda, tchoices⟩ := h.frame
  obtain ⟨tpower, -, tcause, thold, tremembered, tlow, tintake⟩ := h.power
  obtain ⟨tsource, tcertain, ttime⟩ := h.clock
  obtain ⟨hpower, hstep, hcause, hhold, hremembered, hlow⟩ := hsupply
  exact ⟨⟨hpending.trans tpending, hlink.trans tlink, hagenda.trans tagenda, hchoices.trans tchoices⟩,
    ⟨hpower.trans tpower, hstep, hcause.trans tcause, hhold.trans thold, hremembered.trans tremembered, hlow.trans tlow,
      hintake.trans tintake⟩, hwindow.trans h.closed, himage.trans h.image,
    ⟨hsource.trans tsource, hcertain.trans tcertain, fun hc => htime.trans (ttime hc)⟩, hpins.trans h.pins, hidle,
    fun hlt => absurd hlt (by omega)⟩

/-! ## The records, through the view of the statements -/

/-- What the reports of a start are made from, where `t` has the time. -/
def viewOf (s t : State) (cause : StartCause) (i : StartInputs) (x : Sections) : StartView where
  cause := cause
  inputs := i
  restored := { x with account := startAccount s x }
  time := t.clock.time
  source := t.clock.source
  crystalFailed := s.clock.crystalFailed
  caseWatch := s.battery.caseIn
  coverWatch := s.battery.coverIn
  failed := ((List.range 8).filter fun n => t.supply.failed.getLsbD n).length

theorem viewOf_congr (htime : u.clock.time = t.clock.time) (hsource : u.clock.source = t.clock.source)
    (hfailed : u.supply.failed = t.supply.failed) : viewOf s u cause i x = viewOf s t cause i x := by
  simp only [viewOf, htime, hsource, hfailed]

/-- One kind's record changed, record by record. -/
theorem onKind_set (k : Fin 10) (h : TamperRecord → TamperRecord) (rs : Vector TamperRecord 10) {y : TamperRecord}
    (hy : y = h rs[k]) (n : Fin 10) : onKind k h n rs[n] = (rs.set k y)[n] := by
  by_cases hn : n = k
  · subst hn
    simp [onKind, hy]
  · have hne : (k : Nat) ≠ n := fun e => hn (Fin.ext e.symm)
    simp [onKind, hn, Vector.getElem_set_ne, hne]

theorem records_one (v : StartView) (b : Int) : v.records 1 b = v.restored.records.set kindRetention v.retention := by
  simp [StartView.records]

/-- The records behind step 2, and behind step 3. -/
theorem records_two (v : StartView) (b : Int) (h1 : 1 < k) (h4 : k < 4) : v.records k b =
    Vector.ofFn fun n : Fin 10 => settledView v n ((v.restored.records.set kindRetention v.retention)[n]) := by
  have hother (n : Fin 10) (hn : n ≠ kindRetention) :
      (v.restored.records.set kindRetention v.retention)[n] = v.restored.records[n] := by
    have hne : (kindRetention : Nat) ≠ n := fun e => hn (Fin.ext e.symm)
    simp [Vector.getElem_set_ne, hne]
  simp only [StartView.records, if_neg (show k ≠ 1 by omega), if_pos h4]
  congr 1
  funext n
  simp only [settledView]
  congr 1
  by_cases h0 : n = kindCase
  · subst h0
    rw [if_pos rfl, if_pos rfl, hother kindCase (by decide)]
    rfl
  by_cases hcover : n = kindCover
  · subst hcover
    rw [if_neg h0, if_neg h0, if_pos rfl, if_pos rfl, hother kindCover (by decide)]
    rfl
  · simp only [if_neg h0, if_neg hcover]

/-- The records behind step 4. -/
theorem records_four (v : StartView) (b : Int) (h4 : 4 ≤ k) : v.records k b =
    let told := v.records 3 b
    told.set kindSwitch (goneAt v.time (if v.inputs.loadSide.any = v.restored.switch.commandedClosed then told[kindSwitch]
      else presentAt v.time (v.restored.energy.total / 1000000) b (v.restored.settings.tamperActions.testBit kindSwitch)
        told[kindSwitch])) := by
  simp only [StartView.records, if_neg (show k ≠ 1 by omega), if_neg (show ¬k < 4 by omega)]
  rfl

/-! ## Behind step 1 (R30, R71, R76, R116, R132, R155, R172, R184) -/

theorem refilled_views (cause : StartCause) (i : StartInputs) (j : Image) (s : State) :
    let t := restoreStep (startState cause i j s)
    Views (viewOf s t cause i (found cause i j)) (refilled cause i j s) ∧
      Views (viewOf s t cause i (found cause i j)) t := by
  have htells := restoreStep_tells cause i j s
  obtain ⟨-, -, -, -, -, -, -, hclock, -⟩ := htells.keeps
  have hviews : Views (viewOf s (restoreStep (startState cause i j s)) cause i (found cause i j))
      (refilled cause i j s) := by
    refine ⟨?_, ?_, ?_, ?_⟩
    · rw [← hclock]
      rfl
    · rw [refilled_eq]
      rfl
    · rw [refilled_eq]
      rfl
    · rw [refilled_eq]
      rfl
  exact ⟨hviews, htells.views hviews⟩

theorem restoreStep_failed (cause : StartCause) (i : StartInputs) (j : Image) (s : State) :
    (restoreStep (startState cause i j s)).supply.failed = failedMask (j.damage i.damage) (decide (cause = .powerOn)) := by
  obtain ⟨-, -, -, -, -, -, -, -, -, -, -, -, -, -, -, hsupply, -⟩ := (restoreStep_tells cause i j s).keeps
  rw [hsupply, refilled_eq, ← failedSections_mask]

theorem restoreStep_records (cause : StartCause) (i : StartInputs) (j : Image) (s : State) (b : Int) :
    let t := restoreStep (startState cause i j s)
    t.tamper.records = (viewOf s t cause i (found cause i j)).records 1 b := by
  intro t
  have htells := restoreStep_tells cause i j s
  have hviews := (refilled_views cause i j s).1
  have hbase : (refilled cause i j s).tamper.records = (found cause i j).records := by rw [refilled_eq]
  have hcount : (viewOf s t cause i (found cause i j)).failed =
      (failedSections (j.damage i.damage) (decide (cause = .powerOn))).count true := by
    rw [← failedMask_count, ← restoreStep_failed cause i j s]
    rfl
  rw [records_one]
  refine Vector.ext fun n hn => ?_
  have hrecord := htells.record ⟨n, hn⟩
  rw [hviews.presentAs, hviews.time, hbase, ← hcount] at hrecord
  exact hrecord.trans (onKind_set kindRetention _ _ rfl ⟨n, hn⟩)

theorem restoreStep_restored (cause : StartCause) (i : StartInputs) (j : Image) (s : State) :
    Restored s (restoreStep (startState cause i j s)) cause i (j.damage i.damage) 1 (found cause i j) := by
  obtain ⟨-, -, -, -, -, hmeter, henergy, hclock, hbook, hcredit, hdecoder, hsettings, -, hswitch, hbattery, hsupply, -, -,
    hstore, -⟩ := (restoreStep_tells cause i j s).keeps
  obtain ⟨-, -, -, htime, -⟩ := restored_clock cause i j s
  have hfailed := restoreStep_failed cause i j s
  constructor
  case sections => exact restoredSections_from _ _
  case same =>
    refine ⟨?_, ?_, fun hc => ?_⟩
    · rw [henergy, refilled_eq]
    · rw [hsettings, refilled_eq]
    · rw [hclock, htime hc]
  case failed => exact hfailed
  case number =>
    have hnumber : (restoreStep (startState cause i j s)).store.lastNumber = (refilled cause i j s).store.lastNumber := by
      rw [hstore]
    have hfound := found_number (startState cause i j s).store (decide (cause = .powerOn))
    rw [hfailed, hnumber, refilled_eq]
    refine hfound.trans ?_
    have himage : (startState cause i j s).store.image = j.damage i.damage := rfl
    simp only [himage, decide_eq_true_eq]
  case credit =>
    rw [hcredit, refilled_eq]
    rfl
  case book =>
    rw [hbook, refilled_eq]
    rfl
  case decoder =>
    rw [hdecoder, refilled_eq]
    rfl
  case meter =>
    rw [hmeter, refilled_eq]
    refine ⟨rfl, rfl, ?_, ?_, ?_, rfl, rfl⟩ <;> simp [startMeter, beq_eq_decide]
  case records => exact restoreStep_records cause i j s _
  case reason => exact (restoreStep_agreed (s := startState cause i j s) rfl).tamper (by rw [monitorReady, hsupply, refilled_eq]; rfl)
  case battery =>
    rw [hbattery, refilled_eq]
    rfl
  case inputs => exact fun h => absurd h (by decide)
  case switch =>
    intro _
    rw [hswitch, refilled_eq]
    exact ⟨rfl, rfl⟩
  case contactor => exact fun h => absurd h (by decide)
  case write => exact fun h => absurd h (by decide)

/-! ## Behind step 2 (R59, R116, R169 to R171) -/

/-- Before step 3 the account is that of the image, so the reports of the start are those of the view. -/
theorem restored_views (h : Restored s t cause i j k x) (hk : k < 3) : Views (viewOf s t cause i x) t := by
  obtain ⟨henergy, hsettings, -⟩ := h.same
  have hcredit := h.credit
  simp only [if_pos hk] at hcredit
  exact ⟨rfl, henergy, by rw [hcredit]; rfl, hsettings⟩

theorem settled_keeps (s : State) : (settled s).pending = s.pending ∧ (settled s).agenda = s.agenda ∧
    (settled s).link = s.link ∧ (settled s).intake = s.intake ∧ (settled s).meter = s.meter ∧
    (settled s).energy = s.energy ∧ (settled s).clock = { s.clock with crystalFailed := false } ∧
    (settled s).book = s.book ∧ (settled s).credit = s.credit ∧ (settled s).decoder = s.decoder ∧
    (settled s).settings = s.settings ∧ (settled s).window = s.window ∧ (settled s).switch = s.switch ∧
    (settled s).battery = s.battery.merged s.settings ∧ (settled s).supply = { s.supply with startStep := 2 } ∧
    (settled s).pins = s.pins ∧ (settled s).catchUp = s.catchUp ∧ (settled s).store = s.store ∧
    (settled s).tamper.records = s.tamper.records := by
  simp [settled, readied, setStartStep, clearCrystalMark, setupInput, setInput]

theorem settled_inputs (s : State) :
    (settled s).tamper.caseIn = ⟨s.pins.sense.caseHigh != s.settings.caseInput.testBit 9, 0, s.pins.sense.caseHigh⟩ ∧
    (settled s).tamper.coverIn = ⟨s.pins.sense.coverHigh != s.settings.coverInput.testBit 9, 0, s.pins.sense.coverHigh⟩ ∧
    (settled s).tamper.magIn = ⟨s.pins.sense.magHigh != s.settings.magnetInput.testBit 9, 0, s.pins.sense.magHigh⟩ := by
  simp [settled, readied, setStartStep, clearCrystalMark, setupInput, setInput, modeActive_eq, inputMode]

/-- What step 2 leaves, part by part. -/
theorem batteryStep_parts (h : Early s) : let t := batteryStep s
    t.pending = s.pending ∧ t.agenda = s.agenda ∧ t.link = s.link ∧ t.intake = s.intake ∧ t.meter = s.meter ∧
      t.energy = s.energy ∧ t.clock = { s.clock with crystalFailed := false } ∧ t.book = s.book ∧ t.credit = s.credit ∧
      t.decoder = s.decoder ∧ t.settings = s.settings ∧ t.window = s.window ∧ t.switch = s.switch ∧
      t.battery = s.battery.merged s.settings ∧ t.supply = { s.supply with startStep := 2 } ∧ t.pins = s.pins ∧
      t.catchUp = s.catchUp ∧ t.store = { s.store with requested := t.store.requested } := by
  intro t
  obtain ⟨h1, h2, h3, -, h4, h5, h6, h7, h8, h9, h10, h11, h12, h13, h14, h15, h16, h17, h18, -⟩ := (batteryStep_tells h).keeps
  obtain ⟨e1, e2, e3, e4, e5, e6, e7, e8, e9, e10, e11, e12, e13, e14, e15, e16, e17, e18, -⟩ := settled_keeps s
  rw [e18] at h18
  exact ⟨h1.trans e1, h2.trans e2, h3.trans e3, h4.trans e4, h5.trans e5, h6.trans e6, h7.trans e7, h8.trans e8, h9.trans e9,
    h10.trans e10, h11.trans e11, h12.trans e12, h13.trans e13, h14.trans e14, h15.trans e15, h16.trans e16, h17.trans e17,
    h18⟩

theorem Running.early (h : Running s t cause i j k) (hk : k < 4) : Early t := by
  obtain ⟨hpower, hstep, -⟩ := h.power
  exact ⟨hpower, by rw [hstep]; exact hk⟩

theorem batteryStep_running (h : Running s t cause i j 1) : Running s (batteryStep t) cause i j 2 := by
  obtain ⟨hpending, hagenda, hlink, hintake, -, -, hclock, -, -, -, -, hwindow, hswitch, -, hsupply, hpins, hcatch, hstore⟩ :=
    batteryStep_parts (h.early (by decide))
  refine h.next ⟨hpending, hlink, hagenda, by rw [hcatch]⟩ (by rw [hsupply]; exact ⟨rfl, rfl, rfl, rfl, rfl, rfl⟩) hintake hwindow (by rw [hstore]) ?_ hpins
    (fun _ => by rw [hswitch]; exact h.idle (by decide)) (by decide)
  rw [hclock]
  exact ⟨rfl, rfl, rfl⟩

theorem batteryStep_records (h : Restored s t cause i j 1 x) (hr : Running s t cause i j 1) (b : Int) :
    (batteryStep t).tamper.records = (viewOf s t cause i x).records 2 b := by
  have htells := batteryStep_tells (hr.early (by decide))
  obtain ⟨-, -, -, -, -, -, -, -, -, -, -, -, -, -, -, -, -, -, hrecords⟩ := settled_keeps t
  have hbefore : t.tamper.records = (viewOf s t cause i x).records 1 t.credit.account.balance := h.records
  have hbattery := h.battery
  have hdecoder : t.decoder.lockout = x.decoder.lockout := by rw [h.decoder]
  rw [records_one] at hbefore
  rw [records_two _ _ (by decide) (by decide)]
  refine Vector.ext fun n hn => ?_
  have hrecord := htells.record ⟨n, hn⟩
  rw [hrecords, settledRecord_view (v := viewOf s t cause i x) (restored_views h (by decide)) hr.power.2.2.1 (by rw [hr.pins]; rfl)
    (by rw [hbattery]; rfl) (by rw [hbattery]; rfl) hdecoder rfl (hr.crystal (by decide)), hbefore] at hrecord
  refine hrecord.trans ?_
  rw [Vector.getElem_ofFn]

theorem batteryStep_restored (h : Restored s t cause i j 1 x) (hr : Running s t cause i j 1) (ha : Agreed t) :
    Restored s (batteryStep t) cause i j 2 x := by
  obtain ⟨-, -, -, -, hmeter, henergy, hclock, hbook, hcredit, hdecoder, hsettings, -, hswitch, hbattery, hsupply, -, -,
    hstore⟩ := batteryStep_parts (hr.early (by decide))
  obtain ⟨xenergy, xsettings, xtime⟩ := h.same
  obtain ⟨hpower, hstep, -⟩ := hr.power
  have hview : viewOf s (batteryStep t) cause i x = viewOf s t cause i x :=
    viewOf_congr (by rw [hclock]) (by rw [hclock]) (by rw [hsupply])
  have htells := batteryStep_tells (hr.early (by decide))
  obtain ⟨-, -, -, -, -, -, -, -, -, -, -, -, -, -, -, -, -, -, -, hcase, hcover, hmag⟩ := htells.keeps
  obtain ⟨scase, scover, smag⟩ := settled_inputs t
  constructor
  case sections => exact h.sections
  case same => exact ⟨henergy.trans xenergy, hsettings.trans xsettings, fun hc => by rw [hclock]; exact xtime hc⟩
  case failed => rw [hsupply]; exact h.failed
  case number =>
    rw [hsupply, hstore]
    exact h.number
  case credit => rw [hcredit]; exact h.credit
  case book => rw [hbook]; exact h.book
  case decoder => rw [hdecoder]; exact h.decoder
  case meter => rw [hmeter]; exact h.meter
  case records =>
    have hrecords := batteryStep_records h hr (batteryStep t).credit.account.balance
    rw [← hview] at hrecords
    exact hrecords
  case reason =>
    have hnext : nextStep t = batteryStep t := by simp [nextStep, hstep]
    have hagreed := nextStep_agreed ha hpower
    rw [hnext] at hagreed
    exact hagreed.tamper (by rw [monitorReady, hsupply, hpower]; rfl)
  case battery =>
    rw [hbattery, h.battery, xsettings]
    rfl
  case inputs =>
    intro _
    rw [hcase, hcover, hmag, scase, scover, smag, hr.pins, xsettings, hclock]
    exact ⟨rfl, rfl, rfl, rfl⟩
  case switch => exact fun _ => by rw [hswitch]; exact h.switch (by decide)
  case contactor => exact fun hk => absurd hk (by decide)
  case write => exact fun hk => absurd hk (by decide)

/-! ## Behind step 3 (R55, R56) -/

theorem deriveCredit_unhanded (h : handing s = false) :
    (deriveCredit s).switch = s.switch ∧ (deriveCredit s).tamper = s.tamper := by
  unfold deriveCredit
  dsimp only
  rw [h, Bool.and_false, if_neg Bool.false_ne_true]
  split_ifs <;> exact ⟨rfl, rfl⟩

theorem dayEnds_unhanded (n : Nat) (h : handing s = false) :
    (dayEnds n s).switch = s.switch ∧ (dayEnds n s).tamper = s.tamper := by
  induction n generalizing s with
  | zero => exact ⟨rfl, rfl⟩
  | succ n ih =>
    have hone : (issueDayEnd s).switch = s.switch ∧ (issueDayEnd s).tamper = s.tamper :=
      deriveCredit_unhanded (s := onCredit (Credit.dayEnd s.book.active.standing s.settings.debtDaily)
        (onBook (fun x => { x with lastCharged := x.lastCharged.map (· + 1) }) s)) h
    obtain ⟨hswitch, htamper⟩ := ih (s := issueDayEnd s) ((issueDayEnd_run s).handing.trans h)
    exact ⟨hswitch.trans hone.1, htamper.trans hone.2⟩

/-- In the first steps of a start the day ends reach neither the switch controller nor the tamper monitor. -/
theorem setOrCatchUp_unhanded (h : handing s = false) :
    (setOrCatchUp s).switch = s.switch ∧ (setOrCatchUp s).tamper = s.tamper := by
  have hissue (n : Nat) : (issueDays n (newCatchUp s)).switch = s.switch ∧ (issueDays n (newCatchUp s)).tamper = s.tamper := by
    have hdays := dayEnds_unhanded (s := newCatchUp s) (min n (daysLeft (newCatchUp s))) h
    unfold issueDays
    dsimp only
    split_ifs
    · exact hdays
    · exact hdays
  unfold setOrCatchUp catchUpWhole
  split
  · split_ifs <;> exact ⟨rfl, rfl⟩
  · split_ifs
    · exact ⟨rfl, rfl⟩
    · exact hissue 366

/-- The day ends of start step 3, or the date set. -/
theorem setOrCatchUp_run (s : State) : DaysRun s (setOrCatchUp s) (dayEndsToIssue s) ∧
    (setOrCatchUp s).book = { s.book with lastCharged :=
      match s.book.lastCharged with
      | none => if s.clock.certain then some (today s) else none
      | some _ => chargedDate s (dayEndsToIssue s) (dayEndsToIssue s) (today s) } ∧
    (setOrCatchUp s).catchUp.choices = s.catchUp.choices := by
  unfold setOrCatchUp
  cases h : s.book.lastCharged with
  | none =>
    have hnone : dayEndsToIssue s = 0 := by
      rw [dayEndsToIssue_eq, dayEndsAt, h]
    rw [hnone]
    dsimp only
    split_ifs
    · exact ⟨daysRun_none rfl rfl rfl rfl rfl (.refl s) rfl, rfl, rfl⟩
    · exact ⟨.refl s, by rw [← h], rfl⟩
  | some d =>
    obtain ⟨hcaught, hcatch⟩ := catchUpWhole_caughtUp s
    refine ⟨hcaught.toDaysRun, hcaught.book, ?_⟩
    dsimp only
    rw [hcatch]
    split_ifs <;> rfl

/-- The day ends and the date of start step 3 are those of the statements. -/
theorem startDays_eq (h : Restored s t cause i j 2 x) (hr : Running s t cause i j 2) (hclock : u.clock = t.clock) :
    dayEndsToIssue t = startDays u x ∧ (setOrCatchUp t).book.lastCharged = startDate u x := by
  obtain ⟨hpower, hstep, -⟩ := hr.power
  have hbook : t.book = x.book := h.book
  have hdays : dayEndsToIssue t = startDays u x := by
    have hallowed : catchUpAllowed t = t.clock.certain := by simp [catchUpAllowed, hpower, hstep]
    rw [dayEndsToIssue_of_new, hallowed, startDays, daysDue, today, hbook, hclock]
    cases x.book.lastCharged <;> simp
  refine ⟨hdays, ?_⟩
  rw [(setOrCatchUp_run t).2.1]
  have htoday : today t = localDate u.clock.time x.book.active := by rw [today, hbook, hclock]
  simp only [hbook, htoday, startDate, hdays, ← hclock]
  cases hd : x.book.lastCharged with
  | none => rfl
  | some d =>
    simp only [chargedDate, hbook, hd, if_true]
    by_cases h0 : startDays u x = 0
    · simp [h0]
    · simp [h0, Nat.pos_of_ne_zero h0]

theorem daysStep_running (h : Running s t cause i j 2) : Running s (daysStep t) cause i j 3 := by
  have hearly := h.early (by decide)
  obtain ⟨hswitch, -⟩ := setOrCatchUp_unhanded hearly.handing
  have hchoices := (setOrCatchUp_run t).2.2
  refine h.next (n := 3) ⟨?_, ?_, ?_, ?_⟩ ?_ ?_ ?_ ?_ ?_ ?_ (fun _ => ?_) (by decide)
  case refine_11 =>
    have hidle : (daysStep t).switch = (setOrCatchUp t).switch := by simp [daysStep]
    rw [hidle, hswitch]
    exact h.idle (by decide)
  all_goals simp [daysStep, setStartStep, hchoices]

theorem daysStep_restored (h : Restored s t cause i j 2 x) (hr : Running s t cause i j 2) (ha : Agreed t) :
    Restored s (daysStep t) cause i j 3 x := by
  have hearly := hr.early (by decide)
  obtain ⟨hswitch, htamper⟩ := setOrCatchUp_unhanded hearly.handing
  obtain ⟨hrun, hbook, -⟩ := setOrCatchUp_run t
  obtain ⟨xenergy, xsettings, xtime⟩ := h.same
  obtain ⟨hpower, hstep, -⟩ := hr.power
  have hclock : (daysStep t).clock = t.clock := by simp [daysStep]
  obtain ⟨hdays, hdate⟩ := startDays_eq h hr hclock
  have hbefore : t.credit = _ := h.credit
  have xbook : t.book = x.book := h.book
  have xdecoder : t.decoder = x.decoder := h.decoder
  rw [hdays] at hrun
  constructor
  case sections => exact h.sections
  case same => exact ⟨by simpa [daysStep] using xenergy, by simpa [daysStep] using xsettings, fun hc => by rw [hclock]; exact xtime hc⟩
  case failed => simpa [daysStep, setStartStep] using h.failed
  case number => simpa [daysStep, setStartStep] using h.number
  case credit =>
    have hcredit : (daysStep t).credit = (setOrCatchUp t).credit := by simp [daysStep]
    have haccount : t.credit.account = startAccount s x ∧ t.credit.lastDayEnd = ⟨0, 0⟩ ∧
        t.credit.lastCharge = ⟨0, 0, 0, 0⟩ := by
      rw [hbefore]
      exact ⟨rfl, rfl, rfl⟩
    obtain ⟨hacc, hlast, hcharge⟩ := haccount
    rw [hcredit]
    by_cases h0 : startDays (daysStep t) x = 0
    · rw [hrun.none h0, h0]
      exact h.credit
    · rw [hrun.credit (Nat.pos_of_ne_zero h0), xbook, xsettings, hacc, hlast]
      simp [derivedOf, hcharge]
  case book =>
    have hsame : (daysStep t).book = (setOrCatchUp t).book := by simp [daysStep]
    rw [hsame, ← hdate, hbook, xbook]
    rfl
  case decoder =>
    have hsame : (daysStep t).decoder = (setOrCatchUp t).decoder := by simp [daysStep]
    rw [hsame, hrun.decoder, xdecoder]
    by_cases h0 : startDays (daysStep t) x = 0
    · simp [h0]
    · simp [h0, Nat.pos_of_ne_zero h0]
  case meter => simpa [daysStep] using h.meter
  case records =>
    have hsame : (daysStep t).tamper = t.tamper := by
      rw [← htamper]
      simp [daysStep]
    have hview : viewOf s (daysStep t) cause i x = viewOf s t cause i x :=
      viewOf_congr (by rw [hclock]) (by rw [hclock]) (by simp [daysStep, setStartStep])
    have hrecords : t.tamper.records = (viewOf s t cause i x).records 2 t.credit.account.balance := h.records
    have hthree : (daysStep t).tamper.records =
        (viewOf s (daysStep t) cause i x).records 3 (daysStep t).credit.account.balance := by
      rw [hsame, hview, hrecords, records_two _ _ (by decide) (by decide), records_two _ _ (by decide) (by decide)]
    exact hthree
  case reason =>
    have hnext : nextStep t = daysStep t := by simp [nextStep, hstep]
    have hagreed := nextStep_agreed ha hpower
    rw [hnext] at hagreed
    exact hagreed.tamper (by simp [monitorReady, daysStep, setStartStep, hpower])
  case battery => simpa [daysStep] using h.battery
  case inputs =>
    intro _
    have hsame : (daysStep t).tamper = t.tamper := by
      rw [← htamper]
      simp [daysStep]
    rw [hsame, hclock]
    exact h.inputs (by decide)
  case switch =>
    have hsame : (daysStep t).switch = t.switch := by
      rw [← hswitch]
      simp [daysStep]
    exact fun _ => by rw [hsame]; exact h.switch (by decide)
  case contactor => exact fun hk => absurd hk (by decide)
  case write => exact fun hk => absurd hk (by decide)


end Sys2Proof.Proofs
end

section
/-! SUPPORT. A start's steps 4 and 5, and a start as a whole (R156, R185, R187). -/

namespace Sys2Proof.Proofs
open Sys2Proof.Machine Sys2Proof.Safety

variable {s t u : State} {cause : StartCause} {i : StartInputs} {j : Image} {k : Nat} {x : Sections}

/-! ## Behind step 4 (R156) -/

/-- The report on the contactor found (R156). -/
def contactorTold (s : State) : State :=
  if s.pins.loadSide.any != s.switch.kept.commandedClosed then reportBoth kindSwitch s else reportGone kindSwitch s

theorem contactorTold_tells (h : Early s) : Tells s (contactorTold s) (onKind kindSwitch fun r =>
    goneAt s.clock.time (if s.pins.loadSide.any = s.switch.kept.commandedClosed then r else presentAs s kindSwitch r)) := by
  unfold contactorTold
  by_cases hm : s.pins.loadSide.any = s.switch.kept.commandedClosed
  · simp only [hm, bne_self_eq_false, Bool.false_eq_true, if_false, if_true]
    exact reportGone_tells kindSwitch s
  · have hne : (s.pins.loadSide.any != s.switch.kept.commandedClosed) = true := by simpa using hm
    simp only [hne, if_true, if_neg hm]
    exact reportBoth_tells h kindSwitch

/-- The switch controller with the contactor as it is found: closed, with the marks cleared, or OPEN. -/
def foundSwitch (closed : Bool) (w : Switch) : Switch :=
  if closed then { w with
    contactor := .closed
    cleanRun := 0
    kept := { w.kept with openedBy := Reasons.empty, manualClose := false, commandedClosed := true } }
  else { w with
    contactor := .opened
    kept := { w.kept with manualClose := w.kept.manualClose || w.kept.commandedClosed } }

theorem findContactor_eq (h : Early s) :
    findContactor s = { contactorTold s with switch := foundSwitch s.pins.loadSide.any s.switch } := by
  obtain ⟨-, -, -, -, -, -, -, -, -, -, -, -, -, hswitch, -⟩ := (contactorTold_tells h).keeps
  have htold : findContactor s = if s.pins.loadSide.any then commandPosition true (enterClosed (contactorTold s))
      else if s.pins.loadSide.any != s.switch.kept.commandedClosed then
        markManualClose (setContactor .opened (contactorTold s))
      else setContactor .opened (contactorTold s) := rfl
  rw [htold]
  cases hany : s.pins.loadSide.any
  · cases hcc : s.switch.kept.commandedClosed
    · simp [foundSwitch, setContactor, onSwitch, hswitch, hcc]
      rw [← hcc]
    · simp [foundSwitch, markManualClose, setContactor, onSwitch, hswitch, hcc]
  · simp [foundSwitch, commandPosition, enterClosed, onSwitch, hswitch]

/-- The state in which the one evaluation of step 4 is made: the contactor found, and the hand-offs taken. -/
def toSettle (s : State) : State := { contactorTold s with
  switch := { foundSwitch s.pins.loadSide.any s.switch with
    friendly := friendlyState s
    reasons := ⟨(contactorTold s).tamper.reason, s.decoder.remoteOrder, s.switch.reasons.load, s.credit.reason⟩ } }

theorem contactorStep_eq (h : Early s) : contactorStep s = beginWrite (setStartStep 4 (evaluate (toSettle s))) := by
  obtain ⟨-, -, -, -, -, -, -, -, -, hcredit, hdecoder, -⟩ := (contactorTold_tells h).keeps
  have hload : (foundSwitch s.pins.loadSide.any s.switch).reasons.load = s.switch.reasons.load := by
    unfold foundSwitch
    split_ifs <;> rfl
  have htaken : takeHandOffs (friendlyState s) (findContactor s).tamper.reason (findContactor s).decoder.remoteOrder
      (findContactor s).credit.reason (findContactor s) = toSettle s := by
    rw [findContactor_eq h]
    simp [takeHandOffs, onSwitch, toSettle, hcredit, hdecoder, hload]
  rw [contactorStep, handAtStart, htaken]

/-- What step 4 leaves, part by part. -/
theorem contactorStep_parts (h : Early s) : let t := contactorStep s
    let e := evaluate (toSettle s)
    t.pending = s.pending ∧ t.agenda = s.agenda ∧ t.link = s.link ∧ t.meter = s.meter ∧ t.energy = s.energy ∧
      t.clock = s.clock ∧ t.book = s.book ∧ t.credit = s.credit ∧ t.decoder = s.decoder ∧ t.settings = s.settings ∧
      t.window = s.window ∧ t.battery = s.battery ∧ t.pins = s.pins ∧ t.catchUp = s.catchUp ∧ t.switch = e.switch ∧
      t.tamper = e.tamper ∧ t.intake = { s.intake with work := s.intake.work.map fun w => { w with stage := w.stage.writeBegun } } ∧
      t.supply = { s.supply with startStep := 4, resetWrite := s.supply.resetWrite.begun } ∧
      t.store = { s.store with
        writing := some ⟨s.store.lastNumber + 1, s.store.lastSet.target, sectionsOf t⟩, requested := false, periodic := 0 } := by
  obtain ⟨h1, h2, h3, -, h5, h6, h7, h8, h9, h10, h11, h12, h13, -, h15, h16, h17, h18, h19, -⟩ := (contactorTold_tells h).keeps
  rw [contactorStep_eq h]
  simp [beginWrite, setStartStep, toSettle, sectionsOf, h1, h2, h3, h5, h6, h7, h8, h9, h10, h11, h12, h13, h15, h16, h17, h18]
  rw [h19]
  exact ⟨rfl, ⟨rfl, rfl⟩, rfl, rfl⟩

theorem contactorStep_running (h : Running s t cause i j 3) : Running s (contactorStep t) cause i j 4 := by
  obtain ⟨hpending, hagenda, hlink, -, -, hclock, -, -, -, -, hwindow, -, hpins, hcatch, -, -, hintake, hsupply, hstore⟩ :=
    contactorStep_parts (h.early (by decide))
  obtain ⟨-, -, -, -, -, -, tintake⟩ := h.power
  refine h.next ⟨hpending, hlink, hagenda, by rw [hcatch]⟩ (by rw [hsupply]; exact ⟨rfl, rfl, rfl, rfl, rfl, rfl⟩) ?_ hwindow
    (by rw [hstore]) (by rw [hclock]; exact ⟨rfl, rfl, rfl⟩) hpins (fun hk => absurd hk (by decide)) (by decide)
  rw [hintake, tintake]
  rfl

/-- The evaluation of step 4 releases no fault: the contactor is found CLOSED or OPEN. -/
theorem toSettle_kept (s : State) : released (toSettle s) u = false := by
  cases hany : s.pins.loadSide.any <;> simp [released, toSettle, foundSwitch, hany]

theorem contactorStep_tamper (h : Early s) : (contactorStep s).tamper = (contactorTold s).tamper := by
  obtain ⟨-, -, -, -, -, -, -, -, -, -, -, -, -, -, -, htamper, -⟩ := contactorStep_parts h
  rw [htamper, (evaluate_evaluated (toSettle s)).tamper, toSettle_kept]
  rfl

/-- The contactor that one evaluation leaves, as the contactor is found (R137, R156). -/
theorem toSettle_contactor (s : State) : let a := actingSet (evaluate (toSettle s)) = Reasons.empty
    (s.pins.loadSide.any = true → (evaluate (toSettle s)).switch.contactor = if a then .closed else .opening) ∧
      (s.pins.loadSide.any = false → (evaluate (toSettle s)).switch.contactor =
        if ¬a then .opened else if autoClosePermitted (toSettle s) then .closing else .armed) := by
  have hafter := (evaluate_evaluated (toSettle s)).contactor
  refine ⟨fun hany => ?_, fun hany => ?_⟩
  · have hfound : (toSettle s).switch.contactor = .closed := by simp [toSettle, foundSwitch, hany]
    rw [hafter, contactorAfter, hfound]
    simp
  · have hfound : (toSettle s).switch.contactor = .opened := by simp [toSettle, foundSwitch, hany]
    rw [hafter, contactorAfter, hfound]
    simp

/-- The operation that the evaluation begins, by the contactor state it leaves. -/
theorem toSettle_begins (s : State) : begins (toSettle s) (evaluate (toSettle s)) =
    match (evaluate (toSettle s)).switch.contactor with
    | .opening => some .open
    | .closing => some .close
    | _ => none := by
  obtain ⟨hclosed, hopened⟩ := toSettle_contactor s
  unfold begins
  cases hany : s.pins.loadSide.any
  · have hfound : (toSettle s).switch.contactor = .opened := by simp [toSettle, foundSwitch, hany]
    rw [hopened hany, hfound]
    split_ifs <;> simp_all
  · have hfound : (toSettle s).switch.contactor = .closed := by simp [toSettle, foundSwitch, hany]
    rw [hclosed hany, hfound]
    split_ifs <;> simp_all

/-- The attempt of step 4, and the position that it commands (R139, R141). -/
theorem toSettle_attempt (h : Early s) (hidle : s.switch.attempt = .idle) :
    ((evaluate (toSettle s)).switch.attempt =
      match (evaluate (toSettle s)).switch.contactor with
      | .opening => .pulse .open
      | .closing => .pulse .close
      | _ => .idle) ∧
    (evaluate (toSettle s)).switch.kept.commandedClosed =
      match (evaluate (toSettle s)).switch.contactor with
      | .closed => true
      | .opening => false
      | .closing => true
      | _ => s.switch.kept.commandedClosed := by
  have he := evaluate_evaluated (toSettle s)
  have hdriven : driven (toSettle s) = true := by
    obtain ⟨-, -, -, -, -, -, -, -, -, -, -, -, -, -, -, hsupply, -⟩ := (contactorTold_tells h).keeps
    simp [driven, toSettle, hsupply, h.1]
  have hbefore : (toSettle s).switch.attempt = .idle := by
    rw [← hidle]
    unfold toSettle foundSwitch
    split_ifs <;> rfl
  have hkept := congrArg SwitchKept.commandedClosed he.kept
  have hbegins := toSettle_begins s
  obtain ⟨hclosed, hopened⟩ := toSettle_contactor s
  rw [toSettle_kept] at hkept
  have hplain (hnone : begins (toSettle s) (evaluate (toSettle s)) = none) :
      (evaluate (toSettle s)).switch.attempt = .idle ∧
        (evaluate (toSettle s)).switch.kept.commandedClosed = (toSettle s).switch.kept.commandedClosed := by
    rw [hnone] at hkept
    exact ⟨(he.still hnone).1.trans hbefore, hkept⟩
  have hbegun (w : Winding) (hsome : begins (toSettle s) (evaluate (toSettle s)) = some w) :
      (evaluate (toSettle s)).switch.attempt = .pulse w ∧
        (evaluate (toSettle s)).switch.kept.commandedClosed = decide (w = .close) := by
    rw [hsome] at hkept
    refine ⟨(he.pulse w hsome hdriven).1, hkept.trans ?_⟩
    simp [hdriven]
  cases hany : s.pins.loadSide.any
  · have hposition : (toSettle s).switch.kept.commandedClosed = s.switch.kept.commandedClosed := by
      simp [toSettle, foundSwitch, hany]
    rw [hopened hany] at hbegins ⊢
    split_ifs at hbegins ⊢
    · exact hbegun .close hbegins
    · exact hposition ▸ hplain hbegins
    · exact hposition ▸ hplain hbegins
  · have hposition : (toSettle s).switch.kept.commandedClosed = true := by simp [toSettle, foundSwitch, hany]
    rw [hclosed hany] at hbegins ⊢
    split_ifs at hbegins ⊢
    · exact hposition ▸ hplain hbegins
    · exact hbegun .open hbegins

/-- The automatic close is permitted after step 4 as it was for its evaluation: where nothing acts, the marks and the
opened-by set stand. -/
theorem toSettle_permitted (hquiet : actingSet (evaluate (toSettle s)) = Reasons.empty) :
    autoClosePermitted (evaluate (toSettle s)) = autoClosePermitted (toSettle s) := by
  have hkept := (evaluate_evaluated (toSettle s)).kept
  rw [toSettle_kept, hquiet] at hkept
  simp [autoClosePermitted, hkept, Reasons.union, Reasons.empty]

theorem contactorStep_found (h : Restored s t cause i j 3 x) (hr : Running s t cause i j 3) :
    ContactorFound (contactorStep t) i x := by
  have hearly := hr.early (by decide)
  obtain ⟨-, -, -, -, -, hclock, hbook, hcredit, hdecoder, hsettings, -, -, -, -, hswitch, -⟩ := contactorStep_parts hearly
  have htamper := contactorStep_tamper hearly
  obtain ⟨xkept, xreasons⟩ := h.switch (by decide)
  obtain ⟨hattempt, hposition⟩ := toSettle_attempt hearly (hr.idle (by decide))
  have hany : t.pins.loadSide.any = i.loadSide.any := by rw [hr.pins]
  have he := evaluate_evaluated (toSettle t)
  obtain ⟨hclosed, hopened⟩ := toSettle_contactor t
  obtain ⟨hreasons, hfriendly, -⟩ := he.inputs
  have hkept := he.kept
  have hset : (evaluate (toSettle t)).settings = t.settings := by
    obtain ⟨-, -, -, -, -, -, -, -, -, -, -, hsame, -⟩ := (contactorTold_tells hearly).keeps
    simp [toSettle, hsame]
  obtain ⟨-, hacting, -⟩ := sets_congr (s := evaluate (toSettle t)) (t := contactorStep t) (by rw [hswitch]) (by rw [hswitch])
    (by rw [hswitch]) (hsettings.trans hset.symm)
  have hpermitted (hquiet : actingSet (evaluate (toSettle t)) = Reasons.empty) :
      autoClosePermitted (contactorStep t) = autoClosePermitted (toSettle t) := by
    rw [← toSettle_permitted hquiet]
    simp only [autoClosePermitted, hswitch, hsettings, hset]
  constructor
  case reasons =>
    rw [hswitch, hreasons, htamper, hdecoder, hcredit]
    simp [toSettle, xreasons]
  case friendly =>
    rw [hswitch, hfriendly, hclock, hbook]
    rfl
  case acting => rw [hacting, hswitch, he.acting]
  case found =>
    intro hi
    rw [hacting, hswitch, hclosed (hany.trans hi)]
  case opened =>
    intro hi hne
    rw [hacting] at hne
    rw [hswitch, hopened (hany.trans hi), if_pos hne]
  case armed =>
    intro hi hquiet
    rw [hacting] at hquiet
    rw [hswitch, hopened (hany.trans hi), if_neg (not_not_intro hquiet), hpermitted hquiet]
  case pulse =>
    rw [hswitch]
    exact hattempt
  case kept =>
    rw [toSettle_kept] at hkept
    have hfound : (toSettle t).switch.kept = { x.switch with
        openedBy := if i.loadSide.any then Reasons.empty else x.switch.openedBy
        manualClose := !i.loadSide.any && (x.switch.manualClose || x.switch.commandedClosed)
        commandedClosed := i.loadSide.any || x.switch.commandedClosed } := by
      rw [← hany, ← xkept]
      cases hl : t.pins.loadSide.any <;> simp [toSettle, foundSwitch, hl]
    have hother : (evaluate (toSettle t)).switch.kept = { x.switch with
        openedBy := (if i.loadSide.any then Reasons.empty else x.switch.openedBy).union (actingSet (evaluate (toSettle t)))
        manualClose := !i.loadSide.any && (x.switch.manualClose || x.switch.commandedClosed)
        commandedClosed := (evaluate (toSettle t)).switch.kept.commandedClosed } := by
      rw [hkept, hfound]
      simp
    rw [xkept] at hposition
    rw [hacting, hswitch, hother, hposition] <;> rfl

/-- The SWITCH record behind step 4. -/
theorem contactorStep_records (h : Restored s t cause i j 3 x) (hr : Running s t cause i j 3) :
    (contactorStep t).tamper.records = (viewOf s t cause i x).records 4 t.credit.account.balance := by
  have hearly := hr.early (by decide)
  obtain ⟨henergy, hsettings, -⟩ := h.same
  obtain ⟨xkept, -⟩ := h.switch (by decide)
  have hbefore : t.tamper.records = (viewOf s t cause i x).records 3 t.credit.account.balance := h.records
  have hany : t.pins.loadSide.any = (viewOf s t cause i x).inputs.loadSide.any := by rw [hr.pins]; rfl
  have hposition : t.switch.kept.commandedClosed = (viewOf s t cause i x).restored.switch.commandedClosed := by
    rw [xkept]
    rfl
  rw [contactorStep_tamper hearly, records_four _ _ (by decide)]
  dsimp only
  rw [← hbefore]
  refine Vector.ext fun n hn => ?_
  have hrecord := (contactorTold_tells hearly).record ⟨n, hn⟩
  have hpresent : presentAs t kindSwitch t.tamper.records[kindSwitch] =
      presentAt (viewOf s t cause i x).time ((viewOf s t cause i x).restored.energy.total / 1000000) t.credit.account.balance
        ((viewOf s t cause i x).restored.settings.tamperActions.testBit kindSwitch) t.tamper.records[kindSwitch] := by
    rw [presentAs, henergy, hsettings]
    rfl
  rw [hany, hposition] at hrecord
  refine hrecord.trans (onKind_set kindSwitch _ _ ?_ ⟨n, hn⟩)
  rw [← hpresent]
  rfl

theorem contactorStep_restored (h : Restored s t cause i j 3 x) (hr : Running s t cause i j 3) (ha : Agreed t) :
    Restored s (contactorStep t) cause i j 4 x := by
  have hearly := hr.early (by decide)
  have hfound := contactorStep_found h hr
  obtain ⟨-, -, -, hmeter, henergy, hclock, hbook, hcredit, hdecoder, hsettings, -, hbattery, -, -, -, -, -, hsupply, hstore⟩ :=
    contactorStep_parts hearly
  obtain ⟨xenergy, xsettings, xtime⟩ := h.same
  obtain ⟨hpower, hstep, -⟩ := hr.power
  have hview : viewOf s (contactorStep t) cause i x = viewOf s t cause i x :=
    viewOf_congr (by rw [hclock]) (by rw [hclock]) (by rw [hsupply])
  have hdays : startDays (contactorStep t) x = startDays t x := by simp only [startDays, hclock]
  have hdate : startDate (contactorStep t) x = startDate t x := by simp only [startDate, hdays, hclock]
  constructor
  case sections => exact h.sections
  case same => exact ⟨henergy.trans xenergy, hsettings.trans xsettings, fun hc => by rw [hclock]; exact xtime hc⟩
  case failed => rw [hsupply]; exact h.failed
  case number =>
    rw [hsupply, hstore]
    exact h.number
  case credit =>
    rw [hcredit, hdays]
    exact h.credit
  case book =>
    rw [hbook, hdate]
    exact h.book
  case decoder =>
    rw [hdecoder, hdays]
    simpa using h.decoder
  case meter => rw [hmeter]; exact h.meter
  case records =>
    have hrecords := contactorStep_records h hr
    rw [← hview, ← hcredit] at hrecords
    exact hrecords
  case reason =>
    have hnext : nextStep t = contactorStep t := by simp [nextStep, hstep]
    have hagreed := nextStep_agreed ha hpower
    rw [hnext] at hagreed
    exact hagreed.tamper (by rw [monitorReady, hsupply, hpower]; rfl)
  case battery => rw [hbattery]; exact h.battery
  case inputs =>
    intro _
    rw [contactorStep_tamper hearly, hclock]
    obtain ⟨-, -, -, -, -, -, -, -, -, -, -, -, -, -, -, -, -, -, -, hcase, hcover, hmag⟩ := (contactorTold_tells hearly).keeps
    rw [hcase, hcover, hmag]
    exact h.inputs (by decide)
  case switch => exact fun hk => absurd hk (by decide)
  case contactor => exact fun _ => hfound
  case write =>
    intro _
    rw [hstore]
    exact ⟨rfl, rfl⟩

/-! ## Behind step 5 (R20, R187) -/

/-- The state that step 5 publishes: the exchange memory and its registers cleared, and VBAT sampled. -/
def swept (s : State) : State := { s with
  mem := []
  intake := Intake.cleared
  attn := Attn.cleared
  link := { s.link with frame := none }
  supply := { s.supply with startStep := 5, batteryLow := s.pins.vbat < 2600 } }

theorem pagesStep_eq (s : State) : pagesStep s = { swept s with mem := writePages (swept s) 2 } := by
  simp [pagesStep, putPages, onMem, sampleVbat, clearExchange, endFrame, onLink, onIntake, onAttn, onSupply, setStartStep,
    swept]

/-- What step 5 leaves as it was. -/
theorem pagesStep_keeps (s : State) : let t := pagesStep s
    t.meter = s.meter ∧ t.energy = s.energy ∧ t.clock = s.clock ∧ t.book = s.book ∧ t.credit = s.credit ∧
      t.decoder = s.decoder ∧ t.settings = s.settings ∧ t.window = s.window ∧ t.switch = s.switch ∧ t.tamper = s.tamper ∧
      t.battery = s.battery ∧ t.pins = s.pins ∧ t.store = s.store ∧
      t.supply = { s.supply with startStep := 5, batteryLow := s.pins.vbat < 2600 } := by
  simp [pagesStep_eq, swept]

theorem pagesStep_sweeps (s : State) : let t := pagesStep s
    t.pending = s.pending ∧ t.link = { s.link with frame := none } ∧ t.agenda = s.agenda ∧ t.catchUp = s.catchUp ∧
      t.intake = Intake.cleared ∧ t.attn = Attn.cleared := by
  simp [pagesStep_eq, swept]

theorem writePages_onMem_shows (u : State) (n : Nat) : PagesShow { u with mem := writePages u n } := by
  obtain ⟨hplaced, hgaps⟩ := writePages_shows u n
  exact ⟨hplaced, hgaps⟩

theorem pagesStep_shows (s : State) : PagesShow (pagesStep s) ∧ generation (pagesStep s).mem = 2 ∧
    (∀ a, inPages a = false → (pagesStep s).mem.read a = 0) := by
  rw [pagesStep_eq]
  refine ⟨writePages_onMem_shows (swept s) 2, generation_writePages (swept s) 2, fun a ha => ?_⟩
  exact (read_writePages ha (swept s) 2).trans rfl

theorem pagesStep_found (h : ContactorFound t i x) : ContactorFound (pagesStep t) i x := by
  obtain ⟨-, -, hclock, hbook, hcredit, hdecoder, hsettings, -, hswitch, htamper, -⟩ := pagesStep_keeps t
  obtain ⟨-, hacting, -⟩ := sets_congr (s := t) (t := pagesStep t) (by rw [hswitch]) (by rw [hswitch]) (by rw [hswitch]) hsettings
  have hpermitted : autoClosePermitted (pagesStep t) = autoClosePermitted t := by
    simp only [autoClosePermitted, hswitch, hsettings]
  constructor
  case reasons =>
    rw [hswitch, htamper, hdecoder, hcredit]
    exact h.reasons
  case friendly =>
    rw [hswitch, hclock, hbook]
    exact h.friendly
  case acting =>
    rw [hswitch, hacting]
    exact h.acting
  case found =>
    rw [hswitch, hacting]
    exact h.found
  case opened =>
    rw [hswitch, hacting]
    exact h.opened
  case armed =>
    rw [hswitch, hacting, hpermitted]
    exact h.armed
  case pulse =>
    rw [hswitch]
    exact h.pulse
  case kept =>
    rw [hswitch, hacting]
    exact h.kept

theorem pagesStep_restored (h : Restored s t cause i j 4 x) : Restored s (pagesStep t) cause i j 5 x := by
  have hfound := pagesStep_found (h.contactor (by decide))
  obtain ⟨hmeter, henergy, hclock, hbook, hcredit, hdecoder, hsettings, -, hswitch, htamper, hbattery, -, hstore, hsupply⟩ :=
    pagesStep_keeps t
  have hview : viewOf s (pagesStep t) cause i x = viewOf s t cause i x :=
    viewOf_congr (by rw [hclock]) (by rw [hclock]) (by rw [hsupply])
  have hdays : startDays (pagesStep t) x = startDays t x := by simp only [startDays, hclock]
  have hdate : startDate (pagesStep t) x = startDate t x := by simp only [startDate, hdays, hclock]
  constructor
  case sections => exact h.sections
  case same =>
    rw [henergy, hsettings, hclock]
    exact h.same
  case failed => rw [hsupply]; exact h.failed
  case number =>
    rw [hsupply, hstore]
    exact h.number
  case credit =>
    rw [hcredit, hdays]
    exact h.credit
  case book =>
    rw [hbook, hdate]
    exact h.book
  case decoder =>
    rw [hdecoder, hdays]
    simpa using h.decoder
  case meter => rw [hmeter]; exact h.meter
  case records =>
    have hrecords : t.tamper.records = (viewOf s t cause i x).records 4 t.credit.account.balance := h.records
    have hfive : (pagesStep t).tamper.records =
        (viewOf s (pagesStep t) cause i x).records 5 (pagesStep t).credit.account.balance := by
      rw [htamper, hview, hcredit, hrecords, records_four (k := 4) _ _ (by decide), records_four (k := 5) _ _ (by decide)]
    exact hfive
  case reason => rw [htamper]; exact h.reason
  case battery => rw [hbattery]; exact h.battery
  case inputs =>
    rw [htamper, hclock]
    exact fun _ => h.inputs (by decide)
  case switch => exact fun hk => absurd hk (by decide)
  case contactor => exact fun _ => hfound
  case write =>
    intro _
    have hsections : sectionsOf (pagesStep t) = sectionsOf t := by
      simp only [sectionsOf, hcredit, henergy, hdecoder, hsettings, hbook, hswitch, htamper, hclock]
    rw [hstore, hsections]
    exact h.write (by decide)

/-! ## The steps one after another (R185) -/

theorem runSteps_succ (n : Nat) (s : State) : runSteps (n + 1) s = nextStep (runSteps n s) := by
  induction n generalizing s with
  | zero => rfl
  | succ n ih => exact ih (nextStep s)

/-- The state of a start from `s` after `n` steps. -/
def startedState (cause : StartCause) (i : StartInputs) (j : Image) (s : State) (n : Nat) : State :=
  runSteps n (startState cause i j s)

/-- A start after its first `k` steps, at least one and at most four. -/
structure Underway (s t : State) (cause : StartCause) (i : StartInputs) (j : Image) (k : Nat) : Prop where
  running : Running s t cause i (j.damage i.damage) k
  restored : Restored s t cause i (j.damage i.damage) k (found cause i j)
  agreed : Agreed t

theorem restoreStep_underway (cause : StartCause) (i : StartInputs) (j : Image) (s : State) :
    Underway s (startedState cause i j s 1) cause i j 1 := by
  have hone : startedState cause i j s 1 = restoreStep (startState cause i j s) := rfl
  rw [hone]
  exact ⟨restoreStep_running cause i j s, restoreStep_restored cause i j s, restoreStep_agreed rfl⟩

/-- Each further step, up to the fourth, is one of the steps above. -/
theorem Underway.next (h : Underway s t cause i j k) (h1 : 1 ≤ k) (h4 : k < 4) : Underway s (nextStep t) cause i j (k + 1) := by
  obtain ⟨hpower, hstep, -⟩ := h.running.power
  have hagreed := nextStep_agreed h.agreed hpower
  interval_cases k
  · have hnext : nextStep t = batteryStep t := by simp [nextStep, hstep]
    rw [hnext] at hagreed ⊢
    exact ⟨batteryStep_running h.running, batteryStep_restored h.restored h.running h.agreed, hagreed⟩
  · have hnext : nextStep t = daysStep t := by simp [nextStep, hstep]
    rw [hnext] at hagreed ⊢
    exact ⟨daysStep_running h.running, daysStep_restored h.restored h.running h.agreed, hagreed⟩
  · have hnext : nextStep t = contactorStep t := by simp [nextStep, hstep]
    rw [hnext] at hagreed ⊢
    exact ⟨contactorStep_running h.running, contactorStep_restored h.restored h.running h.agreed, hagreed⟩

theorem startedState_underway (cause : StartCause) (i : StartInputs) (j : Image) (s : State) {n : Nat} (h1 : 1 ≤ n)
    (h4 : n ≤ 4) : Underway s (startedState cause i j s n) cause i j n := by
  induction n, h1 using Nat.le_induction with
  | base => exact restoreStep_underway cause i j s
  | succ n hn ih =>
    have hsucc : startedState cause i j s (n + 1) = nextStep (startedState cause i j s n) := runSteps_succ n _
    rw [hsucc]
    exact (ih (by omega)).next hn (by omega)

/-- Behind its fifth step a start waits for its write (R185). -/
theorem startedState_last (cause : StartCause) (i : StartInputs) (j : Image) (s : State) {n : Nat} (h5 : 5 ≤ n) :
    startedState cause i j s n = pagesStep (startedState cause i j s 4) := by
  induction n, h5 using Nat.le_induction with
  | base =>
    obtain ⟨-, hstep, -⟩ := (startedState_underway cause i j s (n := 4) (by decide) (by decide)).running.power
    have hsucc : startedState cause i j s 5 = nextStep (startedState cause i j s 4) := runSteps_succ 4 _
    rw [hsucc]
    simp [nextStep, hstep]
  | succ n hn ih =>
    have hsucc : startedState cause i j s (n + 1) = nextStep (startedState cause i j s n) := runSteps_succ n _
    have hstep : (pagesStep (startedState cause i j s 4)).supply.startStep = 5 := by
      obtain ⟨-, -, -, -, -, -, -, -, -, -, -, -, -, hsupply⟩ := pagesStep_keeps (startedState cause i j s 4)
      rw [hsupply]
    rw [hsucc, ih]
    simp [nextStep, hstep]

/-! ## What a start leaves (R183 to R187) -/

theorem Running.started (h : Running s t cause i j k) (h5 : k ≠ 5)
    (hnothing : k = 0 → t.mem = [] ∧ t.attn = ⟨0, 0x3F, 0, 0, false, false⟩ ∧ t.battery = s.battery)
    (hrestored : 1 ≤ k → ∃ x, Restored s t cause i j k x) : Started s t cause i j k where
  frame := by rw [if_neg h5]; exact h.frame
  power := h.power
  closed := h.closed
  image := h.image
  clock := h.clock
  nothing := hnothing
  restored := hrestored
  pages hk := absurd hk h5

theorem pagesStep_started (hr : Running s t cause i j 4) (h : Restored s t cause i j 4 x) :
    Started s (pagesStep t) cause i j 5 := by
  obtain ⟨hpending, hlink, hagenda, hchoices⟩ := hr.frame
  obtain ⟨hpower, -, hcause, hhold, hremembered, hlow, -⟩ := hr.power
  obtain ⟨-, -, hclock, -, -, -, -, hwindow, -, -, -, -, hstore, hsupply⟩ := pagesStep_keeps t
  obtain ⟨tpending, tlink, tagenda, tcatch, tintake, tattn⟩ := pagesStep_sweeps t
  obtain ⟨hshows, hgeneration, hzero⟩ := pagesStep_shows t
  constructor
  case frame =>
    rw [if_pos rfl, ← hlink, tcatch]
    exact ⟨tpending.trans hpending, tlink, tagenda.trans hagenda, hchoices⟩
  case power =>
    rw [hsupply, tintake]
    exact ⟨hpower, rfl, hcause, hhold, hremembered, hlow, rfl⟩
  case closed => exact hwindow.trans hr.closed
  case image => rw [hstore]; exact hr.image
  case clock => rw [hclock]; exact hr.clock
  case nothing => exact fun hk => absurd hk (by decide)
  case restored => exact fun _ => ⟨x, pagesStep_restored h⟩
  case pages =>
    refine fun _ => ⟨hshows, hgeneration, hzero, tattn, ?_⟩
    rw [hsupply, hr.pins]

theorem startedState_started (cause : StartCause) (i : StartInputs) (j : Image) (s : State) (n : Nat) :
    Started s (startedState cause i j s n) cause i (j.damage i.damage) (min 5 n) := by
  rcases Nat.lt_or_ge n 5 with hlt | hge
  · rw [Nat.min_eq_right hlt.le]
    rcases Nat.eq_zero_or_pos n with rfl | hpos
    · exact (startState_running cause i j s).started (by decide) (fun _ => ⟨rfl, rfl, rfl⟩) fun hk => absurd hk (by decide)
    · obtain ⟨hrunning, hrestored, -⟩ := startedState_underway cause i j s hpos (Nat.le_of_lt_succ hlt)
      exact hrunning.started hlt.ne (fun hk => absurd hk hpos.ne') fun _ => ⟨_, hrestored⟩
  · obtain ⟨hrunning, hrestored, -⟩ := startedState_underway cause i j s (n := 4) (by decide) (by decide)
    rw [Nat.min_eq_left hge, startedState_last cause i j s hge]
    exact pagesStep_started hrunning hrestored

theorem agenda_of_started (h : Started s t cause i j k) : t.agenda = [] := by
  obtain ⟨-, -, hagenda, -⟩ := h.frame
  exact hagenda

/-- Settles O59: a start's steps are taken one by one, each restoring its part of what the statement names, and behind them
nothing is due. -/
theorem startsRestore : Obligations.StartsRestore := by
  unfold Obligations.StartsRestore
  intro i s ha
  have hstartEntry : exec (.startEntry i) s = .next (arrival (startFromBattery i) s) := rfl
  have hresetStart : exec (.resetStart i) s = .next (arrival (startFromReset i) s) := rfl
  refine ⟨fun hp => ?_, fun hp => ?_, fun hp hh hw => ?_, fun hn => ?_⟩
  · have hstarted := startedState_started (if s.battery.intact then .mainsReturn else .powerOn) i s.store.image s i.steps
    have hstart : startFromBattery i s =
        startedState (if s.battery.intact then .mainsReturn else .powerOn) i s.store.image s i.steps := by
      simp only [startFromBattery, hp, startedState]
    refine ⟨_, ?_, hstarted⟩
    rw [hstartEntry, arrival_of_idle ha, hstart, advance_of_idle (agenda_of_started hstarted)]
  · have hstays : startFromBattery i s = s := by
      unfold startFromBattery
      cases hs : s.supply.power <;> simp_all
    rw [hstartEntry, arrival_of_idle ha, hstays, advance_of_idle ha]
  · have hstarted := startedState_started .resetPin i (imageAtReset s.store) s i.steps
    have hstart : startFromReset i s = startedState .resetPin i (imageAtReset s.store) s i.steps := by
      have hallowed : resetStartAllowed s = true := by simp [resetStartAllowed, hp, hh, hw]
      simp only [startFromReset, hallowed, if_true, startedState]
    refine ⟨_, ?_, hstarted⟩
    rw [hresetStart, arrival_of_idle ha, hstart, advance_of_idle (agenda_of_started hstarted)]
  · have hstays : startFromReset i s = s := by
      have hrefused : resetStartAllowed s = false := by simpa [resetStartAllowed, and_assoc] using hn
      simp [startFromReset, hrefused]
    rw [hresetStart, arrival_of_idle ha, hstays, advance_of_idle ha]

end Sys2Proof.Proofs
end
